-- ==== Sys2Proof/Word.lean ====
section
/-! DEFINITION. The word types of the wire and the four-fold record that holds one thing for each carousel, port, drive group or lane. -/

namespace Sys2Proof

/-- One byte of the line. -/
abbrev Byte := BitVec 8

/-- Item tags, set ids and order ids: 32-bit values of the host (00, "Names in the text"). -/
abbrev Id32 := BitVec 32

/-- Index of a carousel, a port, a drive group or an order lane (lane 1 has index 0). -/
abbrev Index := Fin 4

/-- Four like things, one for each `Index`. -/
structure Quad (α : Type) where
  q0 : α
  q1 : α
  q2 : α
  q3 : α
deriving DecidableEq, Repr

namespace Quad

variable {α : Type}

/-- The thing at an index. -/
def get (q : Quad α) : Index → α
  | 0 => q.q0
  | 1 => q.q1
  | 2 => q.q2
  | 3 => q.q3

/-- The same four things but for the one at `i`. -/
def set (q : Quad α) (i : Index) (v : α) : Quad α :=
  match i with
  | 0 => { q with q0 := v }
  | 1 => { q with q1 := v }
  | 2 => { q with q2 := v }
  | 3 => { q with q3 := v }

/-- Four equal things. -/
def fill (v : α) : Quad α := ⟨v, v, v, v⟩

/-- The same change at each of four. -/
def map {β : Type} (f : α → β) (q : Quad α) : Quad β := ⟨f q.q0, f q.q1, f q.q2, f q.q3⟩

end Quad

/-- All four indices, ascending. -/
def allIndices : List Index := [0, 1, 2, 3]

end Sys2Proof
end

