-- ==== Sys2Proof/Config.lean ====
section
/-! DEFINITION. What the manual fixes once for the part (its capacities and codes), and the two values it leaves open. -/

namespace Sys2Proof.Config

/-- Capacities of the part, as IDENT reports them (R170). -/
def carouselCap : Nat := 4
def carrierCap : Nat := 48
def levelCap : Nat := 6
def groupCap : Nat := 4
def orderCap : Nat := 16
def lineCap : Nat := 8
def collectorCap : Nat := 12
def laneCap : Nat := 4
def laneItemCap : Nat := 8
def rejectCap : Nat := 8
def logCap : Nat := 32
def payloadCap : Nat := 200

/-- Identity of the part (R170). -/
def vendorCode : Nat := 0x0C71
def partCode : Nat := 2640
def revision : Nat := 1

/-- The greatest value of a 32-bit counter that stops at its maximum (R108, R139, R146). -/
def counterMax : Nat := 4294967295

/-- Free value (log 5): which of several ports of one group is served first in a scheduler turn, and which of several
groups takes its turn first. R51: "the part does not fix that order". The argument numbers the choice. -/
opaque portOrder : Nat → Nat

/-- Free value (log 6): the duty in thousandths of a torque measurement whose period count is 0. R152 divides by the period
count and states no result there. The argument is the high count. -/
opaque zeroPeriodDuty : Nat → Nat

end Sys2Proof.Config
end

