-- ==== Sys2Proof/Syntax.lean ====
section
/-! DEFINITION. The commands of the part: one constructor of `Instr` for each row of spec/opcode_table.json. A request
carries the payload bytes of its frame as they came (R163, R173); a plant or timer event carries what the sensor reports. -/

namespace Sys2Proof

/-- A lane of the consolidation station: an order lane 1 to 4 (index 0 to 3), or the reject lane R. -/
inductive Lane where
  | order (i : Index)
  | reject
deriving DecidableEq, Repr

/-- A byte as the receiver gets it from the line: its eight data bits, and whether its stop bit was missing (R159, R161). -/
structure LineByte where
  value : Byte
  framingError : Bool
deriving DecidableEq, Repr

/-- A debounced input of a port (R75). -/
inductive PortInput where
  | home
  | extended
  | load
  | presence (level : Fin 6)
deriving DecidableEq, Repr

/-- The commands. -/
inductive Instr where
  -- power and straps
  | powerOn
  | addressSampling (as1 as0 br1 br0 : Bool) (conversions : List (BitVec 10))
  | portRestJudgement (port : Index) (home extended load : Bool)
  -- the line
  | frameGapTimeout
  | invalidFrame (bytes : List LineByte)
  | frameNotAddressed (addr kind : Byte) (payload : List Byte)
  | unknownKind (kind : Byte) (payload : List Byte)
  | replySend
  | replyDrop (byte : Byte)
  | replyComplete
  -- requests to the link unit
  | ident (payload : List Byte)
  | status (payload : List Byte)
  | setLink (payload : List Byte)
  | ackEvents (payload : List Byte)
  | resume (broadcast : Bool) (payload : List Byte)
  | resetAll (payload : List Byte)
  -- requests to carousels, groups and profiles
  | setCarousel (payload : List Byte)
  | setGroup (payload : List Byte)
  | commission (payload : List Byte)
  | pause (broadcast : Bool) (payload : List Byte)
  | cont (broadcast : Bool) (payload : List Byte)
  | clearFaultGroup (payload : List Byte)
  | clearFaultBalance (payload : List Byte)
  | clearFaultPort (payload : List Byte)
  | clearFaultStation (payload : List Byte)
  | resetGroup (payload : List Byte)
  | balanceRead (payload : List Byte)
  -- requests to the slot map
  | mapBegin (payload : List Byte)
  | mapPut (payload : List Byte)
  | mapCommit (payload : List Byte)
  | mapRead (payload : List Byte)
  | slotQuery (payload : List Byte)
  | slotResolve (payload : List Byte)
  -- requests to the put-away unit, the order scheduler and the station
  | store (payload : List Byte)
  | storeWithdraw (payload : List Byte)
  | storeQuery (payload : List Byte)
  | orderOpen (payload : List Byte)
  | orderCancel (payload : List Byte)
  | orderQuery (payload : List Byte)
  | laneRelease (payload : List Byte)
  | setStation (payload : List Byte)
  | stationQuery (payload : List Byte)
  -- requests to the audit unit
  | auditStart (payload : List Byte)
  | auditStop (payload : List Byte)
  | auditQuery (payload : List Byte)
  | logRead (payload : List Byte)
  -- link timer
  | watchdogExpiry
  -- drive groups
  | startSlot (group : Index)
  | carrierMark (group : Index) (home : Bool)
  | encoderPulse (group : Index) (forward : Bool)
  | settleTimerExpiry (group : Index)
  | referencingSettled (group : Index)
  | stallTimerExpiry (group : Index)
  | driveFault (group : Index) (active : Bool)
  | torqueMeasurement (high period : Nat)
  | torqueVisitTimeout
  -- ports
  | shuttleInputChange (port : Index) (input : PortInput) (active : Bool)
  | insertionComplete (port : Index) (input : PortInput) (active : Bool)
  | extractionComplete (port : Index) (input : PortInput) (active : Bool)
  | infeedTagAnswer (port : Index) (answer : Option Id32)
  | infeedTagTimeout (port : Index)
  | weighingSample (port : Index) (reading : Int)
  | faceTagAnswer (port : Index) (level : Fin 6) (answer : Option Id32)
  | scanTimeout (port : Index)
  | transferTimerExpiry (port : Index)
  | storeTimeTick (ports : BitVec 4)
  -- station
  | collectorEntry
  | laneEntry (lane : Lane)
  | diversionTimeout
  | laneButton (lane : Lane)
deriving DecidableEq, Repr

end Sys2Proof
end

