-- ==== Sys2Proof/WellFormed.lean ====
section
/-! DEFINITION. Well-formed commands: what the line and the plant can send. A payload has at most 200 bytes (R161), an address
sampling has 32 conversions (R160), a measurement has a period no shorter than its high time (R151), a reader never answers
tag 0, a frame of unknown kind has no request kind, a discarded frame
has bytes, and each CLEAR_FAULT row names its own target. `exec` answers for every
command, well-formed or not. -/

namespace Sys2Proof

/-- The request kind codes of section 11.3. -/
def kindCodes : List Nat :=
  [0x01, 0x02, 0x03, 0x04, 0x05, 0x06, 0x10, 0x11, 0x12, 0x13, 0x14, 0x15, 0x16, 0x17, 0x20, 0x21, 0x22, 0x23, 0x24, 0x25,
   0x30, 0x31, 0x32, 0x38, 0x39, 0x3A, 0x40, 0x41, 0x42, 0x48, 0x49, 0x4A, 0x4B]

/-- A payload that a frame can carry. -/
def payloadOk (p : List Byte) : Bool := p.length ≤ Config.payloadCap

/-- The target kind of a CLEAR_FAULT payload, bits 5-4 of its first byte (section 11.4). -/
def clearTarget (p : List Byte) : Nat := (p.getD 0 0#8).toNat / 16 % 4

/-- The scope of a CLEAR_FAULT payload for a group. -/
def clearScope (p : List Byte) : Nat := (p.getD 1 0#8).toNat

/-- An answer of a tag reader: no read, or a tag, which is never zero (00, "Names in the text"). -/
def answerOk : Option Id32 → Bool
  | some t => t != 0#32
  | none => true

/-- Well-formedness of a command. -/
def Instr.wf : Instr → Bool
  | .powerOn => true
  | .addressSampling _ _ _ _ conversions => conversions.length == 32
  | .portRestJudgement _ _ _ _ => true
  | .frameGapTimeout => true
  | .invalidFrame bytes => !bytes.isEmpty
  | .frameNotAddressed _ _ p => payloadOk p
  | .unknownKind kind p => payloadOk p && !kindCodes.contains kind.toNat
  | .replySend => true
  | .replyDrop _ => true
  | .replyComplete => true
  | .ident p | .status p | .setLink p | .ackEvents p | .resume _ p | .resetAll p => payloadOk p
  | .setCarousel p | .setGroup p | .commission p | .pause _ p | .cont _ p => payloadOk p
  | .clearFaultGroup p => payloadOk p && clearTarget p == 0 && clearScope p != 1
  | .clearFaultBalance p => payloadOk p && clearTarget p == 0 && clearScope p == 1
  | .clearFaultPort p => payloadOk p && clearTarget p == 1
  | .clearFaultStation p => payloadOk p && clearTarget p == 2
  | .resetGroup p | .balanceRead p => payloadOk p
  | .mapBegin p | .mapPut p | .mapCommit p | .mapRead p | .slotQuery p | .slotResolve p => payloadOk p
  | .store p | .storeWithdraw p | .storeQuery p | .orderOpen p | .orderCancel p | .orderQuery p => payloadOk p
  | .laneRelease p | .setStation p | .stationQuery p => payloadOk p
  | .auditStart p | .auditStop p | .auditQuery p | .logRead p => payloadOk p
  | .watchdogExpiry => true
  | .startSlot _ => true
  | .carrierMark _ _ => true
  | .encoderPulse _ _ => true
  | .settleTimerExpiry _ => true
  | .referencingSettled _ => true
  | .stallTimerExpiry _ => true
  | .driveFault _ _ => true
  | .torqueMeasurement high period => decide (0 < period) && decide (high ≤ period)
  | .torqueVisitTimeout => true
  | .shuttleInputChange _ _ _ => true
  | .insertionComplete _ _ _ => true
  | .extractionComplete _ _ _ => true
  | .infeedTagAnswer _ a => answerOk a
  | .infeedTagTimeout _ => true
  | .weighingSample _ _ => true
  | .faceTagAnswer _ _ a => answerOk a
  | .scanTimeout _ => true
  | .transferTimerExpiry _ => true
  | .storeTimeTick _ => true
  | .collectorEntry => true
  | .laneEntry _ => true
  | .diversionTimeout => true
  | .laneButton _ => true

end Sys2Proof
end

