-- ==== Sys2Proof/Machine/State.lean ====
section
/-! DEFINITION. The state of the part, as plain data: every record, counter, timer, mode and line that spec/ gives it, and
the queue of the commands that wait. Then `State.reset`, the part right after power comes on. -/

namespace Sys2Proof.Machine

open Sys2Proof

/-! ## Why a step can stop -/

/-- Reasons for which a command stops the part: none. Every failure the spec describes (a refused request, a group, port or
station fault, HOLD) is a state of the part and not a stop, so this type has no constructor (safe). -/
inductive Fault
deriving DecidableEq, Repr

/-- Reasons for which the model refuses a command. -/
inductive Refusal where
  /-- A command that has no meaning in `exec` yet, by the table's mnemonic; raised by an arm of `exec` only (safe). -/
  | notModelled (mnemonic : String)
deriving DecidableEq, Repr

/-! ## Link unit (R159 to R174) -/

/-- Device mode (R167). -/
inductive Mode where
  | normal
  | hold
deriving DecidableEq, Repr

/-- Receiver (R161): off until address sampling ends (R160) and while a reply is sent (R174). -/
inductive Receiver where
  | off
  | hunt
  | inFrame (taken : List Byte)
deriving DecidableEq, Repr

/-- A reply as fixed when its request was taken: the KIND byte and the payload (R164, R174). -/
structure Reply where
  kind : Byte
  payload : List Byte
deriving DecidableEq, Repr

/-- Where the reply stands: none, waiting for its window, or being sent (R164). -/
inductive ReplyPhase where
  | none
  | waiting (r : Reply)
  | sending (r : Reply)
deriving DecidableEq, Repr

/-- The link unit. `wdTimer` is absent while the watchdog is STOPPED and otherwise the timeout in ms it was last loaded with
(log 3). Bit n of `flags` and `mask` is event flag n (section 10.5). -/
structure Link where
  address : Nat
  baud : BitVec 2
  sampled : Bool
  receiver : Receiver
  reply : ReplyPhase
  lineOut : List Byte
  mode : Mode
  flags : BitVec 13
  mask : BitVec 13
  wdCode : Nat
  wdTimer : Option Nat
deriving DecidableEq, Repr

/-! ## Slot map (R3, R23, R29) -/

/-- Configuration record of a CONFIGURED carousel (R3). `levelLimits` holds one limit for each level 0 to S-1. -/
structure CarouselConfig where
  carriers : Nat
  bend : Nat
  port : Nat
  levels : Nat
  carrierLimit : Nat
  pulses : Nat
  levelLimits : List Nat
deriving DecidableEq, Repr

inductive MapState where
  | absent
  | opened
  | committed
deriving DecidableEq, Repr

inductive Content where
  | empty
  | held
deriving DecidableEq, Repr

inductive Condition where
  | clear
  | suspect
  | blocked
deriving DecidableEq, Repr

/-- Phase of a reservation (R29). -/
inductive Phase where
  | planned
  | started
deriving DecidableEq, Repr

/-- Reservation of a slot (R29). -/
inductive Reservation where
  | none
  | inbound (port : Index) (tag : Id32) (mass : Nat) (phase : Phase)
  | outbound (order : Id32) (line : Nat) (phase : Phase)
deriving DecidableEq, Repr

inductive Finding where
  | missing
  | unexpected
  | wrongTag
  | unreadable
  | insertJam
  | extractJam
deriving DecidableEq, Repr

/-- Slot record (R29). A tag of 0 and a member of 0 stand for their absence. -/
structure Slot where
  content : Content
  tag : Id32
  setId : Id32
  member : Nat
  recorded : Nat
  counted : Nat
  condition : Condition
  reservation : Reservation
  stamp : Nat
  finding : Option Finding
deriving DecidableEq, Repr

/-- Reason codes of a NAK and of a commit finding (R163, section 11.3). -/
inductive Reason where
  | format
  | unknownKind
  | range
  | state
  | busy
  | full
  | notFound
  | conflict
  | unavailable
  | balance
  | limit
  | notNormal
deriving DecidableEq, Repr

/-- The finding of the last refused MAP_COMMIT; no level for a carrier-limit failure (R26). -/
structure CommitFinding where
  reason : Reason
  carrier : Nat
  level : Option Nat
deriving DecidableEq, Repr

/-- The map of one carousel: its state, and in OPEN and COMMITTED one list of S slot records for each carrier (R23). -/
structure SlotMap where
  state : MapState
  carriers : List (List Slot)
  finding : Option CommitFinding
deriving DecidableEq, Repr

structure Carousel where
  config : Option CarouselConfig
  map : SlotMap
deriving DecidableEq, Repr

/-! ## Drive channels and drive groups (R6, R9, R10, R59) -/

inductive Direction where
  | forward
  | reverse
deriving DecidableEq, Repr

/-- Speed class (R54); its speed code is 0 for CREEP up to 3 for FAST. -/
inductive SpeedClass where
  | creep
  | gentle
  | normal
  | fast
deriving DecidableEq, Repr

/-- Drive channel: the outputs RUN, DIR and SPEED and the level of DFLT as last taken (R9). -/
structure Channel where
  run : Bool
  dir : Direction
  speed : SpeedClass
  dflt : Bool
deriving DecidableEq, Repr

/-- The fields of a group record that SET_GROUP carries, less the members (R6). `stallTime` is in tenths of a second. -/
structure GroupParams where
  lp : Nat
  ls1 : Nat
  ls2 : Nat
  ld : Nat
  friction : Nat
  fullScale : Nat
  tolerance : Nat
  stallTime : Nat
  autoAudit : Bool
deriving DecidableEq, Repr

inductive GroupState where
  | offline
  | referencing
  | idle
  | moving
  | paused
  | faulted
deriving DecidableEq, Repr

inductive FaultCause where
  | none
  | stall
  | drive
  | position
  | feedback
  | interlock
deriving DecidableEq, Repr

inductive MovePhase where
  | waiting
  | travel
  | settling
deriving DecidableEq, Repr

/-- A task the scheduler may choose (R115): an order line, the store of a port, or the audit step of a carousel. -/
inductive Task where
  | pick (order : Id32) (line : Nat)
  | store (port : Index)
  | audit (carousel : Index)
deriving DecidableEq, Repr

/-- The move record CURRENT holds (R59). -/
structure Move where
  target : Nat
  carrier : Nat
  dir : Direction
  distance : Nat
  pathMax : Nat
  cls : SpeedClass
  phase : MovePhase
  tasks : List Task
  holdStop : Bool
deriving DecidableEq, Repr

/-- The target record NEXT holds (R59). `ended` says that its task has been withdrawn, started or otherwise ended since it was
written: a later task of the same port, or of the same order id and line, is another task (R61, R72, R105, R121). -/
structure Target where
  target : Nat
  carrier : Nat
  task : Task
  ended : Bool
deriving DecidableEq, Repr

/-- The run of pitch steps since the last home step (R14): none yet, all in one direction, or broken. -/
inductive StepRun where
  | fresh
  | oneWay (dir : Direction)
  | broken
deriving DecidableEq, Repr

/-- The last compared torque sample (R154). -/
structure ComparedSample where
  offset : Nat
  measured : Int
  expected : Int
deriving DecidableEq, Repr

/-- The auto watch of a BALANCE_SUSPECT group (R156). -/
structure Watch where
  carousels : List Index
  spoiled : Bool
deriving DecidableEq, Repr

/-- An existing drive group: its record, the run state of the group controller, its profiles and change number, and what the
torque monitor keeps for it. `members` is ascending. `startedHere` is the model's own: the ports at which a transfer has started at
the present arrival (R51, log 43). -/
structure Group where
  members : List Index
  params : GroupParams
  state : GroupState
  k : Option Nat
  cause : FaultCause
  encoder : Int
  markCount : Nat
  homeSteps : Nat
  homeDir : StepRun
  revolution : Nat
  pausePending : Bool
  current : Option Move
  next : Option Target
  arrivalOpen : Bool
  startedHere : Quad Bool
  settle : Bool
  stallTimer : Option Nat
  effective : List Int
  planned : List Int
  changeNo : Nat
  lastSample : Option Int
  invalidCount : Nat
  moveDir : Direction
  moveMarks : Nat
  compared : Nat
  outside : Nat
  lastCompared : Option ComparedSample
  deviant : Nat
  suspect : Bool
  watch : Option Watch
deriving DecidableEq, Repr

/-! ## Ports (R75 to R93) -/

inductive ShuttleState where
  | homeEmpty
  | inserting
  | extracting
  | homeLoaded
  | releasing
  | faulted
deriving DecidableEq, Repr

/-- Port fault record: the jam kind and the work it interrupted (R76). -/
inductive PortFault where
  | insert (carousel : Index) (carrier level : Nat) (store : Index)
  | extract (carrier level : Nat) (order : Id32) (line : Nat)
  | release
  | start
deriving DecidableEq, Repr

/-- Shuttle load record (R76). -/
structure LoadRecord where
  tag : Id32
  mass : Nat
  order : Id32
  line : Nat
deriving DecidableEq, Repr

/-- The slot of the insertion or extraction under way, and whether the home input has been taken inactive since it began
(R84, R86). -/
structure Job where
  carrier : Nat
  level : Nat
  leftHome : Bool
deriving DecidableEq, Repr

/-- Who asked for a scan (R81). `withdrawn` stands for a face check whose line was withdrawn since it began: its end has no
effect (R121). -/
inductive ScanUser where
  | faceCheck (order : Id32) (line : Nat)
  | audit
  | withdrawn
deriving DecidableEq, Repr

/-- What a level of a scan is handed as (R81). `present` is the report of a scan that wants no tags. -/
inductive LevelReport where
  | absent
  | present
  | tag (t : Id32)
  | noRead
  | noReport
deriving DecidableEq, Repr

/-- One named level of a scan, with its report once made. -/
structure LevelEntry where
  level : Nat
  report : Option LevelReport
deriving DecidableEq, Repr

/-- A scan in flight (R81). -/
structure Scan where
  user : ScanUser
  carrier : Nat
  tags : Bool
  levels : List LevelEntry
deriving DecidableEq, Repr

/-- Infeed work of a port (R78, R79): the tag read asked, or a weighing under way. -/
inductive Infeed where
  | awaitTag
  | weighing (count sum largest smallest : Nat)
deriving DecidableEq, Repr

/-- A port controller: its inputs as last taken, its outputs, its shuttle, load and fault records, and the work in hand.
`presence` holds the six level presence lines; `insertOut`, `extractOut` and `releaseOut` are the outputs Insert, Extract and
Release (R75). -/
structure Port where
  home : Bool
  extended : Bool
  load : Bool
  presence : List Bool
  insertOut : Bool
  extractOut : Bool
  releaseOut : Bool
  awaitingRest : Bool
  shuttle : ShuttleState
  fault : Option PortFault
  loadRec : Option LoadRecord
  job : Option Job
  transferTimer : Option Nat
  scan : Option Scan
  infeed : Option Infeed
deriving DecidableEq, Repr

/-! ## Put-away unit (R94) -/

inductive StoreReason where
  | mass
  | unstable
  | tag
  | noSlot
  | balance
  | jam
  | withdrawn
deriving DecidableEq, Repr

inductive StoreState where
  | weighing
  | placed
  | inserting
  | done
  | rejected (reason : StoreReason)
deriving DecidableEq, Repr

/-- Condition of a store's task at the scheduler (R106, R114). -/
inductive TaskCond where
  | pending
  | balanceWait
  | reconsidered
deriving DecidableEq, Repr

/-- Store record (R94). `chosen` is the chosen slot's carrier and level. -/
structure StoreRecord where
  state : StoreState
  tag : Id32
  declared : Nat
  setId : Id32
  member : Nat
  hint : Option Nat
  weighings : Nat
  measured : Option Nat
  corrected : Bool
  chosen : Option (Nat × Nat)
  trialPeak : Option Nat
  waited : Option Nat
  promoted : Bool
  cond : TaskCond
deriving DecidableEq, Repr

/-! ## Order scheduler (R108, R109) -/

inductive OrderState where
  | queued
  | active
  | complete
  | cancelling
  | cancelled
deriving DecidableEq, Repr

inductive ShortReason where
  | missing
  | wrongTag
  | jam
deriving DecidableEq, Repr

/-- State of an order line (R109); BALANCE_WAIT carries the reconsidered mark and SHORT its reason. -/
inductive LineState where
  | reserved
  | balanceWait (reconsidered : Bool)
  | extracting
  | onShuttle
  | releasing
  | inTransit
  | arrived
  | short (reason : ShortReason)
  | withdrawn
deriving DecidableEq, Repr

/-- Line record (R108). -/
structure Line where
  seq : Nat
  tag : Id32
  carousel : Index
  carrier : Nat
  level : Nat
  mass : Nat
  state : LineState
  rejectBound : Bool
deriving DecidableEq, Repr

/-- Order record (R108). `short` is present in COMPLETE; `actSeq` and `lane` are present from activation. -/
structure Order where
  id : Id32
  priority : Nat
  state : OrderState
  short : Option Bool
  openSeq : Nat
  actSeq : Option Nat
  lane : Option Index
  lines : List Line
deriving DecidableEq, Repr

/-- The order scheduler: the table of 16 entries, its two counters, and the order in which stores became PLACED (R115). -/
structure Scheduler where
  orders : List (Option Order)
  openCounter : Nat
  activationCounter : Nat
  placedOrder : List Index
deriving DecidableEq, Repr

/-! ## Station controller (R124 to R138) -/

/-- Collector entry (R128). -/
structure CollectorItem where
  tag : Id32
  order : Id32
  line : Nat
deriving DecidableEq, Repr

inductive Diverter where
  | idle
  | waitingRoom
  | diverting (dest : Lane)
deriving DecidableEq, Repr

inductive LaneState where
  | free
  | filling
  | complete
  | heldCancelled
deriving DecidableEq, Repr

structure LaneItem where
  tag : Id32
  line : Nat
deriving DecidableEq, Repr

/-- Lane record (R135); the stack is in arrival order. -/
structure LaneRecord where
  state : LaneState
  order : Option Id32
  stack : List LaneItem
deriving DecidableEq, Repr

structure RejectItem where
  tag : Id32
  order : Id32
deriving DecidableEq, Repr

/-- Station fault kind; MISROUTE names the lane whose input was taken (R133). -/
inductive StationFaultKind where
  | divertTimeout
  | misroute (lane : Lane)
  | strayEntry
deriving DecidableEq, Repr

/-- The diversion in flight that a station fault record names (R133). -/
structure FaultDiversion where
  tag : Id32
  order : Id32
  line : Nat
  dest : Lane
deriving DecidableEq, Repr

/-- Station fault record (R133). -/
structure StationFault where
  kind : StationFaultKind
  diversion : Option FaultDiversion
  lateArrival : Option Lane
  strayCount : Nat
deriving DecidableEq, Repr

/-- The six station settings (R137): seconds, dkg, seconds, lanes, H and L. -/
structure Settings where
  transferTimeout : Nat
  massTolerance : Nat
  storePatience : Nat
  laneCount : Nat
  high : Nat
  low : Nat
deriving DecidableEq, Repr

/-- The station controller. The station is FAULTED exactly while `fault` is present. `drive`, `position` and `send` are its
outputs: the collector drive, the diverter position and diverter send (R124). -/
structure Station where
  fault : Option StationFault
  releasePort : Option Index
  collector : List CollectorItem
  paused : Bool
  drive : Bool
  diverter : Diverter
  position : Lane
  send : Bool
  diversionTimer : Option Nat
  lanes : Quad LaneRecord
  reject : List RejectItem
  settings : Settings
deriving DecidableEq, Repr

/-! ## Audit unit (R139 to R158) -/

inductive AuditState where
  | running
  | heldLog
  | done
  | stopped
deriving DecidableEq, Repr

inductive Origin where
  | host
  | auto
deriving DecidableEq, Repr

inductive Check where
  | presence
  | tag
deriving DecidableEq, Repr

inductive Selection where
  | span (first count : Nat)
  | oldest (count : Nat)
deriving DecidableEq, Repr

/-- Audit task record (R141). -/
structure AuditTask where
  state : AuditState
  origin : Origin
  check : Check
  selection : Selection
  generation : Nat
  list : List Nat
  findings : Nat
  scan : Option Nat
deriving DecidableEq, Repr

/-- Entry of the discrepancy log (R146). -/
structure LogEntry where
  number : Nat
  carousel : Index
  carrier : Nat
  level : Nat
  kind : Finding
  recordedTag : Option Id32
  readTag : Option Id32
  generation : Nat
deriving DecidableEq, Repr

/-- The torque measurement engine (R151): IDLE (`none`) or MEASURING a group, and the group last visited. -/
structure Engine where
  measuring : Option Index
  last : Index
deriving DecidableEq, Repr

structure Audit where
  generation : Nat
  tasks : Quad (Option AuditTask)
  log : List LogEntry
  entryCounter : Nat
  engine : Engine
deriving DecidableEq, Repr

/-! ## The state -/

/-- The whole state of the part. `choices` and `pending` are the model's own: the number of open choices taken so far (the
argument of `Config.portOrder`, log 5) and the queue of waiting commands, the next one first. -/
structure State where
  link : Link
  carousels : Quad Carousel
  channels : Quad Channel
  groups : Quad (Option Group)
  startSlot : Index
  ports : Quad Port
  stores : Quad (Option StoreRecord)
  sched : Scheduler
  station : Station
  audit : Audit
  choices : Nat
  pending : List Instr
deriving DecidableEq, Repr

/-! ## Power-on values, block by block -/

/-- The link unit as power comes on (R160, R166, R168, R169). Address and baud rate: log 7. -/
def Link.powerOn : Link where
  address := 0
  baud := 0#2
  sampled := false
  receiver := .off
  reply := .none
  lineOut := []
  mode := .normal
  flags := 0#13
  mask := BitVec.allOnes 13
  wdCode := 2
  wdTimer := none

/-- R3, R23: UNCONFIGURED, with an ABSENT map and no commit finding. -/
def Carousel.powerOn : Carousel where
  config := none
  map := { state := .absent, carriers := [], finding := none }

/-- R9: RUN low, DIR forward, SPEED 0. The level of DFLT: log 8. -/
def Channel.powerOn : Channel where
  run := false
  dir := .forward
  speed := .creep
  dflt := false

/-- R75, R76: FAULTED with jam kind START until the first judgement, every output inactive. The input levels: log 8. -/
def Port.powerOn : Port where
  home := false
  extended := false
  load := false
  presence := List.replicate 6 false
  insertOut := false
  extractOut := false
  releaseOut := false
  awaitingRest := true
  shuttle := .faulted
  fault := some .start
  loadRec := none
  job := none
  transferTimer := none
  scan := none
  infeed := none

/-- R108: every entry free, both counters 0. -/
def Scheduler.powerOn : Scheduler where
  orders := List.replicate Config.orderCap none
  openCounter := 0
  activationCounter := 0
  placedOrder := []

/-- R137: the defaults of the six settings. -/
def Settings.powerOn : Settings where
  transferTimeout := 8
  massTolerance := 10
  storePatience := 60
  laneCount := 4
  high := 10
  low := 6

/-- R124, R127 to R130, R133, R135. -/
def Station.powerOn : Station where
  fault := none
  releasePort := none
  collector := []
  paused := false
  drive := true
  diverter := .idle
  position := .reject
  send := false
  diversionTimer := none
  lanes := Quad.fill { state := .free, order := none, stack := [] }
  reject := []
  settings := Settings.powerOn

/-- R139, R141, R146, R151. -/
def Audit.powerOn : Audit where
  generation := 0
  tasks := Quad.fill none
  log := []
  entryCounter := 0
  engine := { measuring := none, last := 3 }

/-- The part right after power comes on: address sampling has begun and the receiver is off (R160). -/
def State.reset : State where
  link := Link.powerOn
  carousels := Quad.fill Carousel.powerOn
  channels := Quad.fill Channel.powerOn
  groups := Quad.fill none
  startSlot := 0
  ports := Quad.fill Port.powerOn
  stores := Quad.fill none
  sched := Scheduler.powerOn
  station := Station.powerOn
  audit := Audit.powerOn
  choices := 0
  pending := []

end Sys2Proof.Machine
end

