-- ==== Sys2Proof/Machine/Flags.lean ====
section
/-! DEFINITION. The thirteen event flags, their mask and the ATTN output (section 10.5, R168, R169). -/

namespace Sys2Proof.Machine

open Sys2Proof

/-- The events of the flag table of section 10.5. -/
inductive Event where
  | storeDone
  | storeRejected
  | orderComplete
  | orderShort
  | balanceWait
  | balanceSuspect
  | auditDone
  | discrepancy
  | positionLost
  | groupFault
  | portFault
  | stationFault
  | hold
deriving DecidableEq, Repr

/-- Flag number of an event (section 10.5). -/
def eventBit : Event → Nat
  | .storeDone => 0
  | .storeRejected => 1
  | .orderComplete => 2
  | .orderShort => 3
  | .balanceWait => 4
  | .balanceSuspect => 5
  | .auditDone => 6
  | .discrepancy => 7
  | .positionLost => 8
  | .groupFault => 9
  | .portFault => 10
  | .stationFault => 11
  | .hold => 12

/-- The flags with one more set; a flag already set stays set (R168). -/
def setFlag (e : Event) (flags : BitVec 13) : BitVec 13 := flags ||| (1#13 <<< eventBit e)

/-- An event is taken: its flag is set, enabled or not (R168). Until address sampling is complete every flag stays clear
(R160; log 30). -/
def raiseEvent (e : Event) (s : State) : State :=
  { s with link := { s.link with flags := if s.link.sampled then setFlag e s.link.flags else s.link.flags } }

/-- The flags named in `named` are cleared and no other (R168). -/
def clearFlags (named flags : BitVec 13) : BitVec 13 := flags &&& ~~~named

/-- Whether the flag of an event is set. -/
def State.flagSet (s : State) (e : Event) : Bool := s.link.flags.getLsbD (eventBit e)

/-- ATTN is driven low while at least one flag is both set and enabled, and is released before address sampling ends (R169). -/
def State.attnLow (s : State) : Bool := s.link.sampled && (s.link.flags &&& s.link.mask != 0#13)

end Sys2Proof.Machine
end

