-- ==== Sys2Proof/Machine/Ops.lean ====
section
/-! DEFINITION. The named operations over State that every block uses: reading and writing one carousel, slot, group,
channel, port, store, order and line; ranking by a key; taking members in a free order; the drive outputs with what hangs on
RUN; and taking a group fault (R18), which every cause shares. -/

namespace Sys2Proof.Machine

open Sys2Proof

/-! ## Ranking by a key -/

/-- Keys compared field by field; the first field that differs decides. -/
def lexLt : List Nat → List Nat → Bool
  | [], [] => false
  | [], _ :: _ => true
  | _ :: _, [] => false
  | a :: as, b :: bs => if a < b then true else if b < a then false else lexLt as bs

/-- The first item with the lowest key. -/
def bestBy {α : Type} (key : α → List Nat) : List α → Option α
  | [] => none
  | a :: as =>
    match bestBy key as with
    | none => some a
    | some b => if lexLt (key b) (key a) then some b else some a

/-- An item put into a ranked list before the first item of a higher key. -/
def insertRanked {α : Type} (key : α → List Nat) (a : α) : List α → List α
  | [] => [a]
  | b :: bs => if lexLt (key a) (key b) then a :: b :: bs else b :: insertRanked key a bs

/-- The items in rising key order; items of equal key keep their order. -/
def rank {α : Type} (key : α → List Nat) (as : List α) : List α :=
  as.foldl (fun acc a => insertRanked key a acc) []

/-- The items of a list with their positions. -/
def numbered {α : Type} : Nat → List α → List (Nat × α)
  | _, [] => []
  | n, a :: as => (n, a) :: numbered (n + 1) as

/-! ## Free order (log 5) -/

/-- An item put at a place of a list, at its end where the place lies beyond it. -/
def insertAt {α : Type} (a : α) : Nat → List α → List α
  | 0, bs => a :: bs
  | _ + 1, [] => [a]
  | n + 1, b :: bs => b :: insertAt a n bs

/-- The list in an order that the part does not fix (R51): `Config.portOrder` decides, from choice number `n` on. An item
before others that all equal it asks no choice. -/
def freeOrder {α : Type} [DecidableEq α] (n : Nat) : List α → List α
  | [] => []
  | a :: bs =>
    if bs.all (a == ·) then a :: bs
    else insertAt a (Config.portOrder n % (bs.length + 1)) (freeOrder (n + 1) bs)

/-- The state after `freeOrder` has been asked about a list: at most one choice for each item but the last. -/
def spendChoices {α : Type} (as : List α) (s : State) : State :=
  { s with choices := s.choices + (as.length - 1) }

/-! ## Counters -/

/-- A counter that stops at 4,294,967,295 (R108, R139, R146). -/
def countUp (n : Nat) : Nat := if n < Config.counterMax then n + 1 else Config.counterMax

/-! ## Offsets -/

/-- (a - b) mod C. -/
def subMod (a b c : Nat) : Nat := (a + (c - b % c)) % c

/-! ## One component of the state -/

def State.setLink (s : State) (l : Link) : State := { s with link := l }

def State.setCarousel (s : State) (x : Index) (c : Carousel) : State :=
  { s with carousels := s.carousels.set x c }

def State.setChannel (s : State) (g : Index) (c : Channel) : State :=
  { s with channels := s.channels.set g c }

def State.setGroup (s : State) (g : Index) (grp : Option Group) : State :=
  { s with groups := s.groups.set g grp }

def State.setPort (s : State) (p : Index) (port : Port) : State :=
  { s with ports := s.ports.set p port }

def State.setStore (s : State) (p : Index) (r : Option StoreRecord) : State :=
  { s with stores := s.stores.set p r }

def State.setSched (s : State) (sch : Scheduler) : State := { s with sched := sch }

def State.setStation (s : State) (st : Station) : State := { s with station := st }

def State.setAudit (s : State) (a : Audit) : State := { s with audit := a }

/-- An existing group changed; nothing where the group does not exist. -/
def State.modGroup (s : State) (g : Index) (f : Group → Group) : State :=
  match s.groups.get g with
  | some grp => s.setGroup g (some (f grp))
  | none => s

def State.modPort (s : State) (p : Index) (f : Port → Port) : State := s.setPort p (f (s.ports.get p))

def State.modChannel (s : State) (g : Index) (f : Channel → Channel) : State :=
  s.setChannel g (f (s.channels.get g))

/-- A store record changed; nothing where the record is free. -/
def State.modStore (s : State) (p : Index) (f : StoreRecord → StoreRecord) : State :=
  match s.stores.get p with
  | some r => s.setStore p (some (f r))
  | none => s

/-- A carousel's task record changed; nothing where it has none. -/
def State.modTask (s : State) (x : Index) (f : AuditTask → AuditTask) : State :=
  match s.audit.tasks.get x with
  | some t => s.setAudit { s.audit with tasks := s.audit.tasks.set x (some (f t)) }
  | none => s

def State.setTask (s : State) (x : Index) (t : Option AuditTask) : State :=
  s.setAudit { s.audit with tasks := s.audit.tasks.set x t }

/-! ## Carousels and slots -/

/-- The slot record of a new EMPTY slot (R24). -/
def emptySlot : Slot where
  content := .empty
  tag := 0#32
  setId := 0#32
  member := 0
  recorded := 0
  counted := 0
  condition := .clear
  reservation := .none
  stamp := 0
  finding := none

/-- The mass limit of a level of a configuration. -/
def CarouselConfig.levelLimit (cfg : CarouselConfig) (l : Nat) : Nat := cfg.levelLimits.getD l 0

/-- The slots of a carrier of carousel `x`. -/
def State.carrierSlots (s : State) (x : Index) (c : Nat) : List Slot :=
  (s.carousels.get x).map.carriers.getD c []

/-- The slot record at carousel, carrier and level, where the map holds one. -/
def State.slot? (s : State) (x : Index) (c l : Nat) : Option Slot := (s.carrierSlots x c)[l]?

/-- One slot record replaced. -/
def SlotMap.setSlot (m : SlotMap) (c l : Nat) (sl : Slot) : SlotMap :=
  { m with carriers := m.carriers.modify c (fun ls => ls.set l sl) }

def State.setSlot (s : State) (x : Index) (c l : Nat) (sl : Slot) : State :=
  s.setCarousel x { s.carousels.get x with map := (s.carousels.get x).map.setSlot c l sl }

/-- A slot record changed; nothing where the map holds none there. -/
def State.modSlot (s : State) (x : Index) (c l : Nat) (f : Slot → Slot) : State :=
  match s.slot? x c l with
  | some sl => s.setSlot x c l (f sl)
  | none => s

/-- A slot that is free: EMPTY, CLEAR, reservation NONE (R30). -/
def Slot.isFree (sl : Slot) : Bool :=
  sl.content == .empty && sl.condition == .clear && sl.reservation == .none

/-- A slot that is stocked: HELD, CLEAR, reservation NONE (R30). -/
def Slot.isStocked (sl : Slot) : Bool :=
  sl.content == .held && sl.condition == .clear && sl.reservation == .none

/-! ## Groups -/

/-- The group a carousel belongs to. -/
def State.groupOf (s : State) (x : Index) : Option Index :=
  allIndices.find? fun g =>
    match s.groups.get g with
    | some grp => grp.members.contains x
    | none => false

/-- The group a carousel belongs to, where that group is not OFFLINE (in service, R37). -/
def State.serviceGroup (s : State) (x : Index) : Option Index :=
  match s.groupOf x with
  | some g =>
    match s.groups.get g with
    | some grp => if grp.state = .offline then none else some g
    | none => none
  | none => none

/-- The members of a group; none where it does not exist. -/
def State.membersOf (s : State) (g : Index) : List Index :=
  match s.groups.get g with
  | some grp => grp.members
  | none => []

/-- What the members of a group share: C, b, P and Ep (R7). -/
structure Geometry where
  carriers : Nat
  bend : Nat
  port : Nat
  pulses : Nat
deriving DecidableEq, Repr

def CarouselConfig.geometry (cfg : CarouselConfig) : Geometry :=
  { carriers := cfg.carriers, bend := cfg.bend, port := cfg.port, pulses := cfg.pulses }

/-- The geometry of a carousel; zeros where it is UNCONFIGURED. -/
def State.geometryOf (s : State) (x : Index) : Geometry :=
  match (s.carousels.get x).config with
  | some cfg => cfg.geometry
  | none => { carriers := 0, bend := 0, port := 0, pulses := 0 }

/-- The geometry of a group, read from its lowest-indexed member (R7). -/
def State.geometry (s : State) (g : Index) : Geometry :=
  match s.membersOf g with
  | x :: _ => s.geometryOf x
  | [] => { carriers := 0, bend := 0, port := 0, pulses := 0 }

/-- The carrier at the member ports at offset k: (P - k) mod C (R2). -/
def Geometry.atPort (geo : Geometry) (k : Nat) : Nat := subMod geo.port k geo.carriers

/-- The offset that brings carrier c to the ports: (P - c) mod C (R2). -/
def Geometry.targetOf (geo : Geometry) (c : Nat) : Nat := subMod geo.port c geo.carriers

/-- Whether an existing group is in a state. -/
def State.groupIn (s : State) (g : Index) (st : GroupState) : Bool :=
  match s.groups.get g with
  | some grp => grp.state == st
  | none => false

/-! ## Orders and lines -/

/-- The table index and record of the order with an id. -/
def State.findOrder (s : State) (id : Id32) : Option (Nat × Order) :=
  (numbered 0 s.sched.orders).findSome? fun (i, e) =>
    match e with
    | some o => if o.id = id then some (i, o) else none
    | none => none

/-- The line of an order with a sequence number. -/
def Order.line? (o : Order) (seq : Nat) : Option Line := o.lines.find? fun l => l.seq == seq

/-- The line of the order with an id. -/
def State.findLine (s : State) (id : Id32) (seq : Nat) : Option Line :=
  match s.findOrder id with
  | some (_, o) => o.line? seq
  | none => none

/-- Every order of the table changed. -/
def State.mapOrders (s : State) (f : Order → Order) : State :=
  s.setSched { s.sched with orders := s.sched.orders.map fun e => e.map f }

/-- The order with an id changed. -/
def State.modOrder (s : State) (id : Id32) (f : Order → Order) : State :=
  s.mapOrders fun o => if o.id = id then f o else o

/-- One line of an order changed. -/
def Order.modLine (o : Order) (seq : Nat) (f : Line → Line) : Order :=
  { o with lines := o.lines.map fun l => if l.seq = seq then f l else l }

def State.modLine (s : State) (id : Id32) (seq : Nat) (f : Line → Line) : State :=
  s.modOrder id fun o => o.modLine seq f

/-- The state of one line replaced. -/
def State.setLine (s : State) (id : Id32) (seq : Nat) (st : LineState) : State :=
  s.modLine id seq fun l => { l with state := st }

/-- The table entry of the order with an id freed (R113, R122). -/
def State.freeOrder (s : State) (id : Id32) : State :=
  s.setSched { s.sched with orders := s.sched.orders.map fun e =>
    match e with
    | some o => if o.id = id then none else some o
    | none => none }

/-! ## The measurement engine follows RUN (R151) -/

/-- The next group above `last`, counted round, that has RUN high. -/
def State.nextDriving (s : State) (last : Index) : Option Index :=
  [last + 1, last + 2, last + 3, last].find? fun g => (s.channels.get g).run

/-- A visit begins at the next group with RUN high; without one the engine is IDLE. -/
def beginVisit (s : State) : State :=
  match s.nextDriving s.audit.engine.last with
  | some g => s.setAudit { s.audit with engine := { measuring := some g, last := g } }
  | none => s.setAudit { s.audit with engine := { s.audit.engine with measuring := none } }

/-- After a change of a RUN line: a visit of a group whose RUN is low is abandoned, and an IDLE engine begins a visit. -/
def followRun (s : State) : State :=
  match s.audit.engine.measuring with
  | some g => if (s.channels.get g).run then s else beginVisit s
  | none => beginVisit s

/-! ## The drive outputs (R9) -/

/-- RUN of one group falls: SPEED returns to 0 and the stall timer stops (R9, R16). -/
def lowerRun (g : Index) (s : State) : State :=
  (s.modChannel g fun ch => { ch with run := false, speed := .creep }).modGroup g fun grp => { grp with stallTimer := none }

/-- RUN of one group falls, and the measurement engine follows (R151). -/
def dropRun (g : Index) (s : State) : State := followRun (lowerRun g s)

/-- DIR and SPEED are set and RUN rises: the stall timer starts, and the torque monitor's last sample and invalid count are
cleared (R9, R16, R153). -/
def raiseRun (g : Index) (dir : Direction) (speed : SpeedClass) (s : State) : State :=
  followRun ((s.modChannel g fun ch => { ch with run := true, dir := dir, speed := speed }).modGroup g
    fun grp => { grp with stallTimer := some grp.params.stallTime, lastSample := none, invalidCount := 0 })

/-! ## Scans in flight (R81, R143) -/

/-- A scan in flight at a port is discarded: nothing is handed, and an audit task finds itself without a scan. -/
def discardScan (p : Index) (s : State) : State :=
  match (s.ports.get p).scan with
  | some sc =>
    let s := s.modPort p fun port => { port with scan := none }
    match sc.user with
    | .audit => s.modTask p fun t => { t with scan := none }
    | .faceCheck _ _ | .withdrawn => s
  | none => s

/-- The scans in flight at every member port of a group are discarded. -/
def discardScans (g : Index) (s : State) : State :=
  (s.membersOf g).foldl (fun s p => discardScan p s) s

/-! ## Taking a group fault (R18, R70) -/

/-- A cause is taken. A group that is OFFLINE or already FAULTED, or does not exist, is left as it stands. Otherwise RUN
falls, the move slots, pending stops and settle timer are cleared, k becomes invalid, the cause is recorded, scans at the
member ports are discarded (R81) and GROUP_FAULT is set, with POSITION_LOST for the cause POSITION. -/
def groupFault (g : Index) (cause : FaultCause) (s : State) : State :=
  match s.groups.get g with
  | none => s
  | some grp =>
    if grp.state = .offline ∨ grp.state = .faulted then s
    else
      let s := dropRun g s
      let s := s.modGroup g fun grp =>
        { grp with state := .faulted, k := none, cause := cause, current := none, next := none,
                   pausePending := false, arrivalOpen := false, startedHere := Quad.fill false, settle := false }
      let s := discardScans g s
      let s := raiseEvent .groupFault s
      if cause = .position then raiseEvent .positionLost s else s

end Sys2Proof.Machine
end

