-- ==== Sys2Proof/Machine/Balance.lean ====
section
/-! DEFINITION. The balance arithmetic: lever weights (R1), profiles and their increments (R41 to R46), the placement gate
(R47, R48), the transfer gate (R49, R50, R53), reconsideration (R52), direction and speed class (R54 to R56) and expected
torque (R57). Every quantity is an exact integer (R46). -/

namespace Sys2Proof.Machine

open Sys2Proof

/-! ## Lever weights (R1) -/

/-- t_j of a bend of length b (R1). -/
def bendWeight (b j : Nat) : Int :=
  match b, j with
  | 1, 0 => 0
  | 2, 0 => 3
  | 2, 1 => -3
  | 3, 0 => 3
  | 3, 1 => 0
  | 3, 2 => -3
  | 4, 0 => 4
  | 4, 1 => 2
  | 4, 2 => -2
  | 4, 3 => -4
  | _, _ => 0

/-- Run length r = (C - 2b)/2 (R1). -/
def runLength (c b : Nat) : Nat := (c - 2 * b) / 2

/-- Lever weight w(p) of loop position p (R1). -/
def leverWeight (c b p : Nat) : Int :=
  let r := runLength c b
  if p < r then 4
  else if p < r + b then bendWeight b (p - r)
  else if p < 2 * r + b then -4
  else -bendWeight b (p - (2 * r + b))

/-! ## Profiles -/

/-- C zeros. -/
def zeroProfile (c : Nat) : List Int := List.replicate c 0

/-- What a signed mass at a carrier adds to a profile: w((c + k) mod C) × ΔM for every k (R44). -/
def massProfile (geo : Geometry) (c : Nat) (dm : Int) : List Int :=
  (List.range geo.carriers).map fun k => leverWeight geo.carriers geo.bend ((c + k) % geo.carriers) * dm

/-- Two profiles added, offset by offset. -/
def addProfile (a b : List Int) : List Int := List.zipWith (fun x y => x + y) a b

/-- The peak of a profile: its largest magnitude (R43). -/
def peak (e : List Int) : Nat := e.foldl (fun m v => max m v.natAbs) 0

/-- The trial profile of a change, and its peak (R48, R49). -/
def trialPeak (geo : Geometry) (profile : List Int) (c : Nat) (dm : Int) : Nat :=
  peak (addProfile profile (massProfile geo c dm))

/-! ## Increments (R44) and reconsideration (R52) -/

/-- A line of group `g` in BALANCE_WAIT takes reconsidered yes (R114). -/
def reconsiderLine (s : State) (g : Index) (l : Line) : Line :=
  match l.state with
  | .balanceWait _ => if s.groupOf l.carousel = some g then { l with state := .balanceWait true } else l
  | _ => l

/-- A store whose task is in BALANCE_WAIT is marked reconsidered (R114). -/
def reconsiderStore (r : StoreRecord) : StoreRecord :=
  if r.cond = .balanceWait then { r with cond := .reconsidered } else r

/-- Every task of a group in BALANCE_WAIT is marked reconsidered (R52, R114). -/
def reconsider (g : Index) (s : State) : State :=
  let s := s.mapOrders fun o => { o with lines := o.lines.map (reconsiderLine s g) }
  (s.membersOf g).foldl (fun s p => s.modStore p reconsiderStore) s

/-- Which profiles a change names (R44). -/
inductive Named where
  | effective
  | planned
  | both
deriving DecidableEq, Repr

def Named.hasE : Named → Bool
  | .planned => false
  | _ => true

def Named.hasP : Named → Bool
  | .effective => false
  | _ => true

/-- The profiles of a group after a change; the change number advances by one and wraps (R41, R44). -/
def Group.addMass (grp : Group) (geo : Geometry) (c : Nat) (dm : Int) (which : Named) : Group :=
  let inc := massProfile geo c dm
  { grp with
    effective := if which.hasE then addProfile grp.effective inc else grp.effective
    planned := if which.hasP then addProfile grp.planned inc else grp.planned
    changeNo := (grp.changeNo + 1) % 65536 }

/-- A signed change of mass at carrier `c` of carousel `x` is handed to the balance unit (R31, R44). It is taken when the
carousel belongs to a group that is not OFFLINE and the change is not 0. A change that names E reconsiders the group's waiting
tasks (R52). -/
def handMass (x : Index) (c : Nat) (dm : Int) (which : Named) (s : State) : State :=
  if dm = 0 then s
  else
    match s.serviceGroup x with
    | none => s
    | some g =>
      let s := s.modGroup g fun grp => grp.addMass (s.geometry g) c dm which
      if which.hasE then reconsider g s else s

/-! ## Profiles from scratch (R45) -/

/-- The increments of every HELD slot of one carousel's map, added to a profile. -/
def mapProfile (geo : Geometry) (carriers : List (List Slot)) (e : List Int) : List Int :=
  (numbered 0 carriers).foldl
    (fun e (c, ls) =>
      ls.foldl (fun e sl =>
        if sl.content = .held then addProfile e (massProfile geo c (sl.recorded : Int)) else e) e) e

/-- The effective profile computed from the members' maps (R45). -/
def State.freshProfile (s : State) (g : Index) : List Int :=
  (s.membersOf g).foldl
    (fun e x => mapProfile (s.geometry g) (s.carousels.get x).map.carriers e) (zeroProfile (s.geometry g).carriers)

/-! ## The placement query (R47, R48) -/

/-- Answer of a placement query. -/
inductive PlacementAnswer where
  | limit
  | gate (trial : Nat)
  | pass (trial : Nat)
deriving DecidableEq, Repr

/-- The mass a slot counts against its carrier's limit: its counted mass, and the incoming mass of a reservation IN in phase
PLANNED (R31, R47). -/
def Slot.limitMass (sl : Slot) : Nat :=
  sl.counted + match sl.reservation with
    | .inbound _ _ m .planned => m
    | _ => 0

/-- The sum the carrier limit bounds (R31, R47). -/
def carrierLoad (ls : List Slot) : Nat := (ls.map Slot.limitMass).sum

/-- A placement query for mass `m` at a carrier and level of carousel `x`, a member of group `g` (R47, R48). -/
def placementQuery (s : State) (g x : Index) (c l m : Nat) : PlacementAnswer :=
  match (s.carousels.get x).config, s.groups.get g with
  | some cfg, some grp =>
    if cfg.levelLimit l < m then .limit
    else if cfg.carrierLimit < carrierLoad (s.carrierSlots x c) + m then .limit
    else
      let t := trialPeak (s.geometry g) grp.planned c m
      if t ≤ grp.params.lp then .pass t else .gate t
  | _, _ => .limit

/-! ## The transfer gate (R49, R50, R53) -/

/-- Whether the transfer gate passes a change at a carrier of group `g`: the trial peak is at most Ld (R49). -/
def gatePasses (s : State) (g : Index) (c : Nat) (dm : Int) : Bool :=
  match s.groups.get g with
  | some grp => trialPeak (s.geometry g) grp.effective c dm ≤ grp.params.ld
  | none => false

/-- The task that asked is marked BALANCE_WAIT and the event is set (R50). -/
def markWait (t : Task) (s : State) : State :=
  let s := match t with
    | .pick id seq => s.setLine id seq (.balanceWait false)
    | .store p => s.modStore p fun r => { r with cond := .balanceWait }
    | .audit _ => s
  raiseEvent .balanceWait s

/-- Whether a task carries reconsidered yes (R114). -/
def State.reconsidered (s : State) : Task → Bool
  | .pick id seq =>
    match s.findLine id seq with
    | some l => l.state == .balanceWait true
    | none => false
  | .store p =>
    match s.stores.get p with
    | some r => r.cond == .reconsidered
    | none => false
  | .audit _ => false

/-- A task in BALANCE_WAIT takes reconsidered yes (R52, R114). -/
def reconsiderTask (t : Task) (s : State) : State :=
  match t with
  | .pick id seq => s.setLine id seq (.balanceWait true)
  | .store p => s.modStore p reconsiderStore
  | .audit _ => s

/-- A transfer starts at port `p`: its group keeps that for as long as its carriers stand where they are (R51, log 43). -/
def noteStart (p : Index) (s : State) : State :=
  match s.groupOf p with
  | some g => s.modGroup g fun grp => { grp with startedHere := grp.startedHere.set p true }
  | none => s

/-- Whether a transfer has started at a member port beside `p` at this arrival, in flight or ended since (R51, log 43). -/
def startedBeside (s : State) (g p : Index) : Bool :=
  match s.groups.get g with
  | some grp => grp.members.any fun x => x != p && grp.startedHere.get x
  | none => false

/-- The transfer of a task at port `p` fails its gate (R50): the task waits. Where E already holds the start of another member
port's transfer, that start reconsiders the task as well, once (R51, R52; log 43). -/
def failGate (g p : Index) (t : Task) (s : State) : State :=
  if startedBeside s g p && !s.reconsidered t then reconsiderTask t (markWait t s) else markWait t s

/-! ## Direction and speed class (R54, R55) -/

/-- The answer of the balance unit for a move. -/
structure MoveAnswer where
  dir : Direction
  distance : Nat
  pathMax : Nat
  cls : SpeedClass
deriving DecidableEq, Repr

/-- The offsets of a path, both ends included (R54). -/
def pathOffsets (c k d : Nat) : Direction → List Nat
  | .forward => (List.range (d + 1)).map fun i => (k + i) % c
  | .reverse => (List.range (d + 1)).map fun i => subMod k i c

/-- The path maximum (R54). -/
def pathMaximum (e : List Int) (offsets : List Nat) : Nat :=
  offsets.foldl (fun m j => max m (e.getD j 0).natAbs) 0

/-- Speed class of a path maximum (R54). -/
def speedClass (grp : Group) (pathMax : Nat) : SpeedClass :=
  if grp.suspect then .creep
  else if pathMax ≤ grp.params.ls1 then .fast
  else if pathMax ≤ grp.params.ls2 then .normal
  else .gentle

/-- Direction, distance, path maximum and class of a move from offset k to a target; none for "no move" (R55). -/
def moveAnswer (geo : Geometry) (grp : Group) (k target : Nat) : Option MoveAnswer :=
  let df := subMod target k geo.carriers
  if df = 0 then none
  else
    let dr := geo.carriers - df
    let dir := if df ≤ dr then Direction.forward else Direction.reverse
    let d := if df ≤ dr then df else dr
    let pm := pathMaximum grp.effective (pathOffsets geo.carriers k d dir)
    some { dir := dir, distance := d, pathMax := pm, cls := speedClass grp pm }

/-- Rotation distance of a target from a reference offset (R55). -/
def rotationDistance (c ref target : Nat) : Nat :=
  let df := subMod target ref c
  min df (c - df)

/-- The reference offset of R101 and R142: CURRENT's target while MOVING with CURRENT filled, else k where valid. -/
def Group.reference (grp : Group) : Option Nat :=
  match grp.state, grp.current with
  | .moving, some m => some m.target
  | _, _ => grp.k

/-- Distance of carrier c from the reference offset of a group; 0 where there is none (R101, R142). -/
def Group.distanceTo (grp : Group) (geo : Geometry) (c : Nat) : Nat :=
  match grp.reference with
  | some ref => rotationDistance geo.carriers ref (geo.targetOf c)
  | none => 0

/-- Expected drive torque F + d × E(k) (R57). -/
def expectedTorque (grp : Group) (k : Nat) (dir : Direction) : Int :=
  match dir with
  | .forward => (grp.params.friction : Int) + grp.effective.getD k 0
  | .reverse => (grp.params.friction : Int) - grp.effective.getD k 0

end Sys2Proof.Machine
end

