-- ==== Sys2Proof/Machine/Tags.lean ====
section
/-! DEFINITION. The tag law's places and the tag search (R35 to R37). -/

namespace Sys2Proof.Machine

open Sys2Proof

/-- A place that holds a tag (R35). -/
inductive Place where
  | slot (x : Index) (carrier level : Nat)
  | storeRecord (p : Index)
  | shuttle (p : Index)
  | collector
  | lane (i : Index)
  | rejectList
deriving DecidableEq, Repr

/-- Place code of a CONFLICT detail (R38, R96). -/
def Place.code : Place → Nat
  | .slot _ _ _ => 0
  | .storeRecord _ => 1
  | .shuttle _ => 2
  | .collector => 3
  | .lane _ => 4
  | .rejectList => 5

/-- A store record that is open: WEIGHING, PLACED or INSERTING (R94). -/
def StoreRecord.isOpen (r : StoreRecord) : Bool :=
  match r.state with
  | .weighing | .placed | .inserting => true
  | _ => false

/-- The slots of one carousel's COMMITTED map that hold a tag as HELD content (R35). -/
def heldPlaces (s : State) (t : Id32) (x : Index) : List Place :=
  match (s.carousels.get x).map.state with
  | .committed =>
    (numbered 0 (s.carousels.get x).map.carriers).flatMap fun (c, ls) =>
      (numbered 0 ls).filterMap fun (l, sl) =>
        if sl.content = .held ∧ sl.tag = t then some (.slot x c l) else none
  | _ => []

/-- The open store records with a declared tag (R35). -/
def storePlaces (s : State) (t : Id32) : List Place :=
  allIndices.filterMap fun p =>
    match s.stores.get p with
    | some r => if r.isOpen ∧ r.tag = t then some (.storeRecord p) else none
    | none => none

/-- The shuttle load records with a tag (R35). -/
def shuttlePlaces (s : State) (t : Id32) : List Place :=
  allIndices.filterMap fun p =>
    match (s.ports.get p).loadRec with
    | some lr => if lr.tag = t then some (.shuttle p) else none
    | none => none

/-- The collector, lanes and reject list where they hold a tag (R35). -/
def stationPlaces (s : State) (t : Id32) : List Place :=
  (if s.station.collector.any (fun e => e.tag == t) then [.collector] else [])
    ++ (allIndices.filterMap fun i =>
          if (s.station.lanes.get i).stack.any (fun e => e.tag == t) then some (.lane i) else none)
    ++ (if s.station.reject.any (fun e => e.tag == t) then [.rejectList] else [])

/-- Every place that holds a tag, slots first (R35). -/
def places (s : State) (t : Id32) : List Place :=
  allIndices.flatMap (heldPlaces s t) ++ storePlaces s t ++ shuttlePlaces s t ++ stationPlaces s t

/-- The tag search (R37): the place that holds a tag, if one does. -/
def tagPlace (s : State) (t : Id32) : Option Place := (places s t).head?

end Sys2Proof.Machine
end

