-- ==== Sys2Proof/Machine/Station.lean ====
section
/-! DEFINITION. The shared operations of the order scheduler's table and of the consolidation station: activation (R112),
completion and cancellation of orders (R113, R122), the merge gate (R125 to R127), the collector's pause (R129), the diverter
(R130, R131), station faults (R133) and lane release (R136). -/

namespace Sys2Proof.Machine

open Sys2Proof

/-! ## The merge gate (R125, R126) -/

/-- A line that has not yet been released: RESERVED, BALANCE_WAIT, EXTRACTING or ON_SHUTTLE (R125). -/
def LineState.unreleased : LineState → Bool
  | .reserved | .balanceWait _ | .extracting | .onShuttle => true
  | _ => false

/-- A line still in its slot: RESERVED or BALANCE_WAIT (R121). -/
def LineState.inSlot : LineState → Bool
  | .reserved | .balanceWait _ => true
  | _ => false

/-- Sequence rule (R125). -/
def sequenceRule (o : Order) (l : Line) : Bool :=
  o.state == .active && !l.rejectBound && l.state.unreleased
    && !(o.lines.any fun l' => l'.seq < l.seq && l'.state.unreleased)

/-- Whether a collector entry's line is reject-bound. -/
def State.entryRejectBound (s : State) (e : CollectorItem) : Bool :=
  match s.findLine e.order e.line with
  | some l => l.rejectBound
  | none => false

/-- Reject rule (R125). -/
def rejectRule (s : State) (l : Line) : Bool :=
  l.rejectBound
    && s.station.reject.length + (s.station.collector.filter s.entryRejectBound).length < Config.rejectCap

/-- An eligible claimant with the key of its rank: priority, activation sequence number (table index among equal ones,
R108), line sequence, port index (R126). -/
structure Claim where
  port : Index
  load : LoadRecord
  key : List Nat
deriving DecidableEq, Repr

/-- The claim of the deck at a port, where it is an eligible claimant (R125). -/
def claimAt (s : State) (p : Index) : Option Claim :=
  match (s.ports.get p).shuttle, (s.ports.get p).loadRec with
  | .homeLoaded, some lr =>
    match s.findOrder lr.order with
    | some (i, o) =>
      match o.line? lr.line with
      | some l =>
        if sequenceRule o l || rejectRule s l then
          some { port := p, load := lr, key := [o.priority, o.actSeq.getD 0, i, l.seq, p.val] }
        else none
      | none => none
    | none => none
  | _, _ => none

/-- The claim the gate would grant now, if its conditions hold and a claimant is eligible (R126). -/
def gateChoice (s : State) : Option Claim :=
  if s.station.releasePort.isNone && s.station.fault.isNone && !s.station.paused then
    bestBy Claim.key (allIndices.filterMap (claimAt s))
  else none

/-- A grant (R87, R126): the port is the release in progress, its shuttle RELEASING with the Release output raised and
the transfer timer started, the line RELEASING. -/
def grant (c : Claim) (s : State) : State :=
  let s := s.setStation { s.station with releasePort := some c.port }
  let s := s.modPort c.port fun port =>
    { port with shuttle := .releasing, releaseOut := true, transferTimer := some s.station.settings.transferTimeout }
  s.setLine c.load.order c.load.line .releasing

/-- The merge gate is judged (R126). -/
def judgeGate (s : State) : State :=
  match gateChoice s with
  | some c => grant c s
  | none => s

/-! ## Activation (R112) -/

/-- The lowest-numbered FREE lane among lanes 1 to the lane count. -/
def freeLane (s : State) : Option Index :=
  allIndices.find? fun i => i.val < s.station.settings.laneCount && (s.station.lanes.get i).state == .free

/-- The QUEUED order to activate: lowest priority value, then open sequence number, then table index. -/
def nextQueued (s : State) : Option (Nat × Order) :=
  bestBy (fun (i, o) => [o.priority, o.openSeq, i])
    ((numbered 0 s.sched.orders).filterMap fun (i, e) =>
      match e with
      | some o => if o.state = .queued then some (i, o) else none
      | none => none)

/-- One activation, where a lane is FREE and an order QUEUED; the lane becomes FILLING for the order, and the gate is judged
(R112, R126). -/
def activateOne (s : State) : State :=
  match freeLane s, nextQueued s with
  | some i, some (_, o) =>
    let n := countUp s.sched.activationCounter
    let s := s.setSched { s.sched with activationCounter := n }
    let s := s.modOrder o.id fun o => { o with state := .active, actSeq := some n, lane := some i }
    let s := s.setStation { s.station with
      lanes := s.station.lanes.set i { state := .filling, order := some o.id, stack := [] } }
    judgeGate s
  | _, _ => s

/-- Activation is judged: one order after another, at most one for each lane. -/
def judgeActivation (s : State) : State := activateOne (activateOne (activateOne (activateOne s)))

/-! ## Order completion and cancellation (R113, R122) -/

/-- A line that ends an order's work: ARRIVED or SHORT. -/
def LineState.finished : LineState → Bool
  | .arrived | .short _ => true
  | _ => false

/-- A line whose item is on its way: EXTRACTING, ON_SHUTTLE, RELEASING or IN_TRANSIT (R113, R122). -/
def LineState.inFlight : LineState → Bool
  | .extracting | .onShuttle | .releasing | .inTransit => true
  | _ => false

def LineState.isShort : LineState → Bool
  | .short _ => true
  | _ => false

/-- The state of a lane record replaced. -/
def State.setLaneState (s : State) (i : Index) (st : LaneState) : State :=
  s.setStation { s.station with lanes := s.station.lanes.set i { s.station.lanes.get i with state := st } }

/-- A lane made FREE, with an empty stack and no order (R135). -/
def State.freeLaneRecord (s : State) (i : Index) : State :=
  s.setStation { s.station with lanes := s.station.lanes.set i { state := .free, order := none, stack := [] } }

/-- An ACTIVE order whose every line is ARRIVED or SHORT becomes COMPLETE, and its lane with it (R113). -/
def completeOrder (o : Order) (s : State) : State :=
  let s := s.modOrder o.id fun o =>
    { o with state := .complete, short := some (o.lines.any fun l => l.state.isShort) }
  let s := match o.lane with
    | some i => s.setLaneState i .complete
    | none => s
  raiseEvent .orderComplete s

/-- A CANCELLING order with no line in flight becomes CANCELLED (R122). -/
def cancelOrder (o : Order) (s : State) : State :=
  match o.lane with
  | none => s.freeOrder o.id
  | some i =>
    if o.lines.any fun l => l.state == .arrived then
      (s.modOrder o.id fun o => { o with state := .cancelled }).setLaneState i .heldCancelled
    else judgeActivation ((s.freeOrder o.id).freeLaneRecord i)

/-- Completion (R113) and cancellation (R122) of an order are judged. -/
def judgeOrder (id : Id32) (s : State) : State :=
  match s.findOrder id with
  | none => s
  | some (_, o) =>
    match o.state with
    | .active => if o.lines.all fun l => l.state.finished then completeOrder o s else s
    | .cancelling => if o.lines.any fun l => l.state.inFlight then s else cancelOrder o s
    | _ => s

/-- A line becomes SHORT: ORDER_SHORT is set (R109), the order is judged (R113, R122), and the gate with it (R126). -/
def makeShort (id : Id32) (seq : Nat) (why : ShortReason) (s : State) : State :=
  judgeGate (judgeOrder id (raiseEvent .orderShort (s.setLine id seq (.short why))))

/-! ## The collector and the diverter (R128 to R131) -/

/-- The collector's count is judged against H (R129). -/
def judgeHigh (s : State) : State :=
  if s.station.settings.high ≤ s.station.collector.length then
    s.setStation { s.station with paused := true }
  else s

/-- The collector's count is judged against L; a collector that runs again has the gate judged (R126, R129). -/
def judgeLow (s : State) : State :=
  if s.station.paused && s.station.collector.length ≤ s.station.settings.low then
    judgeGate (s.setStation { s.station with paused := false })
  else s

/-- The destination of a collector entry, set from its line (R130). -/
def destination (s : State) (e : CollectorItem) : Lane :=
  match s.findOrder e.order with
  | some (_, o) =>
    match o.line? e.line with
    | some l =>
      if l.rejectBound then .reject
      else match o.lane with
        | some i => .order i
        | none => .reject
    | none => .reject
  | none => .reject

/-- A diversion of the head begins (R130). -/
def beginDiversion (e : CollectorItem) (s : State) : State :=
  let d := destination s e
  s.setStation { s.station with
    diverter := .diverting d, position := d, send := true,
    diversionTimer := some s.station.settings.transferTimeout }

/-- The next diversion is tested (R130). With room in the reject lane, a station that is FAULTED begins no diversion and the
diverter stays as it stands, IDLE or WAITING_ROOM: the manual names no state for it (log 38). -/
def testDiversion (s : State) : State :=
  match s.station.diverter with
  | .diverting _ => s
  | _ =>
    match s.station.collector with
    | [] => s.setStation { s.station with diverter := .idle }
    | e :: _ =>
      if Config.rejectCap ≤ s.station.reject.length then
        s.setStation { s.station with diverter := .waitingRoom }
      else if s.station.fault.isSome then s
      else beginDiversion e s

/-- The head leaves the collector and joins a lane: steps 2 to 4 of R131, with completion and cancellation judged. -/
def deliverHead (dest : Lane) (s : State) : State :=
  match s.station.collector with
  | [] => s
  | e :: rest =>
    let s := s.setStation { s.station with collector := rest }
    let s := match dest with
      | .order i =>
        let r := s.station.lanes.get i
        let s := s.setStation { s.station with
          lanes := s.station.lanes.set i { r with stack := r.stack ++ [{ tag := e.tag, line := e.line }] } }
        s.setLine e.order e.line .arrived
      | .reject =>
        let s := s.setStation { s.station with
          reject := s.station.reject ++ [{ tag := e.tag, order := e.order }] }
        s.setLine e.order e.line .withdrawn
    judgeOrder e.order s

/-- The diversion timer stops, diverter send falls and the diverter becomes IDLE (R131). -/
def endDiversion (s : State) : State :=
  s.setStation { s.station with diverter := .idle, send := false, diversionTimer := none }

/-- What follows when an entry has left the head: the next diversion, the count against L, and the gate (R131). -/
def afterDelivery (s : State) : State := judgeGate (judgeLow (testDiversion s))

/-! ## Station faults (R133) -/

/-- The diversion in flight, as a fault record names it. -/
def State.diversionInFlight (s : State) : Option FaultDiversion :=
  match s.station.diverter, s.station.collector with
  | .diverting d, e :: _ => some { tag := e.tag, order := e.order, line := e.line, dest := d }
  | _, _ => none

/-- The station becomes FAULTED, its collector drive and diverter send fall and the diversion timer stops; one that is FAULTED
already is left as it stands (R133). -/
def stationFault (kind : StationFaultKind) (s : State) : State :=
  match s.station.fault with
  | some _ => s
  | none =>
    raiseEvent .stationFault (s.setStation { s.station with
      fault := some { kind := kind, diversion := s.diversionInFlight, lateArrival := none, strayCount := 0 }
      drive := false
      send := false
      diversionTimer := none })

/-! ## Lane release (R136) -/

/-- Why a lane cannot be released now, as the detail of its STATE refusal. -/
def releaseBar (s : State) : Lane → Option Nat
  | .reject => none
  | .order i =>
    match (s.station.lanes.get i).state with
    | .filling => some 0xFF
    | .free => some 0xFE
    | _ => none

/-- The number of items a lane holds. -/
def laneCountOf (s : State) : Lane → Nat
  | .reject => s.station.reject.length
  | .order i => (s.station.lanes.get i).stack.length

/-- The lane's items leave the part's custody (R136). -/
def releaseLane (lane : Lane) (s : State) : State :=
  match lane with
  | .reject =>
    let s := s.setStation { s.station with reject := [] }
    testDiversion (judgeGate s)
  | .order i =>
    let s := match (s.station.lanes.get i).order with
      | some id => s.freeOrder id
      | none => s
    judgeActivation (s.freeLaneRecord i)

end Sys2Proof.Machine
end

