-- ==== Sys2Proof/Machine/AuditOps.lean ====
section
/-! DEFINITION. The shared operations of the audit unit: the end of an auto task and the watch (R157), starting a task
(R139, R140, R156), judging a scan (R144, R145), the torque engine's samples (R152, R153), comparison and deviant moves
(R154, R155) and BALANCE_SUSPECT (R156). -/

namespace Sys2Proof.Machine

open Sys2Proof

/-! ## The auto watch (R157) -/

/-- The watch after a carousel has left it. -/
def Watch.leave (w : Watch) (x : Index) (clean : Bool) : Watch :=
  { carousels := w.carousels.filter (· != x), spoiled := w.spoiled || !clean }

/-- A group when a carousel leaves its watch: the last to leave a watch not spoiled clears BALANCE_SUSPECT and the counter
(R157). -/
def Group.leaveWatch (grp : Group) (x : Index) (clean : Bool) : Group :=
  match grp.watch with
  | none => grp
  | some w =>
    if w.carousels.contains x then
      let w' := w.leave x clean
      if w'.carousels.isEmpty then
        if w'.spoiled then { grp with watch := none }
        else { grp with watch := none, suspect := false, deviant := 0 }
      else { grp with watch := some w' }
    else grp

/-- A task of origin AUTO reports its end to the torque monitor (R157). -/
def reportAutoEnd (x : Index) (clean : Bool) (s : State) : State :=
  match s.groupOf x with
  | some g => s.modGroup g fun grp => grp.leaveWatch x clean
  | none => s

/-! ## Starting a task (R139, R140) -/

/-- The carriers of SPAN(first, count): `count` carriers from `first` on, mod C (R140). -/
def spanList (c first count : Nat) : List Nat := (List.range (min count c)).map fun i => (first + i) % c

/-- The lowest audit stamp of a carrier's slots (R140). -/
def lowestStamp : List Slot → Nat
  | [] => 0
  | [sl] => sl.stamp
  | sl :: sls => min sl.stamp (lowestStamp sls)

/-- The carriers of OLDEST(count): the count carriers whose lowest stamp is lowest, the lower index first among equals
(R140). -/
def oldestList (carriers : List (List Slot)) (count : Nat) : List Nat :=
  ((rank (fun (c, ls) => [lowestStamp ls, c]) (numbered 0 carriers)).take count).map Prod.fst

/-- A task starts: the generation advances and the carousel's record is replaced (R139, R140). -/
def startTask (x : Index) (origin : Origin) (check : Check) (sel : Selection) (list : List Nat) (s : State) : State :=
  let n := countUp s.audit.generation
  (s.setAudit { s.audit with generation := n }).setTask x (some
    { state := .running, origin := origin, check := check, selection := sel, generation := n, list := list,
      findings := 0, scan := none })

/-- A task that is RUNNING or HELD_LOG (R140). -/
def AuditTask.isOpen (t : AuditTask) : Bool := t.state == .running || t.state == .heldLog

/-- Whether a carousel has a task that is RUNNING or HELD_LOG. -/
def State.taskOpen (s : State) (x : Index) : Bool :=
  match s.audit.tasks.get x with
  | some t => t.isOpen
  | none => false

/-! ## Judging a scan (R144, R145) -/

/-- Judgement of one level (R144). -/
inductive Verdict where
  | skipped
  | matching
  | mismatch (kind : Finding)
deriving DecidableEq, Repr

/-- A level judged against its slot record (R144). -/
def judgeLevel (check : Check) (sl : Slot) (r : LevelReport) : Verdict :=
  if sl.reservation ≠ .none ∨ sl.condition = .blocked then .skipped
  else
    match sl.content, r with
    | .empty, .absent => .matching
    | .empty, _ => .mismatch .unexpected
    | .held, .absent => .mismatch .missing
    | .held, r =>
      match check with
      | .presence => .matching
      | .tag =>
        match r with
        | .tag t => if t = sl.tag then .matching else .mismatch .wrongTag
        | _ => .mismatch .unreadable

/-- A scanned level with its report and verdict. -/
structure Judged where
  level : Nat
  report : LevelReport
  verdict : Verdict
deriving DecidableEq, Repr

def Judged.isMismatch (j : Judged) : Bool :=
  match j.verdict with
  | .mismatch _ => true
  | _ => false

/-- The levels of a scan judged as the records stand (R144); a level without a report is handed as no report (R81). -/
def judgeScan (s : State) (x : Index) (check : Check) (sc : Scan) : List Judged :=
  sc.levels.map fun e =>
    let r := e.report.getD .noReport
    { level := e.level, report := r,
      verdict := match s.slot? x sc.carrier e.level with
        | some sl => judgeLevel check sl r
        | none => .skipped }

/-- The tag read, where the check was TAG and a tag was read (R146). -/
def readTagOf (check : Check) (r : LevelReport) : Option Id32 :=
  match check, r with
  | .tag, .tag t => some t
  | _, _ => none

/-- One judgement is taken: a match clears and stamps the slot, a mismatch makes it SUSPECT and is logged (R145). -/
def takeJudgement (x : Index) (carrier gen : Nat) (check : Check) (s : State) (j : Judged) : State :=
  match j.verdict with
  | .skipped => s
  | .matching =>
    s.modSlot x carrier j.level fun sl => { sl with condition := .clear, stamp := s.audit.generation }
  | .mismatch kind =>
    match s.slot? x carrier j.level with
    | none => s
    | some sl =>
      let n := countUp s.audit.entryCounter
      let entry : LogEntry :=
        { number := n, carousel := x, carrier := carrier, level := j.level, kind := kind,
          recordedTag := if sl.content = .held then some sl.tag else none,
          readTag := readTagOf check j.report, generation := gen }
      let s := s.setSlot x carrier j.level { sl with condition := .suspect, finding := some kind }
      s.setAudit { s.audit with log := s.audit.log ++ [entry], entryCounter := n }

/-- A task's record after a taken comparison of `carrier` with `n` mismatches (R145). -/
def AuditTask.compared (t : AuditTask) (carrier n : Nat) : AuditTask :=
  let list := t.list.filter (· != carrier)
  { t with list := list, findings := t.findings + n, scan := none,
           state := if list.isEmpty then .done else t.state }

/-- The judgements of one scan are taken together or not at all (R145). -/
def auditComparison (x : Index) (sc : Scan) (s : State) : State :=
  match s.audit.tasks.get x with
  | none => s
  | some t =>
    let js := judgeScan s x t.check sc
    let n := (js.filter Judged.isMismatch).length
    if Config.logCap - s.audit.log.length < n then
      s.modTask x fun t => { t with scan := none, state := .heldLog }
    else
      let s := js.foldl (takeJudgement x sc.carrier t.generation t.check) s
      let t' := t.compared sc.carrier n
      let s := s.setTask x (some t')
      let s := if n = 0 then s else raiseEvent .discrepancy s
      if t'.state = .done then
        let s := raiseEvent .auditDone s
        if t'.origin = .auto then reportAutoEnd x (t'.findings == 0) s else s
      else s

/-! ## Torque samples (R152, R153) -/

/-- The duty in thousandths (R152); the duty of a period of 0 is a free value (log 6). -/
def dutyOf (high period : Nat) : Nat :=
  if period = 0 then Config.zeroPeriodDuty high else 1000 * high / period

/-- The measured torque of a duty, or none for an invalid sample (R152). -/
def torqueOf (duty fullScale : Nat) : Option Int :=
  if duty < 50 ∨ 950 < duty then none
  else
    let d := if duty < 100 then 100 else if 900 < duty then 900 else duty
    some ((((d : Int) - 500) * (fullScale : Int)).tdiv 400)

/-- A group after a sample: a valid one becomes the last sample and zeroes the invalid count, an invalid one raises it
(R153). -/
def Group.sampled (grp : Group) (t : Option Int) : Group :=
  match t with
  | some v => { grp with lastSample := some v, invalidCount := 0 }
  | none => { grp with invalidCount := min (grp.invalidCount + 1) 4 }

/-- A visit of the engine ends with a sample for its group: a fourth invalid one in a row faults the group (R153), and the
engine goes on to the next group with RUN high (R151). -/
def endVisit (g : Index) (t : Option Int) (s : State) : State :=
  let s := s.modGroup g fun grp => grp.sampled t
  let s := match s.groups.get g with
    | some grp => if t.isNone ∧ grp.invalidCount = 4 then groupFault g .feedback s else s
    | none => s
  if s.audit.engine.measuring = some g then beginVisit s else s

/-! ## Comparison and deviant moves (R154, R155) -/

/-- The move record at a move's start (R154, R73). -/
def Group.startMoveRecord (grp : Group) (dir : Direction) : Group :=
  { grp with moveDir := dir, moveMarks := 0, compared := 0, outside := 0 }

/-- A mark of a move at offset k is compared when a last sample is held (R154). -/
def Group.compareAt (grp : Group) (k : Nat) : Group :=
  match grp.lastSample with
  | none => grp
  | some t =>
    let e := expectedTorque grp k grp.moveDir
    { grp with
      compared := grp.compared + 1
      outside := if grp.params.tolerance < (t - e).natAbs then grp.outside + 1 else grp.outside
      lastCompared := some { offset := k, measured := t, expected := e } }

/-- A mark taken in TRAVEL is reported (R73): it is compared when it is neither the first nor the last (R154). -/
def Group.reportMark (grp : Group) (k : Nat) (last : Bool) : Group :=
  let grp' := if grp.moveMarks = 0 ∨ last then grp else grp.compareAt k
  { grp' with moveMarks := grp.moveMarks + 1 }

/-- The deviant-move counter at the end of a move by arrival or stop (R155). -/
def Group.deviantAfter (grp : Group) : Nat :=
  if 2 ≤ grp.outside then min (grp.deviant + 1) 3
  else if 1 ≤ grp.compared then 0
  else grp.deviant

/-- The auto tasks of a group that becomes BALANCE_SUSPECT: each member without an open task is given one (R156). -/
def startAutoTasks (g : Index) (xs : List Index) (s : State) : State :=
  xs.foldl (fun s x =>
    if s.taskOpen x then s
    else startTask x .auto .presence (.span 0 (s.geometry g).carriers)
      (spanList (s.geometry g).carriers 0 (s.geometry g).carriers) s) s

/-- A group becomes BALANCE_SUSPECT (R156). -/
def becomeSuspect (g : Index) (s : State) : State :=
  match s.groups.get g with
  | none => s
  | some grp =>
    let s := raiseEvent .balanceSuspect (s.modGroup g fun grp => { grp with suspect := true, watch := none })
    if grp.params.autoAudit then
      let given := grp.members.filter fun x => !s.taskOpen x
      let s := startAutoTasks g grp.members s
      if given.isEmpty then s
      else s.modGroup g fun grp => { grp with watch := some { carousels := given, spoiled := false } }
    else s

/-- A move ended by arrival or a stop is judged (R155). -/
def judgeMove (g : Index) (s : State) : State :=
  match s.groups.get g with
  | none => s
  | some grp =>
    let n := grp.deviantAfter
    let s := s.modGroup g fun grp => { grp with deviant := n }
    if grp.deviant = 2 ∧ n = 3 ∧ ¬grp.suspect then becomeSuspect g s else s

end Sys2Proof.Machine
end

