-- ==== Sys2Proof/Machine/PortOps.lean ====
section
/-! DEFINITION. The shared operations of the port controllers: transfer starts through the gate (R83, R85), completions
(R84, R86), jams (R88 to R90), scans and face checks (R81, R82, R143), a taken shuttle input (R84, R86, R93), and the infeed
work with placement (R78 to R80, R98 to R102). -/

namespace Sys2Proof.Machine

open Sys2Proof

/-! ## Conditions a transfer or scan shares (R81 to R83) -/

/-- The port is at rest for new work: shuttle HOME_EMPTY (hence not FAULTED), load input clear, no scan in flight. -/
def Port.ready (port : Port) : Bool :=
  port.shuttle == .homeEmpty && !port.load && port.scan.isNone

/-- The carrier at port `x`, where its group is IDLE with k valid and the device is NORMAL (R2, R81). -/
def State.carrierAt (s : State) (x : Index) : Option Nat :=
  match s.groupOf x with
  | none => none
  | some g =>
    match s.groups.get g with
    | none => none
    | some grp =>
      if grp.state = .idle ∧ s.link.mode = .normal then grp.k.map (s.geometry g).atPort else none

/-! ## Insertion start (R83) -/

/-- The slot and mass of an insertion that may begin at a port: the record is PLACED, its carrier is at the port, and the
slot is reserved in, PLANNED, for it (R83). -/
def insertionSlot (s : State) (p : Index) : Option (Nat × Nat × Nat) :=
  if (s.ports.get p).ready then
    match s.stores.get p with
    | some r =>
      match r.state, r.chosen with
      | .placed, some (c, l) =>
        if s.carrierAt p = some c then
          match s.slot? p c l with
          | some sl =>
            match sl.reservation with
            | .inbound q _ m .planned => if q = p then some (c, l, m) else none
            | _ => none
          | none => none
        else none
      | _, _ => none
    | none => none
  else none

/-- The insertion's start once the gate has passed: E takes +m, the slot counts it, the reservation is STARTED, the record
INSERTING, the shuttle INSERTING with the Insert output raised, and its timer started (R32, R49, R83). -/
def beginInsertion (p : Index) (c l m : Nat) (s : State) : State :=
  let s := noteStart p (handMass p c (m : Int) .effective s)
  let s := s.modSlot p c l fun sl =>
    { sl with counted := m, reservation := match sl.reservation with
        | .inbound q t m' _ => .inbound q t m' .started
        | r => r }
  let s := s.modStore p fun r => { r with state := .inserting }
  let s := s.setSched { s.sched with placedOrder := s.sched.placedOrder.filter (· != p) }
  s.modPort p fun port =>
    { port with shuttle := .inserting, insertOut := true, job := some { carrier := c, level := l, leftHome := false },
                transferTimer := some s.station.settings.transferTimeout }

/-- The insertion the scheduler asks for (R83): nothing where a condition fails, BALANCE_WAIT where the gate fails. The
second component says whether it began. -/
def askInsertion (p : Index) (s : State) : State × Bool :=
  match insertionSlot s p, s.groupOf p with
  | some (c, l, m), some g =>
    if gatePasses s g c m then (beginInsertion p c l m s, true) else (failGate g p (.store p) s, false)
  | _, _ => (s, false)

/-! ## Extraction start (R85) -/

/-- The extraction's start once the gate has passed, with the Extract output raised (R33, R49, R85). -/
def beginExtraction (p : Index) (id : Id32) (seq c l m : Nat) (s : State) : State :=
  let s := noteStart p (handMass p c (-(m : Int)) .effective s)
  let s := s.modSlot p c l fun sl =>
    { sl with counted := 0, reservation := .outbound id seq .started }
  let s := s.setLine id seq .extracting
  s.modPort p fun port =>
    { port with shuttle := .extracting, extractOut := true, job := some { carrier := c, level := l, leftHome := false },
                transferTimer := some s.station.settings.transferTimeout }

/-- After a face check that ended with MATCH, the conditions of R82 are checked again and the gate is asked (R85). -/
def askExtraction (p : Index) (id : Id32) (seq c l : Nat) (sl : Slot) (s : State) : State :=
  match s.groupOf p with
  | none => s
  | some g =>
    if (s.ports.get p).ready ∧ s.carrierAt p = some c then
      if gatePasses s g c (-(sl.recorded : Int)) then beginExtraction p id seq c l sl.recorded s
      else failGate g p (.pick id seq) s
    else s

/-! ## Face check (R82) -/

/-- Outcome of a face check's report against the slot record's tag (R82): none for MATCH, else the finding and the line's
short reason. -/
def faceOutcome (sl : Slot) : LevelReport → Option (Finding × ShortReason)
  | .absent => some (.missing, .missing)
  | .tag t => if t = sl.tag then none else some (.wrongTag, .wrongTag)
  | _ => some (.unreadable, .wrongTag)

/-- A face check ends (R82). One whose slot is no longer reserved out, PLANNED, for its line has no effect. -/
def endFaceCheck (p : Index) (id : Id32) (seq c l : Nat) (rep : LevelReport) (s : State) : State :=
  match s.slot? p c l with
  | none => s
  | some sl =>
    if sl.reservation = .outbound id seq .planned then
      match faceOutcome sl rep with
      | none => askExtraction p id seq c l sl s
      | some (finding, why) =>
        let s := s.setSlot p c l { sl with condition := .suspect, reservation := .none, finding := some finding }
        let s := handMass p c (sl.recorded : Int) .planned s
        makeShort id seq why s
    else s

/-! ## Scans (R81, R143) -/

/-- Every named level has reported. -/
def Scan.complete (sc : Scan) : Bool := sc.levels.all fun e => e.report.isSome

/-- The report a level makes as a scan begins (R81, R143): absent without asking the reader; present at once where no tags
are wanted; none yet where the reader is asked. -/
def firstReport (port : Port) (tags : Bool) (l : Nat) : Option LevelReport :=
  if port.presence.getD l false then (if tags then none else some .present) else some .absent

/-- A scan ends: its reports are handed to its user (R81). A face check whose line was withdrawn has no effect (R121). -/
def endScan (p : Index) (s : State) : State :=
  match (s.ports.get p).scan with
  | none => s
  | some sc =>
    let s := s.modPort p fun port => { port with scan := none }
    match sc.user with
    | .audit => auditComparison p sc s
    | .withdrawn => s
    | .faceCheck id seq =>
      match sc.levels with
      | e :: _ => endFaceCheck p id seq sc.carrier e.level (e.report.getD .noReport) s
      | [] => s

/-- A scan begins at a port; it ends in the same step when every named level has reported (R81). -/
def startScan (p : Index) (user : ScanUser) (c : Nat) (tags : Bool) (levels : List Nat) (s : State) : State :=
  let sc : Scan :=
    { user := user, carrier := c, tags := tags,
      levels := levels.map fun l => { level := l, report := firstReport (s.ports.get p) tags l } }
  let s := s.modPort p fun port => { port with scan := some sc }
  if sc.complete then endScan p s else s

/-- The face check the scheduler asks for a line whose slot is on the carrier at the port (R82). The second component says
whether it began. -/
def askFaceCheck (id : Id32) (seq : Nat) (s : State) : State × Bool :=
  match s.findLine id seq with
  | none => (s, false)
  | some l =>
    match s.slot? l.carousel l.carrier l.level with
    | none => (s, false)
    | some sl =>
      if (s.ports.get l.carousel).ready ∧ s.carrierAt l.carousel = some l.carrier
          ∧ sl.reservation = .outbound id seq .planned then
        (startScan l.carousel (.faceCheck id seq) l.carrier true [l.level] s, true)
      else (s, false)

/-- The audit scan of the carrier at the port (R143). The second component says whether it began. -/
def askAuditScan (x : Index) (s : State) : State × Bool :=
  match s.audit.tasks.get x, s.carrierAt x, (s.carousels.get x).config with
  | some t, some c, some cfg =>
    if (s.ports.get x).ready ∧ t.list.contains c then
      let s := s.modTask x fun t => { t with scan := some c }
      (startScan x .audit c (t.check == .tag) (List.range cfg.levels) s, true)
    else (s, false)
  | _, _, _ => (s, false)

/-- The face tag reader answers for a level (R81): the report is made from the presence line as it stands, and the scan
ends when every named level has reported. -/
def answerFaceTag (p : Index) (level : Nat) (answer : Option Id32) (s : State) : State :=
  match (s.ports.get p).scan with
  | none => s
  | some sc =>
    let rep : LevelReport :=
      if (s.ports.get p).presence.getD level false then
        match answer with
        | some t => .tag t
        | none => .noRead
      else .absent
    let sc' : Scan :=
      { sc with levels := sc.levels.map fun e =>
          if e.level = level ∧ e.report.isNone then { e with report := some rep } else e }
    let s := s.modPort p fun port => { port with scan := some sc' }
    if sc'.complete then endScan p s else s

/-! ## Completion of a transfer (R84, R86) -/

/-- The conditions of R84 and R86 that insertion and extraction share, for the job's level being present or absent. -/
def Port.backHome (port : Port) (j : Job) (present : Bool) : Bool :=
  j.leftHome && port.home && !port.extended && (port.presence.getD j.level false == present)

/-- The insertion completion condition (R84). -/
def Port.insertionDone (port : Port) : Bool :=
  match port.shuttle, port.job with
  | .inserting, some j => port.backHome j true
  | _, _ => false

/-- The extraction completion condition (R86). -/
def Port.extractionDone (port : Port) : Bool :=
  match port.shuttle, port.job with
  | .extracting, some j => port.backHome j false && port.load
  | _, _ => false

/-- The slot of an insertion as it is left by its completion or jam: HELD with the store record's tag, set id and member and
the incoming mass as recorded mass (R32). -/
def Slot.filled (sl : Slot) (r : StoreRecord) : Slot :=
  { sl with
    content := .held, tag := r.tag, setId := r.setId, member := r.member,
    recorded := match sl.reservation with
      | .inbound _ _ m _ => m
      | _ => sl.counted
    reservation := .none }

/-- The slot as an extraction's completion leaves it (R33). -/
def Slot.emptied (sl : Slot) : Slot :=
  { sl with content := .empty, tag := 0#32, setId := 0#32, member := 0, recorded := 0, reservation := .none }

/-- An insertion completes, and the Insert output falls (R84). -/
def completeInsertion (p : Index) (s : State) : State :=
  match (s.ports.get p).job, s.stores.get p with
  | some j, some r =>
    let s := s.modSlot p j.carrier j.level fun sl => sl.filled r
    let s := s.setStore p (some { r with state := .done })
    let s := s.modPort p fun port =>
      { port with shuttle := .homeEmpty, insertOut := false, job := none, transferTimer := none }
    raiseEvent .storeDone s
  | _, _ => s

/-- The order and line a slot is reserved out for. -/
def Slot.outFor (sl : Slot) : Option (Id32 × Nat) :=
  match sl.reservation with
  | .outbound id seq _ => some (id, seq)
  | _ => none

/-- An extraction completes (R86): the Extract output falls, the load record is formed, the slot becomes free, the line
ON_SHUTTLE, and the merge gate is judged (R126). -/
def completeExtraction (p : Index) (s : State) : State :=
  match (s.ports.get p).job with
  | none => s
  | some j =>
    match s.slot? p j.carrier j.level with
    | none => s
    | some sl =>
      match sl.outFor with
      | none => s
      | some (id, seq) =>
        let s := s.setSlot p j.carrier j.level sl.emptied
        let s := s.modPort p fun port =>
          { port with shuttle := .homeLoaded, extractOut := false, job := none, transferTimer := none,
                      loadRec := some { tag := sl.tag, mass := sl.recorded, order := id, line := seq } }
        judgeGate (s.setLine id seq .onShuttle)

/-! ## A taken shuttle input (R75, R84, R86, R93) -/

/-- The level of one input of a port replaced. -/
def Port.setInput (port : Port) (i : PortInput) (v : Bool) : Port :=
  match i with
  | .home => { port with home := v }
  | .extended => { port with extended := v }
  | .load => { port with load := v }
  | .presence l => { port with presence := port.presence.set l.val v }

/-- The port after an input is taken; home taken inactive is noted for the transfer under way (R84, R86). -/
def Port.take (port : Port) (i : PortInput) (v : Bool) : Port :=
  let port := port.setInput i v
  if i = .home ∧ v = false then { port with job := port.job.map fun j => { j with leftHome := true } } else port

/-- Whether RUN of the group of a port is high. -/
def State.driving (s : State) (p : Index) : Bool :=
  match s.groupOf p with
  | some g => (s.channels.get g).run
  | none => false

/-- The INTERLOCK judgement: home taken inactive while RUN of the port's group is high faults the group, whatever
the shuttle state, FAULTED among them (R9, R18, R64; log 46). -/
def judgeInterlock (p : Index) (i : PortInput) (v : Bool) (s : State) : State :=
  match s.groupOf p with
  | some g => if i = .home ∧ v = false ∧ (s.channels.get g).run then groupFault g .interlock s else s
  | none => s

/-- An input of a port is taken (R75): its level is recorded, INTERLOCK is judged, and the completion of a transfer under
way is judged (R84, R86). The second component says whether a transfer completed. -/
def takeInput (p : Index) (i : PortInput) (v : Bool) (s : State) : State × Bool :=
  let s := judgeInterlock p i v (s.modPort p fun port => port.take i v)
  if (s.ports.get p).insertionDone then (completeInsertion p s, true)
  else if (s.ports.get p).extractionDone then (completeExtraction p s, true)
  else (s, false)

/-! ## Jams (R88 to R90) -/

/-- An insertion jams, and the Insert output falls (R88). -/
def jamInsertion (p : Index) (s : State) : State :=
  match (s.ports.get p).job, s.stores.get p with
  | some j, some r =>
    let s := s.modSlot p j.carrier j.level fun sl =>
      { sl.filled r with condition := .blocked, finding := some .insertJam }
    let s := s.setStore p (some { r with state := .rejected .jam })
    let s := s.modPort p fun port =>
      { port with shuttle := .faulted, insertOut := false, job := none, transferTimer := none,
                  fault := some (.insert p j.carrier j.level p) }
    raiseEvent .storeRejected (raiseEvent .portFault s)
  | _, _ => s

/-- An extraction jams, and the Extract output falls (R89). -/
def jamExtraction (p : Index) (s : State) : State :=
  match (s.ports.get p).job with
  | none => s
  | some j =>
    match s.slot? p j.carrier j.level with
    | none => s
    | some sl =>
      match sl.outFor with
      | none => s
      | some (id, seq) =>
        let s := s.setSlot p j.carrier j.level
          { sl with condition := .blocked, reservation := .none, finding := some .extractJam }
        let s := s.modPort p fun port =>
          { port with shuttle := .faulted, extractOut := false, job := none, transferTimer := none,
                      fault := some (.extract j.carrier j.level id seq) }
        makeShort id seq .jam (raiseEvent .portFault s)

/-- A release jams (R90): the Release output falls, the load record stays, the line returns to ON_SHUTTLE, no release is in
progress, and the gate is judged (R127). -/
def jamRelease (p : Index) (s : State) : State :=
  match (s.ports.get p).loadRec with
  | none => s
  | some lr =>
    let s := s.modPort p fun port =>
      { port with shuttle := .faulted, releaseOut := false, transferTimer := none, fault := some .release }
    let s := s.setLine lr.order lr.line .onShuttle
    let s := s.setStation { s.station with releasePort := none }
    judgeGate (raiseEvent .portFault s)

/-- The release in progress completes (R87, R127): the Release output falls, the load record joins the collector, the shuttle
becomes HOME_EMPTY and the line IN_TRANSIT; the count is judged against H, the diverter is tested when the collector was
empty, and the gate is judged. -/
def completeRelease (p : Index) (s : State) : State :=
  match (s.ports.get p).loadRec with
  | none => s
  | some lr =>
    let wasEmpty := s.station.collector.isEmpty
    let s := s.modPort p fun port =>
      { port with shuttle := .homeEmpty, releaseOut := false, transferTimer := none, loadRec := none }
    let s := s.setLine lr.order lr.line .inTransit
    let s := judgeHigh (s.setStation { s.station with
      releasePort := none
      collector := s.station.collector ++ [{ tag := lr.tag, order := lr.order, line := lr.line }] })
    judgeGate (if wasEmpty then testDiversion s else s)

/-! ## Infeed work (R78 to R80) and placement (R98 to R102) -/

/-- A new weighing, no sample taken yet. -/
def Infeed.fresh : Infeed := .weighing 0 0 0 1000

/-- The store of a port is rejected before insertion: STORE_REJECTED is set and the infeed work is over (R98, R102). -/
def rejectStore (p : Index) (why : StoreReason) (s : State) : State :=
  let s := s.modPort p fun port => { port with infeed := none }
  raiseEvent .storeRejected (s.modStore p fun r => { r with state := .rejected why })

/-- Whether carrier c of some member of a group holds a set id, in a HELD slot or in a slot reserved in by a store record of
that set (R100). -/
def setOnCarrier (s : State) (g : Index) (c : Nat) (setId : Id32) : Bool :=
  (s.membersOf g).any fun x => (s.carrierSlots x c).any fun sl =>
    (sl.content == .held && sl.setId == setId) ||
      match sl.reservation with
      | .inbound q _ _ _ =>
        match s.stores.get q with
        | some r => r.setId == setId
        | none => false
      | _ => false

/-- Affinity class of a carrier (R100). -/
def affinity (s : State) (g : Index) (r : StoreRecord) (c : Nat) : Nat :=
  if r.setId ≠ 0#32 ∧ setOnCarrier s g c r.setId then 0
  else if r.hint = some c then 1
  else 2

/-- A candidate slot with the answer of its query and its key (R99 to R101). -/
structure Candidate where
  carrier : Nat
  level : Nat
  answer : PlacementAnswer
  key : List Nat
deriving DecidableEq, Repr

/-- The trial peak of an answer that passed. -/
def PlacementAnswer.passed : PlacementAnswer → Option Nat
  | .pass t => some t
  | _ => none

def PlacementAnswer.isGate : PlacementAnswer → Bool
  | .gate _ => true
  | _ => false

/-- The candidates of carousel `x` for mass `m`: its free slots whose level limit is at least m, each with the answer of its
placement query and its ranking key (R99, R101). -/
def candidates (s : State) (g x : Index) (grp : Group) (cfg : CarouselConfig) (r : StoreRecord) (m : Nat) :
    List Candidate :=
  (numbered 0 (s.carousels.get x).map.carriers).flatMap fun (c, ls) =>
    (numbered 0 ls).filterMap fun (l, sl) =>
      if sl.isFree ∧ m ≤ cfg.levelLimit l then
        let a := placementQuery s g x c l m
        some { carrier := c, level := l, answer := a,
               key := [affinity s g r c, a.passed.getD 0, grp.distanceTo (s.geometry g) c, c, l] }
      else none

/-- The chosen slot is reserved in and the record becomes PLACED, a task of the group (R102). -/
def place (p : Index) (cand : Candidate) (trial m : Nat) (r : StoreRecord) (s : State) : State :=
  let s := s.modSlot p cand.carrier cand.level fun sl => { sl with reservation := .inbound p r.tag m .planned }
  let s := handMass p cand.carrier (m : Int) .planned s
  let s := s.modPort p fun port => { port with infeed := none }
  let s := s.setSched { s.sched with placedOrder := s.sched.placedOrder ++ [p] }
  s.setStore p (some { r with
    state := .placed, chosen := some (cand.carrier, cand.level), trialPeak := some trial, waited := some 0,
    promoted := false, cond := .pending })

/-- Placement (R99 to R102) for a record that has its measured mass. -/
def runPlacement (p : Index) (r : StoreRecord) (m : Nat) (s : State) : State :=
  match s.groupOf p, (s.carousels.get p).config with
  | some g, some cfg =>
    match s.groups.get g with
    | none => rejectStore p .noSlot s
    | some grp =>
      let cands := candidates s g p grp cfg r m
      match bestBy Candidate.key (cands.filter fun c => c.answer.passed.isSome) with
      | some c => place p c (c.answer.passed.getD 0) m r s
      | none => rejectStore p (if cands.any fun c => c.answer.isGate then .balance else .noSlot) s
  | _, _ => rejectStore p .noSlot s

/-- The largest level mass limit of a carousel (R80). -/
def State.largestLimit (s : State) (p : Index) : Nat :=
  match (s.carousels.get p).config with
  | some cfg => cfg.levelLimits.foldl max 0
  | none => 0

/-- The infeed work ends with a measured mass (R80, R98): the mass and the mass-corrected indicator are recorded and
placement runs. -/
def endWithMass (p : Index) (m : Nat) (s : State) : State :=
  match s.stores.get p with
  | none => s
  | some r =>
    let r := { r with
      measured := some m
      corrected := s.station.settings.massTolerance < ((m : Int) - (r.declared : Int)).natAbs }
    runPlacement p r m (s.setStore p (some r))

/-- A weighing that ended without a saturated sample is judged (R80). -/
def judgeWeighing (p : Index) (made sum largest smallest : Nat) (s : State) : State :=
  if 4 < largest - smallest then
    if 3 ≤ made then rejectStore p .unstable s
    else s.modPort p fun port => { port with infeed := some Infeed.fresh }
  else
    let mean := (sum + 16) / 32
    if mean = 0 ∨ s.largestLimit p < mean then rejectStore p .mass s
    else endWithMass p mean s

/-- A sample of the infeed load cell: an integer from 0 to 1,000 dkg (R79). -/
def clampSample (reading : Int) : Nat := min reading.toNat 1000

/-- A 10 ms sample is taken (R79, R80). -/
def takeSample (p : Index) (reading : Int) (s : State) : State :=
  match (s.ports.get p).infeed, s.stores.get p with
  | some (.weighing n sum hi lo), some r =>
    let v := clampSample reading
    if v = 1000 then
      rejectStore p .mass (s.modStore p fun r => { r with weighings := r.weighings + 1 })
    else
      let hi := max hi v
      let lo := min lo v
      if n + 1 = 32 then
        judgeWeighing p (r.weighings + 1) (sum + v) hi lo
          (s.modStore p fun r => { r with weighings := r.weighings + 1 })
      else s.modPort p fun port => { port with infeed := some (.weighing (n + 1) (sum + v) hi lo) }
  | _, _ => s

/-- The infeed tag read ends (R78): the declared tag begins the weighing, another tag or no read ends the work with TAG. -/
def takeInfeedTag (p : Index) (answer : Option Id32) (s : State) : State :=
  match (s.ports.get p).infeed, s.stores.get p with
  | some .awaitTag, some r =>
    if answer = some r.tag then s.modPort p fun port => { port with infeed := some Infeed.fresh }
    else rejectStore p .tag s
  | _, _ => s

end Sys2Proof.Machine
end

