-- ==== Sys2Proof/Machine/SchedulerOps.lean ====
section
/-! DEFINITION. The scheduler (R113 to R119): the tasks of a group and their ranking, task changes, the turn of an IDLE and of
a MOVING group, the move slots it fills (R59 to R61) and the promotion of NEXT (R71, R72). -/

namespace Sys2Proof.Machine

open Sys2Proof

/-! ## The tasks of a group (R114, R115) -/

/-- A task with its carrier, port and ranking key; `waiting` says that it is in BALANCE_WAIT with reconsidered no. -/
structure TaskItem where
  task : Task
  carrier : Nat
  port : Index
  waiting : Bool
  key : List Nat
deriving DecidableEq, Repr

/-- A lower line that lets a higher one leave its slot (R114). -/
def LineState.past : LineState → Bool
  | .onShuttle | .releasing | .inTransit | .arrived | .short _ => true
  | _ => false

/-- Eligibility for extraction (R114). -/
def eligible (o : Order) (l : Line) : Bool :=
  o.state == .active
    && (o.lines.all fun l' => !(decide (l'.seq < l.seq)) || l'.state.past)
    && (l.state == .reserved || l.state == .balanceWait true)

/-- The picks of a group: the eligible lines whose source slot lies in it, keyed C2 (R115). -/
def pickTasks (s : State) (g : Index) : List TaskItem :=
  (numbered 0 s.sched.orders).flatMap fun (i, e) =>
    match e with
    | none => []
    | some o =>
      o.lines.filterMap fun l =>
        if eligible o l ∧ s.groupOf l.carousel = some g then
          some { task := .pick o.id l.seq, carrier := l.carrier, port := l.carousel, waiting := false,
                 key := [2, o.priority, o.actSeq.getD 0, i, l.seq] }
        else none

/-- The stores of a group: its member ports' PLACED records, keyed C1 when promoted and C3 otherwise, in the order in which
they became PLACED (R115). -/
def storeTasks (s : State) (g : Index) : List TaskItem :=
  (numbered 0 s.sched.placedOrder).filterMap fun (i, p) =>
    match s.stores.get p with
    | none => none
    | some r =>
      match r.state, r.chosen with
      | .placed, some (c, _) =>
        if s.groupOf p = some g then
          some { task := .store p, carrier := c, port := p, waiting := r.cond == .balanceWait,
                 key := [if r.promoted then 1 else 3, i] }
        else none
      | _, _ => none

/-- The carrier an audit task names: the listed carrier nearest to the reference offset, the lower index among equals, and
the lowest index where there is no reference offset (R142). -/
def namedCarrier (s : State) (g : Index) (grp : Group) (t : AuditTask) : Option Nat :=
  bestBy (fun c => [grp.distanceTo (s.geometry g) c, c]) t.list

/-- The audit steps of a group, keyed C4 by distance and carousel index (R115, R142). -/
def auditTasks (s : State) (g : Index) : List TaskItem :=
  match s.groups.get g with
  | none => []
  | some grp =>
    grp.members.filterMap fun x =>
      match s.audit.tasks.get x with
      | none => none
      | some t =>
        if t.state = .running ∧ t.scan = none then
          match namedCarrier s g grp t with
          | some c => some { task := .audit x, carrier := c, port := x, waiting := false,
                             key := [4, grp.distanceTo (s.geometry g) c, x.val] }
          | none => none
        else none

/-- Every task of a group, best first (R115). -/
def tasksOf (s : State) (g : Index) : List TaskItem :=
  rank TaskItem.key (storeTasks s g ++ pickTasks s g ++ auditTasks s g)

/-- A task is usable when its port's shuttle is HOME_EMPTY (hence the port not FAULTED) and it does not wait (R115). -/
def usable (s : State) (t : TaskItem) : Bool := (s.ports.get t.port).shuttle == .homeEmpty && !t.waiting

/-- The usable tasks of a group, best first. -/
def usableTasks (s : State) (g : Index) : List TaskItem := (tasksOf s g).filter (usable s)

/-! ## Task changes (R115) -/

/-- The picks of a group, each with its reconsidered mark (R115). -/
def pickMarks (s : State) (g : Index) : List (Task × Bool) :=
  (pickTasks s g).map fun t => (t.task, s.reconsidered t.task)

/-- The stores of a group, each with its wait or reconsidered mark and whether it is promoted (R115). -/
def storeMarks (s : State) (g : Index) : List (Task × Option (TaskCond × Bool)) :=
  (storeTasks s g).map fun t => (t.task, (s.stores.get t.port).map fun r => (r.cond, r.promoted))

/-- How many tasks differ between two lists of marks: those that joined or whose mark changed, and those that left (R115). -/
def markChanges {α : Type} [DecidableEq α] (before after : List (Task × α)) : Nat :=
  (after.filter fun e => decide (e ∉ before)).length
    + (before.filter fun e => after.all fun e' => decide (e'.1 ≠ e.1)).length

/-- How many task changes lie between two records of one carousel's audit task: one for a record that is new or gone, else one
for a change of its state and one for each carrier that left its list, or one where only its scan in flight changed, which takes
its step away or gives it back (R115, R140 to R142). -/
def recordChanges : Option AuditTask → Option AuditTask → Nat
  | none, none => 0
  | some a, some b =>
    if !a.isOpen && b.isOpen then 1
    else if a.state = b.state ∧ a.list = b.list then (if a.scan = b.scan then 0 else 1)
    else (if a.state = b.state then 0 else 1) + (a.list.length - b.list.length)
  | _, _ => 1

/-- How many tasks of a group changed between two states (R115). -/
def taskChanges (before after : State) (g : Index) : Nat :=
  markChanges (pickMarks before g) (pickMarks after g) + markChanges (storeMarks before g) (storeMarks after g)
    + ((after.membersOf g).map fun x => recordChanges (before.audit.tasks.get x) (after.audit.tasks.get x)).sum

/-- A port whose shuttle became HOME_EMPTY or which was cleared between two states. -/
def portFreed (before after : Port) : Bool :=
  (before.shuttle != .homeEmpty && after.shuttle == .homeEmpty) || (before.fault.isSome && after.fault.isNone)

/-- How many member ports of a group were freed between two states (R115). -/
def portsFreed (before after : State) (g : Index) : Nat :=
  ((after.membersOf g).filter fun x => portFreed (before.ports.get x) (after.ports.get x)).length

/-! ## The turns due (R116) -/

/-- How many turns a group is due between two states, `events` naming it once for each event of R116 that is no task change. A
port that was freed is the completion, release or clear that `events` names, where it names one (log 45). -/
def turnsDue (events : List Index) (before after : State) (g : Index) : Nat :=
  events.count g + taskChanges before after g + if g ∈ events then 0 else portsFreed before after g

/-- The turns due between two states: each group as often as it is due one. -/
def dueTurns (events : List Index) (before after : State) : List Index :=
  allIndices.flatMap fun g => List.replicate (turnsDue events before after g) g

/-- How many scans of a carousel's audit task began and ended between two states of one turn: each compared a carrier or held
the task for the log (R143, R145). -/
def auditScansEnded : Option AuditTask → Option AuditTask → Nat
  | some a, some b => (a.list.length - b.list.length) + if a.state = .running ∧ b.state = .heldLog then 1 else 0
  | _, _ => 0

/-- How many face checks of a group began and ended between two states of one turn: each made the line it looked for SHORT
(R82). -/
def faceChecksEnded (before after : State) (g : Index) : Nat :=
  (before.sched.orders.flatMap fun e =>
    match e with
    | none => []
    | some o => o.lines.filter fun l => l.state.inSlot && before.groupOf l.carousel == some g
        && (after.findLine o.id l.seq).any fun l' => l'.state.isShort).length

/-- The groups at whose member ports a scan began and ended within one turn, once for each such scan (R116). -/
def scansEnded (before after : State) : List Index :=
  allIndices.flatMap fun g =>
    List.replicate (((after.membersOf g).map fun x =>
      auditScansEnded (before.audit.tasks.get x) (after.audit.tasks.get x)).sum + faceChecksEnded before after g) g

/-! ## Task lists and NEXT's task (R60, R61, R119) -/

/-- A move without the tasks that left the group's tasks. -/
def Move.prune (m : Move) (ts : List TaskItem) : Move :=
  { m with tasks := m.tasks.filter fun t => ts.any fun i => i.task == t && i.carrier == m.carrier }

/-- The record that made a task of group `g` at carrier `c` still names it, waiting or not: a line still in its slot, a PLACED
store, or an open audit task whose list holds the carrier (R72). -/
def taskStands (s : State) (g : Index) (t : Task) (c : Nat) : Bool :=
  match t with
  | .pick id seq =>
    match s.findLine id seq with
    | some l => s.groupOf l.carousel == some g && l.carrier == c && l.state.inSlot
    | none => false
  | .store p =>
    match s.stores.get p with
    | some r => s.groupOf p == some g && r.state == .placed && r.chosen.map Prod.fst == some c
    | none => false
  | .audit x =>
    match s.audit.tasks.get x with
    | some t => s.groupOf x == some g && t.isOpen && t.list.contains c
    | none => false

/-- NEXT's target keeps its place when its task ends, and the end is noted: a later task under the same name is another
(R61, R72, R105, R121, R148; log 42). -/
def Target.follow (n : Target) (s : State) (g : Index) : Target :=
  { n with ended := n.ended || !taskStands s g n.task n.carrier }

/-- A task that leaves the group's tasks leaves CURRENT's task list (R60, R119), and the end of NEXT's task is noted. -/
def pruneList (s : State) (g : Index) : State :=
  s.modGroup g fun grp =>
    { grp with current := grp.current.map fun m => m.prune (tasksOf s g), next := grp.next.map fun n => n.follow s g }

def pruneLists (s : State) : State := allIndices.foldl pruneList s

/-- Each task of the group at CURRENT's carrier that is not yet in its task list joins it (R119). -/
def joinList (g : Index) (s : State) : State :=
  match s.groups.get g with
  | some grp =>
    match grp.current with
    | some m =>
      let more := ((tasksOf s g).filter fun t => t.carrier == m.carrier && !m.tasks.contains t.task).map TaskItem.task
      s.modGroup g fun grp => { grp with current := some { m with tasks := m.tasks ++ more } }
    | none => s
  | none => s

/-! ## Pre-evaluation (R53) -/

/-- The change of mass a task's transfer would make; none for an audit step. -/
def taskMass (s : State) : Task → Option Int
  | .pick id seq =>
    match s.findLine id seq with
    | some l =>
      match s.slot? l.carousel l.carrier l.level with
      | some sl => some (-(sl.recorded : Int))
      | none => none
    | none => none
  | .store p =>
    match s.stores.get p with
    | some r => r.measured.map fun m => (m : Int)
    | none => none
  | .audit _ => none

/-- Whether a task passes its pre-evaluation; an audit step is not pre-evaluated (R53). -/
def preEvaluates (s : State) (g : Index) (t : Task) (c : Nat) : Bool :=
  match taskMass s t with
  | some dm => gatePasses s g c dm
  | none => true

/-- The first of a list of tasks that passes pre-evaluation; each that fails before it is marked BALANCE_WAIT (R53). -/
def firstPassing (g : Index) : List TaskItem → State → Option TaskItem × State
  | [], s => (none, s)
  | t :: ts, s =>
    if preEvaluates s g t.task t.carrier then (some t, s) else firstPassing g ts (markWait t.task s)

/-! ## Filling CURRENT and writing NEXT (R60, R61) -/

/-- A target enters CURRENT (R60): direction and class are asked, the phase is WAITING, and a NEXT with the same target is
emptied, its task joining the list. Nothing where the group is at the target already. -/
def fillCurrent (g : Index) (c : Nat) (tasks : List Task) (s : State) : State :=
  match s.groups.get g with
  | none => s
  | some grp =>
    let geo := s.geometry g
    match grp.k with
    | none => s
    | some k =>
      match moveAnswer geo grp k (geo.targetOf c) with
      | none => s
      | some a =>
        let sameNext := match grp.next with
          | some n => n.target == geo.targetOf c
          | none => false
        let extra := match grp.next with
          | some n => if sameNext && !n.ended && !tasks.contains n.task then [n.task] else []
          | none => []
        s.modGroup g fun grp =>
          { grp with
            current := some { target := geo.targetOf c, carrier := c, dir := a.dir, distance := a.distance,
                              pathMax := a.pathMax, cls := a.cls, phase := .waiting, tasks := tasks ++ extra,
                              holdStop := false }
            next := if sameNext then none else grp.next }

/-- Every task of the group at a carrier, as CURRENT's task list (R118). -/
def tasksAt (s : State) (g : Index) (c : Nat) : List Task :=
  ((tasksOf s g).filter fun t => t.carrier == c).map TaskItem.task

/-- NEXT is written with a task's target where R61 allows it: k valid, and the target differs from CURRENT's. A NEXT that
holds the same task at the same carrier, not ended, is left (R119). -/
def writeNext (g : Index) (t : TaskItem) (s : State) : State :=
  match s.groups.get g with
  | none => s
  | some grp =>
    let tgt := (s.geometry g).targetOf t.carrier
    let clash := match grp.current with
      | some m => m.target == tgt
      | none => false
    let same := match grp.next with
      | some n => n.task == t.task && n.carrier == t.carrier && !n.ended
      | none => false
    if grp.k.isNone || clash || same then s
    else s.modGroup g fun grp => { grp with next := some { target := tgt, carrier := t.carrier, task := t.task, ended := false } }

/-- The NEXT choice (R119) among the usable tasks whose carrier is not `excluded`. -/
def nextChoice (g : Index) (excluded : Nat) (s : State) : State :=
  match firstPassing g ((usableTasks s g).filter fun t => t.carrier != excluded) s with
  | (some t, s) => writeNext g t s
  | (none, s) => s

/-! ## Port starts (R117) -/

/-- The first of a port's tasks that starts; a store whose gate fails waits, and the next is taken (R117). The second
component says whether anything started. -/
def startFirst : List TaskItem → State → State × Bool
  | [], s => (s, false)
  | t :: ts, s =>
    let r := match t.task with
      | .pick id seq => askFaceCheck id seq s
      | .store p => askInsertion p s
      | .audit x => askAuditScan x s
    if r.2 then r else startFirst ts r.1

/-- The start at one member port: the best usable task of the port whose carrier is the carrier at the port (R117). -/
def portStart (g x : Index) (s : State) : State × Bool :=
  if (s.ports.get x).ready then
    match s.carrierAt x with
    | none => (s, false)
    | some c => startFirst ((usableTasks s g).filter fun t => t.port == x && t.carrier == c) s
  else (s, false)

/-- The starts at every member port in turn, in the order given; whether any started (R117). -/
def portStarts (g : Index) : List Index → State → State × Bool
  | [], s => (s, false)
  | x :: xs, s =>
    let r := portStart g x s
    let r' := portStarts g xs r.1
    (r'.1, r.2 || r'.2)

/-! ## Promotion and the move choice (R71, R72, R118) -/

/-- No member shuttle is INSERTING or EXTRACTING and no scan is in flight at a member port (R60, R71). -/
def portsQuiet (s : State) (g : Index) : Bool :=
  (s.membersOf g).all fun x =>
    (s.ports.get x).shuttle != .inserting && (s.ports.get x).shuttle != .extracting && (s.ports.get x).scan.isNone

/-- A task does not wait: a line not in BALANCE_WAIT unreconsidered, a store likewise, an audit task RUNNING (R72, items 1
and 3). -/
def taskReady (s : State) (t : Task) : Bool :=
  match t with
  | .pick id seq =>
    match s.findLine id seq with
    | some l => l.state != .balanceWait false
    | none => false
  | .store p =>
    match s.stores.get p with
    | some r => r.cond != .balanceWait
    | none => false
  | .audit x =>
    match s.audit.tasks.get x with
    | some t => t.state == .running
    | none => false

/-- NEXT's own task, at its carrier, is pending and not started, and does not wait (R72, items 1 and 3). A task that was
withdrawn since NEXT was written fails, whatever stands under its name now (R105, R121). -/
def stillPending (s : State) (g : Index) (n : Target) : Bool :=
  !n.ended && taskStands s g n.task n.carrier && taskReady s n.task

/-- The port of a task: that of its source slot's carousel, of its store record, or of its carousel (R115). -/
def taskPort (s : State) : Task → Option Index
  | .pick id seq => (s.findLine id seq).map Line.carousel
  | .store p => some p
  | .audit x => some x

/-- NEXT's target is still wanted but for its pre-evaluation (R72, items 1 to 4). -/
def stillWanted (s : State) (g : Index) (grp : Group) (n : Target) : Bool :=
  stillPending s g n
    && (match taskPort s n.task with
        | some p => (s.ports.get p).shuttle == .homeEmpty
        | none => false)
    && (grp.k != some n.target)

/-- NEXT is emptied. -/
def clearNext (g : Index) (s : State) : State := s.modGroup g fun grp => { grp with next := none }

/-- The best task of the group whose carrier is not at its port and that passes pre-evaluation is offered for CURRENT
(R118). -/
def offerBest (g : Index) (s : State) : State :=
  let here := match s.groups.get g with
    | some grp => grp.k.map (s.geometry g).atPort
    | none => none
  match firstPassing g ((usableTasks s g).filter fun t => some t.carrier != here) s with
  | (some t, s) => fillCurrent g t.carrier (tasksAt s g t.carrier) s
  | (none, s) => s

/-- A promotion point (R71, R72, R118): NEXT, when filled, is tested and enters CURRENT or is emptied; where CURRENT stays
empty the best task is offered. -/
def promotionPoint (g : Index) (s : State) : State :=
  let s := s.modGroup g fun grp => { grp with arrivalOpen := false }
  match s.groups.get g with
  | none => s
  | some grp =>
    match grp.next with
    | none => offerBest g s
    | some n =>
      let s' := clearNext g s
      if stillWanted s g grp n then
        if preEvaluates s g n.task n.carrier then
          fillCurrent g n.carrier (n.task :: (tasksAt s' g n.carrier).filter (· != n.task)) s'
        else offerBest g (markWait n.task s')
      else offerBest g s'

/-! ## The turn (R116) -/

/-- The turn of an IDLE group in NORMAL (R116 to R119). The NEXT choice leaves out CURRENT's carrier while CURRENT is filled, and
else the carrier at the ports (log 47). -/
def idleTurn (g : Index) (s : State) : State :=
  let order := freeOrder s.choices (s.membersOf g)
  let r := portStarts g order (spendChoices (s.membersOf g) s)
  let s := r.1
  match s.groups.get g with
  | none => s
  | some grp =>
    match grp.current with
    | some m => nextChoice g m.carrier (joinList g s)
    | none =>
      if portsQuiet s g && !r.2 then promotionPoint g s
      else if grp.arrivalOpen then
        match grp.k with
        | some k => nextChoice g ((s.geometry g).atPort k) s
        | none => s
      else s

/-- The turn of a MOVING group in NORMAL (R116, R119). -/
def movingTurn (g : Index) (s : State) : State :=
  match s.groups.get g with
  | none => s
  | some grp =>
    match grp.current with
    | some m => nextChoice g m.carrier (joinList g s)
    | none => s

/-- The scheduler's turn for a group (R116). -/
def turn (g : Index) (s : State) : State :=
  match s.link.mode, s.groups.get g with
  | .normal, some grp =>
    match grp.state with
    | .idle => idleTurn g s
    | .moving => movingTurn g s
    | _ => s
  | _, _ => s

/-- One turn given: the state after it, and the turns that its own events make due, after those due already (R116). -/
def giveTurn (w : State × List Index) (g : Index) : State × List Index :=
  let s := pruneLists (turn g w.1)
  (s, w.2 ++ dueTurns (scansEnded w.1 s) w.1 s)

/-- The turns due, in an order that the part does not fix (log 5), and the turns that they make due. -/
def takeTurns (gs : List Index) (s : State) : State × List Index :=
  (freeOrder s.choices gs).foldl giveTurn (spendChoices gs s, [])

/-- Rounds of turns: the turns due are taken, and those that their own events make due are taken in the next round (R115, R116;
log 22). -/
def turnRounds : Nat → List Index → State → State
  | 0, _, s => s
  | n + 1, gs, s =>
    match gs with
    | [] => s
    | _ =>
      let r := takeTurns gs s
      turnRounds n r.2 r.1

/-- The number of rounds a step may take (log 22). -/
def roundCap : Nat := 64

/-- What the scheduler does after a command: a turn for each of its events, those that `events` names and the task changes since
`before`, each on the records as all of the command's events left them (R116; log 45). -/
def giveTurns (events : List Index) (before after : State) : State :=
  turnRounds roundCap (dueTurns events before after) (pruneLists after)

/-- The group of a port, as the list of groups that an event at the port gives a turn. -/
def portGroup (s : State) (p : Index) : List Index := (s.groupOf p).toList

end Sys2Proof.Machine
end

