-- ==== Sys2Proof/Machine/Bytes.lean ====
section
/-! DEFINITION. The byte images of chapter 11: little-endian fields (R173), the enumerations of section 11.3, the records that
replies carry, and the reply frame with its CRC-16 (R161, R174). -/

namespace Sys2Proof.Machine

open Sys2Proof

/-! ## Fields (R173) -/

/-- One byte. -/
def u8 (n : Nat) : List Byte := [BitVec.ofNat 8 n]

/-- Two bytes, little-endian. -/
def u16 (n : Nat) : List Byte := [BitVec.ofNat 8 n, BitVec.ofNat 8 (n / 256)]

/-- Four bytes, little-endian. -/
def u32 (n : Nat) : List Byte :=
  [BitVec.ofNat 8 n, BitVec.ofNat 8 (n / 256), BitVec.ofNat 8 (n / 65536), BitVec.ofNat 8 (n / 16777216)]

/-- Two bytes, signed two's complement. -/
def i16 (z : Int) : List Byte := u16 (BitVec.ofInt 16 z).toNat

/-- Four bytes, signed two's complement. -/
def i32 (z : Int) : List Byte := u32 (BitVec.ofInt 32 z).toNat

/-- A tag, set id or order id. -/
def id32 (b : Id32) : List Byte := u32 b.toNat

/-- A yes-or-no field. -/
def flag (b : Bool) : List Byte := u8 b.toNat

/-- The field at byte `i` of a request, one, two or four bytes. -/
def byteAt (p : List Byte) (i : Nat) : Nat := (p.getD i 0#8).toNat

def wordAt (p : List Byte) (i : Nat) : Nat := byteAt p i + 256 * byteAt p (i + 1)

def longAt (p : List Byte) (i : Nat) : Nat := wordAt p i + 65536 * wordAt p (i + 2)

def idAt (p : List Byte) (i : Nat) : Id32 := BitVec.ofNat 32 (longAt p i)

/-- An index of four, where the number is one. -/
def indexOf (n : Nat) : Option Index := if h : n < 4 then some ⟨n, h⟩ else none

/-- The reading of an absent carrier, level, offset or port (R173). -/
def absentByte : Nat := 0xFF

/-! ## Codes (section 11.3) -/

def Reason.code : Reason → Nat
  | .format => 1
  | .unknownKind => 2
  | .range => 3
  | .state => 4
  | .busy => 5
  | .full => 6
  | .notFound => 7
  | .conflict => 8
  | .unavailable => 9
  | .balance => 10
  | .limit => 11
  | .notNormal => 12

def Mode.code : Mode → Nat
  | .normal => 0
  | .hold => 1

def GroupState.code : GroupState → Nat
  | .offline => 0
  | .referencing => 1
  | .idle => 2
  | .moving => 3
  | .paused => 4
  | .faulted => 5

def FaultCause.code : FaultCause → Nat
  | .none => 0
  | .stall => 1
  | .drive => 2
  | .position => 3
  | .feedback => 4
  | .interlock => 5

def ShuttleState.code : ShuttleState → Nat
  | .homeEmpty => 0
  | .inserting => 1
  | .extracting => 2
  | .homeLoaded => 3
  | .releasing => 4
  | .faulted => 5

/-- Jam kind of a port's fault record, 0 where it has none. -/
def jamCode : Option PortFault → Nat
  | none => 0
  | some (.insert _ _ _ _) => 1
  | some (.extract _ _ _ _) => 2
  | some .release => 3
  | some .start => 4

def MapState.code : MapState → Nat
  | .absent => 0
  | .opened => 1
  | .committed => 2

def Content.code : Content → Nat
  | .empty => 0
  | .held => 1

def Condition.code : Condition → Nat
  | .clear => 0
  | .suspect => 1
  | .blocked => 2

def Phase.code : Phase → Nat
  | .planned => 0
  | .started => 1

def Finding.code : Finding → Nat
  | .missing => 1
  | .unexpected => 2
  | .wrongTag => 3
  | .unreadable => 4
  | .insertJam => 5
  | .extractJam => 6

def StoreReason.code : StoreReason → Nat
  | .mass => 1
  | .unstable => 2
  | .tag => 3
  | .noSlot => 4
  | .balance => 5
  | .jam => 6
  | .withdrawn => 7

def StoreState.code : StoreState → Nat
  | .weighing => 1
  | .placed => 2
  | .inserting => 3
  | .done => 4
  | .rejected _ => 5

/-- Reason of a store state, 0 outside REJECTED. -/
def StoreState.reason : StoreState → Nat
  | .rejected r => r.code
  | _ => 0

/-- Task condition of a store record; 0 outside PLACED (section 11.6). -/
def StoreRecord.condCode (r : StoreRecord) : Nat :=
  match r.state, r.cond with
  | .placed, .pending => 1
  | .placed, .balanceWait => 2
  | .placed, .reconsidered => 3
  | _, _ => 0

def OrderState.code : OrderState → Nat
  | .queued => 0
  | .active => 1
  | .complete => 2
  | .cancelling => 3
  | .cancelled => 4

def LineState.code : LineState → Nat
  | .reserved => 0
  | .balanceWait _ => 1
  | .extracting => 2
  | .onShuttle => 3
  | .releasing => 4
  | .inTransit => 5
  | .arrived => 6
  | .short _ => 7
  | .withdrawn => 8

/-- The marks byte of a line record: short reason in bits 1-0, reject-bound in bit 2, reconsidered in bit 3. -/
def Line.marks (l : Line) : Nat :=
  (match l.state with
    | .short .missing => 1
    | .short .wrongTag => 2
    | .short .jam => 3
    | .balanceWait true => 8
    | _ => 0) + (if l.rejectBound then 4 else 0)

def LaneState.code : LaneState → Nat
  | .free => 0
  | .filling => 1
  | .complete => 2
  | .heldCancelled => 3

def Diverter.code : Diverter → Nat
  | .idle => 0
  | .waitingRoom => 1
  | .diverting _ => 2

def AuditState.code : AuditState → Nat
  | .running => 1
  | .heldLog => 2
  | .done => 3
  | .stopped => 4

def Origin.code : Origin → Nat
  | .host => 0
  | .auto => 1

def Check.code : Check → Nat
  | .presence => 0
  | .tag => 1

def StationFaultKind.code : StationFaultKind → Nat
  | .divertTimeout => 1
  | .misroute _ => 2
  | .strayEntry => 3

def Direction.code : Direction → Nat
  | .forward => 0
  | .reverse => 1

/-- Speed code of a class (R54). -/
def SpeedClass.code : SpeedClass → Nat
  | .creep => 0
  | .gentle => 1
  | .normal => 2
  | .fast => 3

def MovePhase.code : MovePhase → Nat
  | .waiting => 0
  | .travel => 1
  | .settling => 2

/-- Lane codes: 1 to 4, and 5 for the reject lane (R173). -/
def laneNumber : Lane → Nat
  | .order i => i.val + 1
  | .reject => 5

/-- An optional lane; 0 where it is absent (R173). -/
def laneCode : Option Lane → Nat
  | some l => laneNumber l
  | none => 0

/-- The lane a code names. -/
def laneOf (n : Nat) : Option Lane :=
  if n = 5 then some .reject
  else if n = 0 then none
  else (indexOf (n - 1)).map .order

/-! ## Link, groups and ports in STATUS (section 11.4) -/

/-- CURRENT flags of a group. With CURRENT absent the phase, direction and class bits are sent as 0, for which the spec names no
value; pause pending is sent also then (section 11.4; log 40). -/
def Group.currentFlags (grp : Group) : Nat :=
  (match grp.current with
    | some m => 1 + 2 * m.phase.code + 8 * m.dir.code + 16 * m.cls.code + 128 * m.holdStop.toNat
    | none => 0) + 64 * grp.pausePending.toNat

/-- Lines byte of a channel: bit 0 RUN, bit 1 DIR, bits 3-2 SPEED. -/
def Channel.lines (c : Channel) : Nat := c.run.toNat + 2 * c.dir.code + 4 * c.speed.code

/-- CURRENT's target, carrier, distance and path maximum. An absent CURRENT is sent with distance and path maximum 0, where the
spec gives those zeros only for a group that does not exist (log 40). -/
def moveBytes : Option Move → List Byte
  | some m => u8 m.target ++ u8 m.carrier ++ u8 m.distance ++ u32 m.pathMax
  | none => u8 absentByte ++ u8 absentByte ++ u8 0 ++ u32 0

/-- NEXT's target and carrier. -/
def targetBytes : Option Target → List Byte
  | some t => u8 t.target ++ u8 t.carrier
  | none => u8 absentByte ++ u8 absentByte

/-- The 18 bytes of a group in STATUS. -/
def groupStatus (s : State) (g : Index) : List Byte :=
  match s.groups.get g with
  | some grp =>
    u8 1 ++ u8 grp.state.code ++ u8 (grp.k.getD absentByte) ++ u8 grp.cause.code ++ flag grp.suspect ++ u8 grp.deviant
      ++ u8 grp.revolution ++ u8 (s.channels.get g).lines ++ u8 grp.currentFlags ++ moveBytes grp.current
      ++ targetBytes grp.next
  | none =>
    u8 0 ++ u8 0 ++ u8 absentByte ++ u8 0 ++ u8 0 ++ u8 0 ++ u8 0 ++ u8 0 ++ u8 0 ++ moveBytes none ++ targetBytes none

/-- The 6 bytes of a port in STATUS. -/
def portStatus (s : State) (p : Index) : List Byte :=
  let port := s.ports.get p
  u8 port.shuttle.code ++ u8 (jamCode port.fault)
    ++ id32 (match port.loadRec with
      | some lr => lr.tag
      | none => 0#32)

/-- The 7 bytes of the link unit in STATUS. -/
def linkStatus (l : Link) : List Byte :=
  u8 l.mode.code ++ u16 l.flags.toNat ++ u16 l.mask.toNat ++ u8 l.wdCode ++ flag l.wdTimer.isSome

/-- The state and item count of a lane. -/
def laneStatus (st : Station) (i : Index) : List Byte :=
  u8 (st.lanes.get i).state.code ++ u8 (st.lanes.get i).stack.length

/-- The STATUS reply, 121 bytes (R171). -/
def statusBytes (s : State) : List Byte :=
  linkStatus s.link ++ allIndices.flatMap (groupStatus s) ++ allIndices.flatMap (portStatus s)
    ++ u8 (s.sched.orders.filter Option.isSome).length
    ++ flag s.station.fault.isSome ++ u8 s.station.collector.length ++ flag s.station.paused
    ++ allIndices.flatMap (laneStatus s.station) ++ u8 s.station.reject.length
    ++ u32 s.audit.generation ++ u8 s.audit.log.length

/-- The IDENT reply (R170). -/
def identBytes (s : State) : List Byte :=
  u16 Config.vendorCode ++ u16 Config.partCode ++ u8 Config.revision ++ u8 s.link.address ++ u8 s.link.baud.toNat
    ++ u8 Config.carouselCap ++ u8 Config.carrierCap ++ u8 Config.levelCap ++ u8 Config.groupCap ++ u8 Config.orderCap
    ++ u8 Config.lineCap ++ u8 Config.collectorCap ++ u8 Config.laneCap ++ u8 Config.laneItemCap ++ u8 Config.rejectCap
    ++ u8 Config.logCap ++ u8 Config.payloadCap

/-- The last compared sample in BALANCE_READ. -/
def sampleBytes : Option ComparedSample → List Byte
  | some c => u8 1 ++ u8 c.offset ++ i32 c.measured ++ i32 c.expected
  | none => u8 0 ++ u8 absentByte ++ i32 0 ++ i32 0

/-- The BALANCE_READ reply (R58, section 11.4). -/
def balanceBytes (s : State) (g : Index) (grp : Group) (first count : Nat) : List Byte :=
  let c := (s.geometry g).carriers
  let n := min count (c - first)
  u8 grp.state.code ++ u8 c ++ u16 grp.changeNo ++ u32 (peak grp.effective) ++ u32 (peak grp.planned)
    ++ u8 grp.deviant ++ flag grp.suspect ++ sampleBytes grp.lastCompared ++ u8 n
    ++ (List.range n).flatMap fun i => i32 (grp.effective.getD (first + i) 0) ++ i32 (grp.planned.getD (first + i) 0)

/-! ## Slots (section 11.5) -/

/-- The slot image, 14 bytes (R28). -/
def imageBytes (c l : Nat) (sl : Slot) : List Byte :=
  u8 c ++ u8 l ++ u8 sl.content.code ++ id32 sl.tag ++ id32 sl.setId ++ u8 sl.member ++ u16 sl.recorded

/-- The commit finding in MAP_READ. -/
def findingBytes : Option CommitFinding → List Byte
  | some f => u8 f.reason.code ++ u8 f.carrier ++ u8 (f.level.getD absentByte)
  | none => u8 0 ++ u8 absentByte ++ u8 absentByte

/-- Reservation, phase and reservation data of a slot record. -/
def reservationBytes : Reservation → List Byte
  | .none => u8 0 ++ u8 0 ++ List.replicate 7 0#8
  | .inbound p t m ph => u8 1 ++ u8 ph.code ++ u8 p.val ++ id32 t ++ u16 m
  | .outbound o l ph => u8 2 ++ u8 ph.code ++ id32 o ++ u8 l ++ u16 0

/-- The slot record, 32 bytes (R40). -/
def slotBytes (ms : MapState) (c l : Nat) (sl : Slot) : List Byte :=
  u8 ms.code ++ u8 c ++ u8 l ++ u8 sl.content.code ++ id32 sl.tag ++ id32 sl.setId ++ u8 sl.member ++ u16 sl.recorded
    ++ u16 sl.counted ++ u8 sl.condition.code ++ reservationBytes sl.reservation ++ u32 sl.stamp
    ++ u8 (match sl.finding with
      | some f => f.code
      | none => 0)

/-! ## Stores and orders (section 11.6) -/

/-- The store record, 28 bytes (R106). -/
def storeBytes : Option StoreRecord → List Byte
  | none =>
    u8 0 ++ u8 0 ++ u32 0 ++ u16 0 ++ u32 0 ++ u8 0 ++ u8 absentByte ++ u8 0 ++ u16 0 ++ u8 0 ++ u8 absentByte
      ++ u8 absentByte ++ u32 0 ++ u16 0 ++ u8 0 ++ u8 0
  | some r =>
    u8 r.state.code ++ u8 r.state.reason ++ id32 r.tag ++ u16 r.declared ++ id32 r.setId ++ u8 r.member
      ++ u8 (r.hint.getD absentByte) ++ u8 r.weighings ++ u16 (r.measured.getD 0) ++ flag r.corrected
      ++ u8 ((r.chosen.map Prod.fst).getD absentByte) ++ u8 ((r.chosen.map Prod.snd).getD absentByte)
      ++ u32 (r.trialPeak.getD 0) ++ u16 (r.waited.getD 0) ++ flag r.promoted ++ u8 r.condCode

/-- A line record, 12 bytes. -/
def lineBytes (l : Line) : List Byte :=
  u8 l.seq ++ id32 l.tag ++ u8 l.carousel.val ++ u8 l.carrier ++ u8 l.level ++ u16 l.mass ++ u8 l.state.code
    ++ u8 l.marks

/-- The lane of an order, 0 before activation. -/
def Order.laneByte (o : Order) : Nat := laneCode (o.lane.map .order)

/-- The order record (R123). The short indicator, which only an order that completed has, is sent as 0 where it is absent, as its
`no` is (log 39). -/
def orderBytes (i : Nat) (o : Order) : List Byte :=
  u8 i ++ id32 o.id ++ u8 o.priority ++ u8 o.state.code ++ flag (o.short.getD false) ++ u32 o.openSeq
    ++ u32 (o.actSeq.getD 0) ++ u8 o.laneByte ++ u8 o.lines.length ++ o.lines.flatMap lineBytes

/-! ## The station (R175) -/

/-- The diversion in flight of a fault record. -/
def diversionBytes : Option FaultDiversion → List Byte
  | some d => u8 1 ++ id32 d.tag ++ id32 d.order ++ u8 d.line ++ u8 (laneNumber d.dest)
  | none => u8 0 ++ u32 0 ++ u32 0 ++ u8 0 ++ u8 0

/-- The fault record, 15 bytes; zeros where the station is not FAULTED. -/
def stationFaultBytes : Option StationFault → List Byte
  | none => List.replicate 15 0#8
  | some f =>
    u8 f.kind.code ++ diversionBytes f.diversion
      ++ u8 (match f.kind with
        | .misroute l => laneNumber l
        | _ => 0)
      ++ u8 (laneCode f.lateArrival) ++ u8 f.strayCount

/-- The destination when DIVERTING, else 0. -/
def Diverter.destCode : Diverter → Nat
  | .diverting d => laneNumber d
  | _ => 0

/-- The release port that section 0 reports: that of the release in progress (R138) where the station is FAULTED, and absent
where it is not (R175). That R175 prevails over R138 there is the model's choice (log 49). -/
def Station.shownRelease (st : Station) : Option Index := if st.fault.isSome then st.releasePort else none

/-- Section 0 of STATION_QUERY. -/
def stationBytes (st : Station) : List Byte :=
  flag st.fault.isSome ++ stationFaultBytes st.fault ++ flag st.paused ++ u8 st.diverter.code ++ u8 st.diverter.destCode
    ++ u8 (match st.shownRelease with
      | some p => p.val
      | none => absentByte)
    ++ u8 st.collector.length ++ (st.collector.flatMap fun e => id32 e.tag ++ id32 e.order ++ u8 e.line)
    ++ u8 st.settings.transferTimeout ++ u8 st.settings.massTolerance ++ u16 st.settings.storePatience
    ++ u8 st.settings.laneCount ++ u8 st.settings.high ++ u8 st.settings.low

/-- Sections 1 to 4: one lane. -/
def laneBytes (r : LaneRecord) : List Byte :=
  u8 r.state.code ++ id32 (r.order.getD 0#32) ++ u8 r.stack.length
    ++ r.stack.flatMap fun e => id32 e.tag ++ u8 e.line

/-- Section 5: the reject list. -/
def rejectBytes (l : List RejectItem) : List Byte :=
  u8 l.length ++ l.flatMap fun e => id32 e.tag ++ id32 e.order

/-! ## Audit (section 11.8) -/

/-- Selection kind, first carrier and count as given. -/
def selectionBytes : Selection → List Byte
  | .span first count => u8 0 ++ u8 first ++ u8 count
  | .oldest count => u8 1 ++ u8 absentByte ++ u8 count

/-- The AUDIT_QUERY reply (R150). -/
def taskBytes : Option AuditTask → List Byte
  | none => List.replicate 12 0#8 ++ u8 absentByte ++ u8 0
  | some t =>
    u8 t.state.code ++ u8 t.origin.code ++ u8 t.check.code ++ selectionBytes t.selection ++ u32 t.generation
      ++ u16 t.findings ++ u8 (t.scan.getD absentByte) ++ u8 t.list.length ++ t.list.flatMap u8

/-- A log entry, 20 bytes. -/
def entryBytes (e : LogEntry) : List Byte :=
  u32 e.number ++ u8 e.carousel.val ++ u8 e.carrier ++ u8 e.level ++ u8 e.kind.code ++ id32 (e.recordedTag.getD 0#32)
    ++ id32 (e.readTag.getD 0#32) ++ u32 e.generation

/-! ## The frame (R161, R174, section 11.1) -/

/-- One bit of the CRC-16: generator 0x1021, most significant bit first (R161). -/
def crcBit (crc : BitVec 16) : BitVec 16 := if crc.msb then (crc <<< 1) ^^^ 0x1021#16 else crc <<< 1

/-- One byte of the CRC-16. -/
def crcByte (crc : BitVec 16) (b : Byte) : BitVec 16 :=
  crcBit (crcBit (crcBit (crcBit (crcBit (crcBit (crcBit (crcBit (crc ^^^ (b.setWidth 16 <<< 8)))))))))

/-- The CRC-16 of a run of bytes, from 0xFFFF (R161). -/
def crc16 (bs : List Byte) : BitVec 16 := bs.foldl crcByte 0xFFFF#16

/-- The SYNC byte, with which every frame begins (section 11.1). -/
def syncByte : Byte := 0xA5#8

/-- The two CRC bytes over a run of bytes, high byte first (R161). -/
def crcBytes (bs : List Byte) : List Byte := u8 ((crc16 bs).toNat / 256) ++ u8 (crc16 bs).toNat

/-- A whole frame: SYNC, ADDR, KIND, LEN, the payload, and the CRC over all but SYNC (section 11.1). -/
def frameBytes (addr kind : Byte) (payload : List Byte) : List Byte :=
  let body := [addr, kind] ++ u8 payload.length ++ payload
  [syncByte] ++ body ++ crcBytes body

/-- The reply frame of a part at an address (R174, section 11.1). -/
def replyFrame (address : Nat) (r : Reply) : List Byte := frameBytes (BitVec.ofNat 8 (0x80 + address)) r.kind r.payload

end Sys2Proof.Machine
end

