-- ==== Sys2Proof/Machine/Operands.lean ====
section
/-! DEFINITION. The operands of the requests: one structure for each payload of chapter 11 with more than one field, read
from the payload's bytes and written back to them in the same field order (R173). A payload is read only after its length has
been accepted (R163), so a byte beyond its end, which reads 0, is never asked for. -/

namespace Sys2Proof.Machine

open Sys2Proof

/-! ## SET_LINK -/

structure LinkRequest where
  code : Nat
  mask : Nat
deriving DecidableEq, Repr

def readLink (p : List Byte) : LinkRequest := { code := byteAt p 0, mask := wordAt p 1 }

def writeLink (r : LinkRequest) : List Byte := u8 r.code ++ u16 r.mask

/-! ## SET_CAROUSEL (R4) -/

structure CarouselRequest where
  carousel : Nat
  carriers : Nat
  bend : Nat
  port : Nat
  levels : Nat
  carrierLimit : Nat
  pulses : Nat
  limit0 : Nat
  limit1 : Nat
  limit2 : Nat
  limit3 : Nat
  limit4 : Nat
  limit5 : Nat
deriving DecidableEq, Repr

def readCarousel (p : List Byte) : CarouselRequest where
  carousel := byteAt p 0
  carriers := byteAt p 1
  bend := byteAt p 2
  port := byteAt p 3
  levels := byteAt p 4
  carrierLimit := wordAt p 5
  pulses := wordAt p 7
  limit0 := wordAt p 9
  limit1 := wordAt p 11
  limit2 := wordAt p 13
  limit3 := wordAt p 15
  limit4 := wordAt p 17
  limit5 := wordAt p 19

def writeCarousel (r : CarouselRequest) : List Byte :=
  u8 r.carousel ++ u8 r.carriers ++ u8 r.bend ++ u8 r.port ++ u8 r.levels ++ u16 r.carrierLimit ++ u16 r.pulses
    ++ u16 r.limit0 ++ u16 r.limit1 ++ u16 r.limit2 ++ u16 r.limit3 ++ u16 r.limit4 ++ u16 r.limit5

/-- The six level limits with their levels. -/
def CarouselRequest.limits (r : CarouselRequest) : List Nat :=
  [r.limit0, r.limit1, r.limit2, r.limit3, r.limit4, r.limit5]

/-- The configuration record the request states (R3): one limit for each level below S. -/
def CarouselRequest.config (r : CarouselRequest) : CarouselConfig where
  carriers := r.carriers
  bend := r.bend
  port := r.port
  levels := r.levels
  carrierLimit := r.carrierLimit
  pulses := r.pulses
  levelLimits := r.limits.take r.levels

/-! ## SET_GROUP (R7) -/

structure GroupRequest where
  group : Nat
  members : Nat
  lp : Nat
  ls1 : Nat
  ls2 : Nat
  ld : Nat
  friction : Nat
  fullScale : Nat
  tolerance : Nat
  stallTime : Nat
  autoAudit : Nat
deriving DecidableEq, Repr

def readGroup (p : List Byte) : GroupRequest where
  group := byteAt p 0
  members := byteAt p 1
  lp := longAt p 2
  ls1 := longAt p 6
  ls2 := longAt p 10
  ld := longAt p 14
  friction := longAt p 18
  fullScale := longAt p 22
  tolerance := longAt p 26
  stallTime := byteAt p 30
  autoAudit := byteAt p 31

def writeGroup (r : GroupRequest) : List Byte :=
  u8 r.group ++ u8 r.members ++ u32 r.lp ++ u32 r.ls1 ++ u32 r.ls2 ++ u32 r.ld ++ u32 r.friction ++ u32 r.fullScale
    ++ u32 r.tolerance ++ u8 r.stallTime ++ u8 r.autoAudit

/-- The members named: bit x for carousel x, ascending. -/
def GroupRequest.memberList (r : GroupRequest) : List Index := allIndices.filter fun x => r.members.testBit x.val

def GroupRequest.params (r : GroupRequest) : GroupParams where
  lp := r.lp
  ls1 := r.ls1
  ls2 := r.ls2
  ld := r.ld
  friction := r.friction
  fullScale := r.fullScale
  tolerance := r.tolerance
  stallTime := r.stallTime
  autoAudit := r.autoAudit == 1

/-! ## CLEAR_FAULT (R19, section 11.4) -/

structure ClearRequest where
  target : Nat
  argument : Nat
deriving DecidableEq, Repr

def readClear (p : List Byte) : ClearRequest := { target := byteAt p 0, argument := byteAt p 1 }

def writeClear (r : ClearRequest) : List Byte := u8 r.target ++ u8 r.argument

/-- Target kind, bits 5-4: 0 group, 1 port, 2 station. -/
def ClearRequest.targetKind (r : ClearRequest) : Nat := r.target / 16 % 4

/-- Target index, bits 2-0. -/
def ClearRequest.targetIndex (r : ClearRequest) : Nat := r.target % 8

/-- Bits 7, 6 and 3 are unused. -/
def ClearRequest.unusedSet (r : ClearRequest) : Bool :=
  r.target.testBit 7 || r.target.testBit 6 || r.target.testBit 3

/-! ## Reads -/

structure BalanceRequest where
  group : Nat
  first : Nat
  count : Nat
deriving DecidableEq, Repr

def readBalance (p : List Byte) : BalanceRequest := { group := byteAt p 0, first := byteAt p 1, count := byteAt p 2 }

def writeBalance (r : BalanceRequest) : List Byte := u8 r.group ++ u8 r.first ++ u8 r.count

structure MapReadRequest where
  carousel : Nat
  carrier : Nat
  level : Nat
  count : Nat
deriving DecidableEq, Repr

def readMapRead (p : List Byte) : MapReadRequest where
  carousel := byteAt p 0
  carrier := byteAt p 1
  level := byteAt p 2
  count := byteAt p 3

def writeMapRead (r : MapReadRequest) : List Byte := u8 r.carousel ++ u8 r.carrier ++ u8 r.level ++ u8 r.count

structure SlotRequest where
  carousel : Nat
  carrier : Nat
  level : Nat
deriving DecidableEq, Repr

def readSlotName (p : List Byte) : SlotRequest where
  carousel := byteAt p 0
  carrier := byteAt p 1
  level := byteAt p 2

def writeSlotName (r : SlotRequest) : List Byte := u8 r.carousel ++ u8 r.carrier ++ u8 r.level

structure LogRequest where
  consume : Nat
  read : Nat
deriving DecidableEq, Repr

def readLog (p : List Byte) : LogRequest := { consume := byteAt p 0, read := byteAt p 1 }

def writeLog (r : LogRequest) : List Byte := u8 r.consume ++ u8 r.read

/-! ## Slot images (R25, section 11.5) -/

structure SlotImage where
  carrier : Nat
  level : Nat
  content : Nat
  tag : Id32
  setId : Id32
  member : Nat
  mass : Nat
deriving DecidableEq, Repr

/-- The slot image at byte `i` of a payload. -/
def readImage (p : List Byte) (i : Nat) : SlotImage where
  carrier := byteAt p i
  level := byteAt p (i + 1)
  content := byteAt p (i + 2)
  tag := idAt p (i + 3)
  setId := idAt p (i + 7)
  member := byteAt p (i + 11)
  mass := wordAt p (i + 12)

def writeImage (r : SlotImage) : List Byte :=
  u8 r.carrier ++ u8 r.level ++ u8 r.content ++ id32 r.tag ++ id32 r.setId ++ u8 r.member ++ u16 r.mass

/-- The images of a MAP_PUT; their count is taken from LEN (R173). -/
def readImages (p : List Byte) : List SlotImage :=
  (List.range ((p.length - 1) / 14)).map fun i => readImage p (1 + 14 * i)

/-- The record an image states: counted mass equal to recorded mass, CLEAR, not reserved, stamp 0, no finding (R25, R39). -/
def SlotImage.record (i : SlotImage) : Slot where
  content := if i.content = 1 then .held else .empty
  tag := i.tag
  setId := i.setId
  member := i.member
  recorded := i.mass
  counted := i.mass
  condition := .clear
  reservation := .none
  stamp := 0
  finding := none

/-! ## Stores and orders -/

structure StoreRequest where
  port : Nat
  tag : Id32
  declared : Nat
  setId : Id32
  member : Nat
  hint : Nat
deriving DecidableEq, Repr

def readStore (p : List Byte) : StoreRequest where
  port := byteAt p 0
  tag := idAt p 1
  declared := wordAt p 5
  setId := idAt p 7
  member := byteAt p 11
  hint := byteAt p 12

def writeStore (r : StoreRequest) : List Byte :=
  u8 r.port ++ id32 r.tag ++ u16 r.declared ++ id32 r.setId ++ u8 r.member ++ u8 r.hint

/-- The hint carrier, absent where the byte reads 0xFF. -/
def StoreRequest.hintCarrier (r : StoreRequest) : Option Nat := if r.hint = absentByte then none else some r.hint

structure OrderRequest where
  id : Id32
  priority : Nat
  count : Nat
  tags : List Id32
deriving DecidableEq, Repr

/-- The order id, the priority, the line count field and the tags that LEN gives room for. -/
def readOrder (p : List Byte) : OrderRequest where
  id := idAt p 0
  priority := byteAt p 4
  count := byteAt p 5
  tags := (List.range ((p.length - 6) / 4)).map fun i => idAt p (6 + 4 * i)

def writeOrder (r : OrderRequest) : List Byte :=
  id32 r.id ++ u8 r.priority ++ u8 r.count ++ r.tags.flatMap id32

/-! ## Station settings and audits -/

def readSettings (p : List Byte) : Settings where
  transferTimeout := byteAt p 0
  massTolerance := byteAt p 1
  storePatience := wordAt p 2
  laneCount := byteAt p 4
  high := byteAt p 5
  low := byteAt p 6

def writeSettings (r : Settings) : List Byte :=
  u8 r.transferTimeout ++ u8 r.massTolerance ++ u16 r.storePatience ++ u8 r.laneCount ++ u8 r.high ++ u8 r.low

structure AuditRequest where
  carousel : Nat
  selection : Nat
  first : Nat
  count : Nat
  check : Nat
deriving DecidableEq, Repr

def readAudit (p : List Byte) : AuditRequest where
  carousel := byteAt p 0
  selection := byteAt p 1
  first := byteAt p 2
  count := byteAt p 3
  check := byteAt p 4

def writeAudit (r : AuditRequest) : List Byte :=
  u8 r.carousel ++ u8 r.selection ++ u8 r.first ++ u8 r.count ++ u8 r.check

end Sys2Proof.Machine
end

