-- ==== Sys2Proof/Machine/Frames.lean ====
section
/-! DEFINITION. How a frame reaches the part and how it is answered: the receiver and the waiting reply (R161, R164), the
device reset of RESET ALL (R172), the link unit's own checks (R163), and the common forms of every request. -/

namespace Sys2Proof.Machine

open Sys2Proof

/-! ## Answers -/

/-- The owner's answer to a request (R163). -/
inductive Answer where
  | ack (data : List Byte)
  | nak (reason : Reason) (detail : Nat)
deriving DecidableEq, Repr

/-- A request kind: its code, the lengths it allows, the first field whose unused bits are not zero, what its owner does, and
what a broadcast of it does, for the kinds that are acted on as a broadcast (R163, R165). -/
structure Request where
  kind : Byte
  lenOk : Nat → Bool
  unused : List Byte → Option Nat
  run : List Byte → State → State × Answer
  broadcast : Option (State → State)

/-- A request without unused bits that no broadcast reaches. -/
def plainRequest (kind : Byte) (lenOk : Nat → Bool) (run : List Byte → State → State × Answer) : Request :=
  { kind := kind, lenOk := lenOk, unused := fun _ => none, run := run, broadcast := none }

/-- The payload length is one number. -/
def lenIs (n : Nat) : Nat → Bool := fun l => l == n

/-- The first check of a list that fails, with its reason and detail. -/
def firstFailure : List (Bool × Reason × Nat) → Option Answer
  | [] => none
  | (ok, reason, detail) :: cs => if ok then firstFailure cs else some (.nak reason detail)

/-- A request refused: nothing changes (R163). -/
def refuse (s : State) (reason : Reason) (detail : Nat) : State × Answer := (s, .nak reason detail)

/-- A request accepted with no data. -/
def accept (s : State) : State × Answer := (s, .ack [])

/-- The checks are made in order; the body runs when every one holds. -/
def checked (s : State) (cs : List (Bool × Reason × Nat)) (body : State × Answer) : State × Answer :=
  match firstFailure cs with
  | some a => (s, a)
  | none => body

/-! ## The device reset (R172) -/

/-- Kind code of RESET ALL. -/
def resetAllKind : Byte := 0x06#8

/-- The link unit after RESET ALL: address and baud rate kept, the watchdog RUNNING with code 2, the receiver in HUNT. -/
def Link.afterReset (l : Link) : Link :=
  { Link.powerOn with address := l.address, baud := l.baud, sampled := true, receiver := .hunt, wdTimer := some 2000 }

/-- A port after RESET ALL: as at power-on, its input levels as taken (log 9), to be judged anew (R76). -/
def Port.afterReset (p : Port) : Port :=
  { Port.powerOn with home := p.home, extended := p.extended, load := p.load, presence := p.presence }

/-- A channel after RESET ALL: its outputs as at power-on, the level of DFLT as taken (log 9). -/
def Channel.afterReset (c : Channel) : Channel := { Channel.powerOn with dflt := c.dflt }

/-- The reset of RESET ALL, in one step: every block takes its power-on state (R172). The start frame keeps running. -/
def deviceReset (s : State) : State :=
  { State.reset with
    link := s.link.afterReset
    channels := s.channels.map Channel.afterReset
    startSlot := s.startSlot
    ports := s.ports.map Port.afterReset
    choices := s.choices
    pending := s.pending }

/-! ## Reply and receiver (R161, R164) -/

/-- The receiver set. -/
def State.setReceiver (s : State) (r : Receiver) : State := s.setLink { s.link with receiver := r }

/-- The reply's end: sent or dropped. The ACK of RESET ALL resets the part (R172); any other reply just ends. -/
def endReply (r : Reply) (s : State) : State :=
  if r.kind = resetAllKind then deviceReset s
  else s.setLink { s.link with reply := .none, lineOut := [] }

/-- Bytes are taken from the line: a waiting reply is dropped (R164). -/
def dropWaiting (s : State) : State :=
  match s.link.reply with
  | .waiting r => endReply r s
  | _ => s

/-- Whether the reply that waits is the ACK of RESET ALL: the frame that drops it is lost (R172). -/
def Link.resetWaits (l : Link) : Bool :=
  match l.reply with
  | .waiting r => r.kind == resetAllKind
  | _ => false

/-! ## The watchdog (R166) -/

/-- Timeout of a watchdog code in ms; none for code 7. -/
def watchdogTimeout (code : Nat) : Option Nat :=
  match code with
  | 0 => some 500
  | 1 => some 1000
  | 2 => some 2000
  | 3 => some 4000
  | 4 => some 8000
  | 5 => some 16000
  | _ => none

/-- A valid frame restarts a RUNNING watchdog and leaves a STOPPED one (R162, R166). -/
def Link.restartWatchdog (l : Link) : Link :=
  if l.wdTimer.isSome then { l with wdTimer := watchdogTimeout l.wdCode } else l

/-! ## A valid frame (R161, R162) -/

/-- What every valid frame does: the receiver returns to HUNT and the watchdog is restarted. -/
def takeValidFrame (s : State) : State := s.setLink { s.link.restartWatchdog with receiver := .hunt }

/-- A frame with `len` payload bytes reaches the part, its CRC right, and `act` says what it then does. While the receiver is
off it is lost (R160, R161). A waiting reply is dropped; where that is the ACK of RESET ALL the part is reset and the frame is
lost (R172). A frame whose LEN is above 200 is discarded without effect (R161). -/
def hearFrame (len : Nat) (act : State → State) (s : State) : State :=
  match s.link.receiver with
  | .off => s
  | _ =>
    if s.link.resetWaits then dropWaiting s
    else if Config.payloadCap < len then (dropWaiting s).setReceiver .hunt
    else act (takeValidFrame (dropWaiting s))

/-! ## An addressed request (R163, R164) -/

/-- The reply an answer gives: the request's kind, with bit 7 set for a NAK (R163, R174). -/
def replyOf (kind : Byte) : Answer → Reply
  | .ack data => { kind := kind, payload := data }
  | .nak reason detail => { kind := kind ||| 0x80#8, payload := u8 reason.code ++ u8 detail }

/-- The reply is fixed and waits to be sent (R164). -/
def answer (kind : Byte) (r : State × Answer) : State :=
  r.1.setLink { r.1.link with reply := .waiting (replyOf kind r.2) }

/-- The link unit's checks of length and unused bits, then the owner's work (R163). -/
def Request.serve (r : Request) (payload : List Byte) (s : State) : State × Answer :=
  if r.lenOk payload.length then
    match r.unused payload with
    | some field => refuse s .range field
    | none => r.run payload s
  else refuse s .format payload.length

/-- An addressed request is taken and answered (R162 to R164). -/
def takeRequest (r : Request) (payload : List Byte) (s : State) : State :=
  hearFrame payload.length (fun s => answer r.kind (r.serve payload s)) s

/-- A broadcast is acted on for the kinds that allow it, where its length and unused bits are right, and is never answered
(R165). -/
def takeBroadcast (r : Request) (payload : List Byte) (s : State) : State :=
  hearFrame payload.length (fun s =>
    match r.broadcast with
    | some act => if r.lenOk payload.length && (r.unused payload).isNone then act s else s
    | none => s) s

end Sys2Proof.Machine
end

