-- ==== Sys2Proof/Machine/LinkCommands.lean ====
section
/-! DEFINITION. The link unit's own commands: power-on and address sampling (R160), the line's events (R161, R164), the
requests IDENT, STATUS, SET_LINK, ACK_EVENTS, RESUME and RESET ALL (R167 to R172), and HOLD entry (R167, R68). -/

namespace Sys2Proof.Machine

open Sys2Proof

/-! ## Power and straps -/

/-- POWER_ON (R160, R172): every block takes its power-on state and address sampling begins. The queue of commands and the
count of open choices are the model's own and go on (log 37). -/
def execPowerOn (s : State) : Host.Outcome State Fault Refusal :=
  .next { State.reset with choices := s.choices, pending := s.pending }

/-- The device address: 16 × AS1 + 8 × AS0 + ⌊mean/128⌋ (R160). -/
def sampledAddress (as1 as0 : Bool) (conversions : List (BitVec 10)) : Nat :=
  16 * as1.toNat + 8 * as0.toNat + (conversions.map BitVec.toNat).sum / 32 / 128

/-- The baud code BR1 BR0 (R159). -/
def baudCode (br1 br0 : Bool) : BitVec 2 := BitVec.ofNat 2 (2 * br1.toNat + br0.toNat)

/-- ADDRESS_SAMPLING (R160): the 32nd conversion has been taken. Address and baud rate are fixed, the receiver hunts and the
watchdog starts. The straps are read once: a second sampling without a power-on does not arise, and is not acted on (log 4). -/
def execAddressSampling (as1 as0 br1 br0 : Bool) (conversions : List (BitVec 10)) (s : State) :
    Host.Outcome State Fault Refusal :=
  .next (if s.link.sampled then s
    else s.setLink { s.link with
      address := sampledAddress as1 as0 conversions, baud := baudCode br1 br0, sampled := true, receiver := .hunt,
      wdTimer := watchdogTimeout s.link.wdCode })

/-! ## The line -/

/-- FRAME_GAP_TIMEOUT (R161): more than 5 ms between two bytes of a frame discards the partial frame. -/
def execFrameGapTimeout (s : State) : Host.Outcome State Fault Refusal :=
  .next (match s.link.receiver with
    | .inFrame _ => s.setReceiver .hunt
    | _ => s)

/-- REPLY_SEND (R164, R174): the window has passed with the line idle. The driver is enabled, the receiver is off and the
reply frame is sent. -/
def execReplySend (s : State) : Host.Outcome State Fault Refusal :=
  .next (match s.link.reply with
    | .waiting r =>
      s.setLink { s.link with
        reply := .sending r, receiver := .off, lineOut := replyFrame s.link.address r }
    | _ => s)

/-- REPLY_DROP (R164, R172): a byte is taken from the line while the reply waits. The reply is dropped, and the byte begins a
frame or is not acted on; the byte that drops the ACK of RESET ALL is lost with its frame. -/
def execReplyDrop (byte : Byte) (s : State) : Host.Outcome State Fault Refusal :=
  .next (match s.link.reply with
    | .waiting r =>
      if r.kind = resetAllKind then endReply r s
      else (endReply r s).setReceiver (if byte = syncByte then .inFrame [byte] else .hunt)
    | _ => s)

/-- REPLY_COMPLETE (R161, R164, R172): the last byte has been sent. The driver is released and the receiver hunts; after the
ACK of RESET ALL the part is reset. -/
def execReplyComplete (s : State) : Host.Outcome State Fault Refusal :=
  .next (match s.link.reply with
    | .sending r => (endReply r s).setReceiver .hunt
    | _ => s)

/-! ## IDENT, STATUS (R170, R171) -/

def identRequest : Request := plainRequest 0x01#8 (lenIs 0) fun _ s => (s, .ack (identBytes s))

/-- IDENT (R170). -/
def execIdent (payload : List Byte) (s : State) : Host.Outcome State Fault Refusal :=
  .next (takeRequest identRequest payload s)

def statusRequest : Request := plainRequest 0x02#8 (lenIs 0) fun _ s => (s, .ack (statusBytes s))

/-- STATUS (R171). -/
def execStatus (payload : List Byte) (s : State) : Host.Outcome State Fault Refusal :=
  .next (takeRequest statusRequest payload s)

/-! ## SET_LINK, ACK_EVENTS (R168, R169) -/

/-- The link unit with a new watchdog code and mask (R169): in HOLD the watchdog stays STOPPED. -/
def Link.configure (l : Link) (code : Nat) (mask : BitVec 13) : Link :=
  { l with
    mask := mask, wdCode := code,
    wdTimer := match l.mode with
      | .normal => watchdogTimeout code
      | .hold => l.wdTimer }

/-- SET_LINK's own work (R169): code 6 or above 7 is refused; the mask is checked before (R163). -/
def runSetLink (p : List Byte) (s : State) : State × Answer :=
  let r := readLink p
  checked s [(r.code ≤ 5 || r.code == 7, .range, 0), (decide (r.mask < 8192), .range, 1)]
    (accept (s.setLink (s.link.configure r.code (BitVec.ofNat 13 r.mask))))

/-- The mask has bits 15 to 13 unused. -/
def setLinkRequest : Request :=
  { kind := 0x03#8, lenOk := lenIs 3, unused := fun p => if (readLink p).mask < 8192 then none else some 1,
    run := runSetLink, broadcast := none }

/-- SET_LINK (R169). -/
def execSetLink (payload : List Byte) (s : State) : Host.Outcome State Fault Refusal :=
  .next (takeRequest setLinkRequest payload s)

/-- ACK_EVENTS' own work (R168): the named flags are cleared, and the ACK carries the flags after it. -/
def runAckEvents (p : List Byte) (s : State) : State × Answer :=
  checked s [(decide (wordAt p 0 < 8192), .range, 0)]
    (let flags := clearFlags (BitVec.ofNat 13 (wordAt p 0)) s.link.flags
     (s.setLink { s.link with flags := flags }, .ack (u16 flags.toNat)))

/-- The flag set has bits 15 to 13 unused. -/
def ackEventsRequest : Request :=
  { kind := 0x04#8, lenOk := lenIs 2, unused := fun p => if wordAt p 0 < 8192 then none else some 0,
    run := runAckEvents, broadcast := none }

/-- ACK_EVENTS (R168). -/
def execAckEvents (payload : List Byte) (s : State) : Host.Outcome State Fault Refusal :=
  .next (takeRequest ackEventsRequest payload s)

/-! ## RESUME (R167) -/

/-- RESUME taken: in HOLD the mode becomes NORMAL, the watchdog RUNNING with its code unless that is 7, and each group's
scheduler has its turn (R116); in NORMAL nothing changes. -/
def resumeDevice (s : State) : State :=
  match s.link.mode with
  | .normal => s
  | .hold =>
    let s' := s.setLink { s.link with mode := .normal, wdTimer := watchdogTimeout s.link.wdCode }
    giveTurns allIndices s' s'

/-- An addressed RESUME is answered with the mode before it. -/
def resumeRequest : Request :=
  { kind := 0x05#8, lenOk := lenIs 0, unused := fun _ => none,
    run := fun _ s => (resumeDevice s, .ack (u8 s.link.mode.code)), broadcast := some resumeDevice }

/-- RESUME, addressed or broadcast (R165, R167). -/
def execResume (broadcast : Bool) (payload : List Byte) (s : State) : Host.Outcome State Fault Refusal :=
  .next (if broadcast then takeBroadcast resumeRequest payload s else takeRequest resumeRequest payload s)

/-! ## RESET ALL (R172) -/

/-- RESET ALL is accepted in every state; the reset comes when its ACK has been sent or dropped. -/
def resetAllRequest : Request := plainRequest resetAllKind (lenIs 0) fun _ s => accept s

/-- RESET ALL (R172). -/
def execResetAll (payload : List Byte) (s : State) : Host.Outcome State Fault Refusal :=
  .next (takeRequest resetAllRequest payload s)

/-! ## HOLD entry (R12, R68, R167) -/

/-- What HOLD entry does to a group other than to RUN (R12, R68). -/
def Group.holdEntry (grp : Group) (run : Bool) : Group :=
  match grp.state with
  | .idle => { grp with current := none, next := none }
  | .moving =>
    match grp.current with
    | some m =>
      match m.phase with
      | .travel => { grp with current := some { m with holdStop := true } }
      | _ => { grp with next := none }
    | none => grp
  | .referencing => if run then { grp with markCount := 0 } else grp
  | _ => grp

/-- HOLD entry at one group: a referencing run lowers RUN (R12). -/
def holdGroup (s : State) (g : Index) : State :=
  match s.groups.get g with
  | none => s
  | some grp =>
    let s' := s.setGroup g (some (grp.holdEntry (s.channels.get g).run))
    if grp.state = .referencing ∧ (s.channels.get g).run then lowerRun g s' else s'

/-- WATCHDOG_EXPIRY (R167): the device enters HOLD, the HOLD flag is set, the watchdog stops and every group takes the HOLD
entry, after which the measurement engine follows RUN (R151, log 48). An expiry with the watchdog STOPPED does not arise and is
not acted on (log 4). -/
def execWatchdogExpiry (s : State) : Host.Outcome State Fault Refusal :=
  .next (match s.link.wdTimer with
    | none => s
    | some _ =>
      followRun (allIndices.foldl holdGroup
        (raiseEvent .hold (s.setLink { s.link with mode := .hold, wdTimer := none }))))

end Sys2Proof.Machine
end

