-- ==== Sys2Proof/Machine/GroupCommands.lean ====
section
/-! DEFINITION. The requests to carousels, drive groups and profiles: SET_CAROUSEL (R4, R5), SET_GROUP (R7, R8), COMMISSION
(R11), PAUSE, CONTINUE (R20, R21, R69), RESET GROUP (R22) and BALANCE_READ (R58). -/

namespace Sys2Proof.Machine

open Sys2Proof

/-! ## SET_CAROUSEL (R4, R5) -/

/-- A level limit is in range: 50 to 800 dkg below S, 0 from S on (R4). -/
def levelLimitOk (levels l limit : Nat) : Bool :=
  if l < levels then decide (50 ≤ limit ∧ limit ≤ 800) else limit == 0

/-- The field checks of SET_CAROUSEL, in index order (R4). -/
def carouselFieldChecks (r : CarouselRequest) : List (Bool × Reason × Nat) :=
  [(decide (r.carousel < 4), .range, 0),
   (decide (12 ≤ r.carriers ∧ r.carriers ≤ 48 ∧ r.carriers % 2 = 0), .range, 1),
   (decide (1 ≤ r.bend ∧ r.bend ≤ 4 ∧ 2 ≤ runLength r.carriers r.bend), .range, 2),
   (decide (r.port < runLength r.carriers r.bend), .range, 3),
   (decide (1 ≤ r.levels ∧ r.levels ≤ 6), .range, 4),
   (decide (500 ≤ r.carrierLimit ∧ r.carrierLimit ≤ 4000), .range, 5),
   (decide (32 ≤ r.pulses ∧ r.pulses ≤ 2048), .range, 6)]
  ++ (numbered 0 r.limits).map fun (l, limit) => (levelLimitOk r.levels l limit, .range, 7 + l)

/-- The members of the group of carousel `x` other than `x` itself. -/
def State.companions (s : State) (x : Index) : List Index :=
  match s.groupOf x with
  | some g => (s.membersOf g).filter (· != x)
  | none => []

/-- The group checks of SET_CAROUSEL: not in service, and the shared fields equal to every companion's (R4). -/
def carouselGroupChecks (s : State) (x : Index) (r : CarouselRequest) : List (Bool × Reason × Nat) :=
  let same (f : Geometry → Nat) : Bool := (s.companions x).all fun y => f (s.geometryOf y) == f r.config.geometry
  [((s.serviceGroup x).isNone, .state, x.val),
   (same Geometry.carriers, .conflict, 1),
   (same Geometry.bend, .conflict, 2),
   (same Geometry.port, .conflict, 3),
   (same Geometry.pulses, .conflict, 6)]

/-- The map of a carousel after its configuration is replaced (R5, R23); the commit finding becomes absent. -/
def SlotMap.reconfigured (m : SlotMap) (old : Option CarouselConfig) (new : CarouselConfig) : SlotMap :=
  match old with
  | none => { state := .absent, carriers := [], finding := none }
  | some o =>
    if o.carriers ≠ new.carriers ∨ o.levels ≠ new.levels then { state := .absent, carriers := [], finding := none }
    else if o = new then { m with finding := none }
    else { m with state := (match m.state with
                    | .committed => .opened
                    | st => st), finding := none }

/-- A group whose member's C changes: C zeros, change number and carriers per revolution 0 (R5). -/
def Group.resized (grp : Group) (c : Nat) : Group :=
  { grp with effective := zeroProfile c, planned := zeroProfile c, changeNo := 0, revolution := 0 }

/-- SET_CAROUSEL's effect (R5). -/
def configureCarousel (x : Index) (cfg : CarouselConfig) (s : State) : State :=
  let old := s.carousels.get x
  let s' := s.setCarousel x { config := some cfg, map := old.map.reconfigured old.config cfg }
  match s.groupOf x, old.config with
  | some g, some o => if o.carriers ≠ cfg.carriers then s'.modGroup g fun grp => grp.resized cfg.carriers else s'
  | _, _ => s'

def runSetCarousel (p : List Byte) (s : State) : State × Answer :=
  let r := readCarousel p
  checked s (carouselFieldChecks r)
    (match indexOf r.carousel with
     | some x => checked s (carouselGroupChecks s x r) (accept (configureCarousel x r.config s))
     | none => refuse s .range 0)

def setCarouselRequest : Request := plainRequest 0x10#8 (lenIs 21) runSetCarousel

/-- SET_CAROUSEL (R4, R5). -/
def execSetCarousel (payload : List Byte) (s : State) : Host.Outcome State Fault Refusal :=
  .next (takeRequest setCarouselRequest payload s)

/-! ## SET_GROUP (R7, R8) -/

/-- A group as SET_GROUP and RESET GROUP leave it: OFFLINE, nothing measured, both profiles zero (R8, R22). -/
def Group.fresh (members : List Index) (params : GroupParams) (carriers revolution : Nat) : Group where
  members := members
  params := params
  state := .offline
  k := none
  cause := .none
  encoder := 0
  markCount := 0
  homeSteps := 0
  homeDir := .fresh
  revolution := revolution
  pausePending := false
  current := none
  next := none
  arrivalOpen := false
  startedHere := Quad.fill false
  settle := false
  stallTimer := none
  effective := zeroProfile carriers
  planned := zeroProfile carriers
  changeNo := 0
  lastSample := none
  invalidCount := 0
  moveDir := .forward
  moveMarks := 0
  compared := 0
  outside := 0
  lastCompared := none
  deviant := 0
  suspect := false
  watch := none

/-- A bu field of SET_GROUP is 1 to 4,000,000 (R6). -/
def buOk (n : Nat) : Bool := decide (1 ≤ n ∧ n ≤ 4000000)

/-- The field checks of SET_GROUP in index order, then Lp ≤ Ld, Ls1 ≤ Ls2 and Ls2 ≤ Ld (R7; log 28). -/
def groupFieldChecks (r : GroupRequest) : List (Bool × Reason × Nat) :=
  [(decide (r.group < 4), .range, 0),
   (!r.memberList.isEmpty, .range, 1),
   (buOk r.lp, .range, 2), (buOk r.ls1, .range, 3), (buOk r.ls2, .range, 4), (buOk r.ld, .range, 5),
   (buOk r.friction, .range, 6), (buOk r.fullScale, .range, 7), (buOk r.tolerance, .range, 8),
   (decide (5 ≤ r.stallTime ∧ r.stallTime ≤ 100), .range, 9),
   (decide (r.autoAudit ≤ 1), .range, 10),
   (decide (r.lp ≤ r.ld), .range, 2),
   (decide (r.ls1 ≤ r.ls2), .range, 3),
   (decide (r.ls2 ≤ r.ld), .range, 4)]

/-- One check of each member in turn, with the member's index as detail. -/
def memberChecks (ms : List Index) (reason : Reason) (ok : Index → Bool) : List (Bool × Reason × Nat) :=
  ms.map fun x => (ok x, reason, x.val)

/-- The checks of SET_GROUP against the state (R7). -/
def groupStateChecks (s : State) (g : Index) (ms : List Index) : List (Bool × Reason × Nat) :=
  [((match s.groups.get g with
     | some grp => grp.state == .offline
     | none => true), .state, 0xFF)]
  ++ memberChecks ms .state (fun x => (s.carousels.get x).config.isSome)
  ++ memberChecks ms .state (fun x => (s.serviceGroup x).isNone || s.groupOf x == some g)
  ++ memberChecks ms .conflict (fun x => some (s.geometryOf x) == ms.head?.map s.geometryOf)

/-- Another group that loses members: it ceases to exist when none is left, and its carriers per revolution become 0 (R8). -/
def Group.without (grp : Group) (ms : List Index) : Option Group :=
  let left := grp.members.filter fun x => !ms.contains x
  if left = grp.members then some grp
  else if left.isEmpty then none
  else some { grp with members := left, revolution := 0 }

/-- The members are taken from every other group. -/
def takeMembers (g : Index) (ms : List Index) (s : State) : State :=
  allIndices.foldl (fun s h =>
    if h = g then s
    else match s.groups.get h with
      | some grp => s.setGroup h (grp.without ms)
      | none => s) s

/-- The carriers per revolution a redefined group keeps (R8). -/
def keptRevolution (s : State) (g : Index) (ms : List Index) : Nat :=
  match s.groups.get g with
  | some grp => if grp.members = ms then grp.revolution else 0
  | none => 0

/-- SET_GROUP's effect (R8). -/
def defineGroup (g : Index) (ms : List Index) (params : GroupParams) (s : State) : State :=
  let c := match ms with
    | x :: _ => (s.geometryOf x).carriers
    | [] => 0
  let s' := takeMembers g ms s
  let s' := s'.setGroup g (some (Group.fresh ms params c (keptRevolution s g ms)))
  s'.modChannel g fun ch => { ch with dir := .forward }

def runSetGroup (p : List Byte) (s : State) : State × Answer :=
  let r := readGroup p
  checked s (groupFieldChecks r)
    (match indexOf r.group with
     | some g =>
       checked s (groupStateChecks s g r.memberList) (accept (defineGroup g r.memberList r.params s))
     | none => refuse s .range 0)

/-- The members field has bits 7 to 4 unused. -/
def setGroupRequest : Request :=
  { kind := 0x11#8, lenOk := lenIs 32, unused := fun p => if (readGroup p).members < 16 then none else some 1,
    run := runSetGroup, broadcast := none }

/-- SET_GROUP (R7, R8). -/
def execSetGroup (payload : List Byte) (s : State) : Host.Outcome State Fault Refusal :=
  .next (takeRequest setGroupRequest payload s)

/-! ## Requests that name one group -/

/-- The group a request names: RANGE 0 above 3, NOT_FOUND 0xFF where it does not exist (R8). -/
def withGroup (n : Nat) (s : State) (body : Index → Group → State × Answer) : State × Answer :=
  match indexOf n with
  | none => refuse s .range 0
  | some g =>
    match s.groups.get g with
    | none => refuse s .notFound 0xFF
    | some grp => body g grp

/-! ## COMMISSION (R11) -/

/-- A member port is at rest: shuttle home active, load clear, not FAULTED (R11). -/
def Port.atRest (p : Port) : Bool := p.home && !p.load && p.shuttle != .faulted

/-- The checks of COMMISSION before the BALANCE check, in order (R11). -/
def commissionChecks (s : State) (grp : Group) : List (Bool × Reason × Nat) :=
  [(grp.state == .offline, .state, 0xFF)]
  ++ memberChecks grp.members .state (fun x => (s.carousels.get x).map.state == .committed)
  ++ memberChecks grp.members .state (fun x => (s.ports.get x).atRest)
  ++ [(s.link.mode == .normal, .notNormal, 0xFF)]

/-- A group taken into service with the computed profile (R11, R41). -/
def Group.commissioned (grp : Group) (e : List Int) : Group :=
  { grp with state := .referencing, k := none, cause := .none, encoder := 0, markCount := 0, settle := false,
             current := none, next := none, effective := e, planned := e, changeNo := 0 }

/-- A group of which COMMISSION is refused BALANCE: both profiles zero, change number 0 (R45). -/
def Group.unloaded (grp : Group) (c : Nat) : Group :=
  { grp with effective := zeroProfile c, planned := zeroProfile c, changeNo := 0 }

/-- A group enters REFERENCING; a DFLT that is active then faults it at once (R17). -/
def enterReferencing (g : Index) (s : State) : State :=
  if (s.channels.get g).dflt then groupFault g .drive s else s

def runCommission (p : List Byte) (s : State) : State × Answer :=
  withGroup (byteAt p 0) s fun g grp =>
    checked s (commissionChecks s grp)
      (let e := s.freshProfile g
       if peak e ≤ grp.params.ld then accept (enterReferencing g (s.setGroup g (some (grp.commissioned e))))
       else (s.setGroup g (some (grp.unloaded (s.geometry g).carriers)), .nak .balance 0xFF))

def commissionRequest : Request := plainRequest 0x12#8 (lenIs 1) runCommission

/-- COMMISSION (R11, R45). -/
def execCommission (payload : List Byte) (s : State) : Host.Outcome State Fault Refusal :=
  .next (takeRequest commissionRequest payload s)

/-! ## PAUSE (R20, R69) -/

/-- A group that enters PAUSED. One that was IDLE after an arrival no longer counts so once it is continued (log 44). -/
def Group.paused (grp : Group) : Group :=
  { grp with state := .paused, pausePending := false, current := none, next := none, arrivalOpen := false,
             settle := false }

/-- PAUSE at a group it reaches (R20, R69): an IDLE group is PAUSED at once, and its scans in flight are discarded (R81); a
MOVING group has a pause pending; a REFERENCING group lowers RUN and is PAUSED with k invalid. -/
def pauseGroup (g : Index) (s : State) : State :=
  match s.groups.get g with
  | none => s
  | some grp =>
    match grp.state with
    | .idle => discardScans g (s.setGroup g (some grp.paused))
    | .moving => s.setGroup g (some { grp with pausePending := true })
    | .referencing => (lowerRun g s).modGroup g fun grp => { grp.paused with k := none }
    | _ => s

/-- PAUSE to one group: the measurement engine follows RUN where it fell (R151). -/
def pauseOne (g : Index) (grp : Group) (s : State) : State :=
  if grp.state = .referencing then followRun (pauseGroup g s) else pauseGroup g s

/-- PAUSE to all groups: every RUN line that falls has fallen before the measurement engine follows (log 48). -/
def pauseAll (s : State) : State := followRun (allIndices.foldl (fun s g => pauseGroup g s) s)

def runPause (p : List Byte) (s : State) : State × Answer :=
  if byteAt p 0 = 0xFF then accept (pauseAll s)
  else withGroup (byteAt p 0) s fun g grp =>
    if grp.state = .offline ∨ grp.state = .faulted then refuse s .state 0xFF else accept (pauseOne g grp s)

def pauseRequest : Request :=
  { kind := 0x13#8, lenOk := lenIs 1, unused := fun _ => none, run := runPause, broadcast := some pauseAll }

/-- PAUSE, addressed or broadcast (R20, R165). -/
def execPause (broadcast : Bool) (payload : List Byte) (s : State) : Host.Outcome State Fault Refusal :=
  .next (if broadcast then takeBroadcast pauseRequest payload s else takeRequest pauseRequest payload s)

/-! ## CONTINUE (R21, R69) -/

/-- CONTINUE at a group it reaches (R21, R69). -/
def Group.continued (grp : Group) : Group :=
  match grp.state with
  | .paused =>
    match grp.k with
    | some _ => { grp with state := .idle }
    | none => { grp with state := .referencing, markCount := 0 }
  | .moving => { grp with pausePending := false }
  | _ => grp

/-- Whether CONTINUE acts on a group (R21). -/
def Group.continues (grp : Group) : Bool := grp.state == .paused || (grp.state == .moving && grp.pausePending)

/-- The groups of a list that CONTINUE brings to IDLE are given their turn (R116). -/
def entersIdle (s : State) (g : Index) : Bool :=
  match s.groups.get g with
  | some grp => grp.state == .paused && grp.k.isSome
  | none => false

/-- CONTINUE at a list of groups. -/
def continueGroups (gs : List Index) (s : State) : State :=
  giveTurns (gs.filter (entersIdle s)) s (gs.foldl (fun s g => s.modGroup g Group.continued) s)

def runContinue (p : List Byte) (s : State) : State × Answer :=
  if byteAt p 0 = 0xFF then accept (continueGroups allIndices s)
  else withGroup (byteAt p 0) s fun g grp =>
    if grp.continues then accept (continueGroups [g] s) else refuse s .state 0xFF

def continueRequest : Request :=
  { kind := 0x14#8, lenOk := lenIs 1, unused := fun _ => none, run := runContinue,
    broadcast := some (continueGroups allIndices) }

/-- CONTINUE, addressed or broadcast (R21, R165). -/
def execContinue (broadcast : Bool) (payload : List Byte) (s : State) : Host.Outcome State Fault Refusal :=
  .next (if broadcast then takeBroadcast continueRequest payload s else takeRequest continueRequest payload s)

/-! ## RESET GROUP (R22) -/

/-- A slot of carousel `x` carries a reservation. -/
def State.reserved (s : State) (x : Index) : Bool :=
  (s.carousels.get x).map.carriers.any fun ls => ls.any fun sl => sl.reservation != .none

/-- The checks of RESET GROUP, in order (R22). -/
def resetGroupChecks (s : State) (grp : Group) : List (Bool × Reason × Nat) :=
  memberChecks grp.members .state (fun x => !s.reserved x)
  ++ memberChecks grp.members .state (fun x => (s.stores.get x).isNone)
  ++ memberChecks grp.members .state (fun x => (s.ports.get x).shuttle == .homeEmpty)

/-- What RESET GROUP does at one member carousel: the map becomes ABSENT and the audit task, with its scan in flight, is
removed (R22, R23). -/
def resetMember (s : State) (x : Index) : State :=
  let s := (discardScan x s).setTask x none
  s.setCarousel x { s.carousels.get x with map := { state := .absent, carriers := [], finding := none } }

/-- RESET GROUP's effect (R22). -/
def resetGroup (g : Index) (grp : Group) (s : State) : State :=
  let c := (s.geometry g).carriers
  let s := dropRun g s
  let s := s.modChannel g fun ch => { ch with dir := .forward }
  let s := grp.members.foldl resetMember s
  s.setGroup g (some (Group.fresh grp.members grp.params c 0))

def runResetGroup (p : List Byte) (s : State) : State × Answer :=
  withGroup (byteAt p 0) s fun g grp => checked s (resetGroupChecks s grp) (accept (resetGroup g grp s))

def resetGroupRequest : Request := plainRequest 0x16#8 (lenIs 1) runResetGroup

/-- RESET GROUP (R22). -/
def execResetGroup (payload : List Byte) (s : State) : Host.Outcome State Fault Refusal :=
  .next (takeRequest resetGroupRequest payload s)

/-! ## BALANCE_READ (R58) -/

def runBalanceRead (p : List Byte) (s : State) : State × Answer :=
  let r := readBalance p
  withGroup r.group s fun g grp =>
    checked s [(decide (r.first < (s.geometry g).carriers), .range, 1), (decide (1 ≤ r.count ∧ r.count ≤ 16), .range, 2)]
      (s, .ack (balanceBytes s g grp r.first r.count))

def balanceReadRequest : Request := plainRequest 0x17#8 (lenIs 3) runBalanceRead

/-- BALANCE_READ (R58). -/
def execBalanceRead (payload : List Byte) (s : State) : Host.Outcome State Fault Refusal :=
  .next (takeRequest balanceReadRequest payload s)

end Sys2Proof.Machine
end

