-- ==== Sys2Proof/Machine/MapCommands.lean ====
section
/-! DEFINITION. The slot map's requests: MAP_BEGIN (R24), MAP_PUT (R25), MAP_COMMIT (R26, R27), MAP_READ (R28), SLOT_QUERY
(R40) and SLOT_RESOLVE (R38, R39). -/

namespace Sys2Proof.Machine

open Sys2Proof

/-- The carousel a request names, RANGE 0 above 3. -/
def withCarousel (n : Nat) (s : State) (body : Index → State × Answer) : State × Answer :=
  match indexOf n with
  | none => refuse s .range 0
  | some x => body x

/-- C and S of a carousel; zeros where it is UNCONFIGURED. -/
def State.carriersOf (s : State) (x : Index) : Nat := (s.geometryOf x).carriers

def State.levelsOf (s : State) (x : Index) : Nat :=
  match (s.carousels.get x).config with
  | some cfg => cfg.levels
  | none => 0

/-- The map of a carousel replaced. -/
def State.setMap (s : State) (x : Index) (m : SlotMap) : State :=
  s.setCarousel x { s.carousels.get x with map := m }

/-- The slots of a map with their carrier and level, in carrier-then-level order (R26, R28). -/
def SlotMap.walk (m : SlotMap) : List (Nat × Nat × Slot) :=
  (numbered 0 m.carriers).flatMap fun (c, ls) => (numbered 0 ls).map fun (l, sl) => (c, l, sl)

/-! ## MAP_BEGIN (R24) -/

/-- An OPEN map of C × S EMPTY records. -/
def SlotMap.opening (c levels : Nat) : SlotMap :=
  { state := .opened, carriers := List.replicate c (List.replicate levels emptySlot), finding := none }

def runMapBegin (p : List Byte) (s : State) : State × Answer :=
  withCarousel (byteAt p 0) s fun x =>
    match (s.carousels.get x).config with
    | none => refuse s .state 0xFF
    | some cfg =>
      checked s [((s.serviceGroup x).isNone, .state, 0xFE)]
        (s.setMap x (SlotMap.opening cfg.carriers cfg.levels), .ack (u8 cfg.carriers ++ u8 cfg.levels))

def mapBeginRequest : Request := plainRequest 0x20#8 (lenIs 1) runMapBegin

/-- MAP_BEGIN (R24). -/
def execMapBegin (payload : List Byte) (s : State) : Host.Outcome State Fault Refusal :=
  .next (takeRequest mapBeginRequest payload s)

/-! ## MAP_PUT (R25) -/

/-- The field checks of image number `i` of a MAP_PUT: 16 × image index + field index (R25). -/
def imageChecks (c levels i : Nat) (im : SlotImage) : List (Bool × Reason × Nat) :=
  [(decide (im.carrier < c), .range, 16 * i), (decide (im.level < levels), .range, 16 * i + 1),
   (decide (im.content ≤ 1), .range, 16 * i + 2), (decide (im.member ≤ 4), .range, 16 * i + 5),
   (decide (im.mass ≤ 4000), .range, 16 * i + 6)]

/-- One image written into a map: the slot's record is replaced whole (R25). -/
def SlotMap.put (m : SlotMap) (im : SlotImage) : SlotMap := m.setSlot im.carrier im.level im.record

def runMapPut (p : List Byte) (s : State) : State × Answer :=
  withCarousel (byteAt p 0) s fun x =>
    let images := readImages p
    checked s (((s.carousels.get x).map.state == .opened, .state, 0xFF)
        :: (numbered 0 images).flatMap fun (i, im) => imageChecks (s.carriersOf x) (s.levelsOf x) i im)
      (s.setMap x (images.foldl SlotMap.put (s.carousels.get x).map), .ack (u8 images.length))

/-- The lengths of MAP_PUT: 1 + 14n for n = 1 to 12 (R173). -/
def mapPutLen (n : Nat) : Bool := decide (15 ≤ n ∧ n ≤ 169) && (n - 1) % 14 == 0

def mapPutRequest : Request := plainRequest 0x21#8 mapPutLen runMapPut

/-- MAP_PUT (R25). -/
def execMapPut (payload : List Byte) (s : State) : Host.Outcome State Fault Refusal :=
  .next (takeRequest mapPutRequest payload s)

/-! ## MAP_COMMIT (R26, R27) -/

/-- Coherence of a slot record (R26). -/
def Slot.coherent (sl : Slot) : Bool :=
  match sl.content with
  | .held => sl.tag != 0#32 && decide (1 ≤ sl.recorded) && (sl.member == 0 || sl.setId != 0#32)
  | .empty => sl.tag == 0#32 && sl.setId == 0#32 && sl.member == 0 && sl.recorded == 0

/-- The failure of one slot in the walk, if any: coherence, level limit, and for a HELD slot its tag among the tags seen
earlier in the walk and in the places of the tag law (R26). -/
def slotFailure (s : State) (cfg : CarouselConfig) (seen : List Id32) (l : Nat) (sl : Slot) : Option Reason :=
  if !sl.coherent then some .range
  else if cfg.levelLimit l < sl.recorded then some .limit
  else if sl.content = .held ∧ (seen.contains sl.tag ∨ (tagPlace s sl.tag).isSome) then some .conflict
  else none

/-- The tags seen once a slot has been walked. -/
def seenWith (seen : List Id32) (sl : Slot) : List Id32 := if sl.content = .held then sl.tag :: seen else seen

/-- The walk over one carrier's levels from level `l` on: the first failure, or the tags seen. -/
def walkLevels (s : State) (cfg : CarouselConfig) (c : Nat) : Nat → List Slot → List Id32 → CommitFinding ⊕ List Id32
  | _, [], seen => .inr seen
  | l, sl :: ls, seen =>
    match slotFailure s cfg seen l sl with
    | some reason => .inl { reason := reason, carrier := c, level := some l }
    | none => walkLevels s cfg c (l + 1) ls (seenWith seen sl)

/-- The walk over the carriers from carrier `c` on; the carrier limit is checked after each carrier's last level (R26). -/
def walkCarriers (s : State) (cfg : CarouselConfig) : Nat → List (List Slot) → List Id32 → Option CommitFinding
  | _, [], _ => none
  | c, ls :: rest, seen =>
    match walkLevels s cfg c 0 ls seen with
    | .inl f => some f
    | .inr seen =>
      if cfg.carrierLimit < (ls.map Slot.recorded).sum then
        some { reason := .limit, carrier := c, level := none }
      else walkCarriers s cfg (c + 1) rest seen

/-- The HELD slots of a map. -/
def SlotMap.held (m : SlotMap) : List Slot := m.carriers.flatMap fun ls => ls.filter fun sl => sl.content == .held

def runMapCommit (p : List Byte) (s : State) : State × Answer :=
  withCarousel (byteAt p 0) s fun x =>
    let m := (s.carousels.get x).map
    match m.state, (s.carousels.get x).config with
    | .opened, some cfg =>
      match walkCarriers s cfg 0 m.carriers [] with
      | some f => (s.setMap x { m with finding := some f }, .nak f.reason f.carrier)
      | none =>
        (s.setMap x { m with state := .committed, finding := none },
          .ack (u16 m.held.length ++ u32 (m.held.map Slot.recorded).sum))
    | _, _ => refuse s .state 0xFF

def mapCommitRequest : Request := plainRequest 0x22#8 (lenIs 1) runMapCommit

/-- MAP_COMMIT (R26, R27). -/
def execMapCommit (payload : List Byte) (s : State) : Host.Outcome State Fault Refusal :=
  .next (takeRequest mapCommitRequest payload s)

/-! ## MAP_READ (R28) -/

/-- The images a MAP_READ returns: from the slot named onward, without wrapping (R28). -/
def readSlots (m : SlotMap) (levels carrier level count : Nat) : List (Nat × Nat × Slot) :=
  (m.walk.drop (carrier * levels + level)).take count

/-- A map in ABSENT is refused; carrier and level are checked against C and S (R28, R40). -/
def slotNameChecks (s : State) (x : Index) (carrier level : Nat) : List (Bool × Reason × Nat) :=
  [((s.carousels.get x).map.state != .absent, .state, 0xFF), (decide (carrier < s.carriersOf x), .range, 1),
   (decide (level < s.levelsOf x), .range, 2)]

def runMapRead (p : List Byte) (s : State) : State × Answer :=
  let r := readMapRead p
  withCarousel r.carousel s fun x =>
    let m := (s.carousels.get x).map
    let images := readSlots m (s.levelsOf x) r.carrier r.level r.count
    checked s (slotNameChecks s x r.carrier r.level ++ [(decide (1 ≤ r.count ∧ r.count ≤ 12), .range, 3)])
      (s, .ack (u8 m.state.code ++ findingBytes m.finding ++ u8 images.length
        ++ images.flatMap fun (c, l, sl) => imageBytes c l sl))

def mapReadRequest : Request := plainRequest 0x23#8 (lenIs 4) runMapRead

/-- MAP_READ (R28). -/
def execMapRead (payload : List Byte) (s : State) : Host.Outcome State Fault Refusal :=
  .next (takeRequest mapReadRequest payload s)

/-! ## SLOT_QUERY (R40) -/

def runSlotQuery (p : List Byte) (s : State) : State × Answer :=
  let r := readSlotName p
  withCarousel r.carousel s fun x =>
    checked s (slotNameChecks s x r.carrier r.level)
      (s, .ack (slotBytes (s.carousels.get x).map.state r.carrier r.level
        ((s.slot? x r.carrier r.level).getD emptySlot)))

def slotQueryRequest : Request := plainRequest 0x24#8 (lenIs 3) runSlotQuery

/-- SLOT_QUERY (R40). -/
def execSlotQuery (payload : List Byte) (s : State) : Host.Outcome State Fault Refusal :=
  .next (takeRequest slotQueryRequest payload s)

/-! ## SLOT_RESOLVE (R38, R39) -/

/-- The range checks of SLOT_RESOLVE: field index as in MAP_PUT (R38). -/
def resolveRangeChecks (c levels : Nat) (im : SlotImage) : List (Bool × Reason × Nat) := imageChecks c levels 0 im

/-- The coherence checks: the index of the first incoherent field (R38; log 15). -/
def coherenceChecks (im : SlotImage) : List (Bool × Reason × Nat) :=
  if im.content = 1 then
    [(im.tag != 0#32, .range, 3), (im.member == 0 || im.setId != 0#32, .range, 5), (decide (1 ≤ im.mass), .range, 6)]
  else
    [(im.tag == 0#32, .range, 3), (im.setId == 0#32, .range, 4), (im.member == 0, .range, 5), (im.mass == 0, .range, 6)]

/-- The mass the other slots of the carrier count against the carrier limit (R38). -/
def otherLoad (s : State) (x : Index) (c l : Nat) : Nat :=
  (((numbered 0 (s.carrierSlots x c)).filter fun (l', _) => l' != l).map fun (_, sl) => sl.limitMass).sum

/-- The place other than the named slot that holds a tag (R38). -/
def otherPlace (s : State) (x : Index) (im : SlotImage) : Option Place :=
  if im.content = 1 then (places s im.tag).find? (· != .slot x im.carrier im.level) else none

/-- The change of counted mass of an accepted SLOT_RESOLVE (R39). -/
def resolveDelta (old : Slot) (im : SlotImage) : Int := (im.mass : Int) - (old.counted : Int)

/-- The BALANCE check of SLOT_RESOLVE; not made where the carousel is not in service (R38). -/
def resolveBalanced (s : State) (x : Index) (old : Slot) (im : SlotImage) : Bool :=
  match s.serviceGroup x with
  | none => true
  | some g => gatePasses s g im.carrier (resolveDelta old im)

/-- The checks of SLOT_RESOLVE once the fields are in range and coherent (R38). -/
def resolveStateChecks (s : State) (x : Index) (cfg : CarouselConfig) (old : Slot) (im : SlotImage) :
    List (Bool × Reason × Nat) :=
  [(old.reservation == .none, .state, 0xFE),
   (decide (im.mass ≤ cfg.levelLimit im.level), .limit, 0),
   (decide (im.mass + otherLoad s x im.carrier im.level ≤ cfg.carrierLimit), .limit, 1),
   ((otherPlace s x im).isNone, .conflict, ((otherPlace s x im).map Place.code).getD 0),
   (resolveBalanced s x old im, .balance, 0xFF)]

/-- SLOT_RESOLVE's effect (R39): the record is replaced and Δ is handed to the balance unit for both profiles. -/
def resolveSlot (x : Index) (old : Slot) (im : SlotImage) (s : State) : State :=
  handMass x im.carrier (resolveDelta old im) .both (s.setSlot x im.carrier im.level im.record)

def runSlotResolve (p : List Byte) (s : State) : State × Answer :=
  let im := readImage p 1
  withCarousel (byteAt p 0) s fun x =>
    match (s.carousels.get x).map.state, (s.carousels.get x).config with
    | .committed, some cfg =>
      checked s (resolveRangeChecks cfg.carriers cfg.levels im ++ coherenceChecks im)
        (match s.slot? x im.carrier im.level with
         | some old =>
           checked s (resolveStateChecks s x cfg old im)
             (giveTurns [] s (resolveSlot x old im s), .ack (i16 (resolveDelta old im)))
         | none => refuse s .range 0)
    | _, _ => refuse s .state 0xFF

def slotResolveRequest : Request := plainRequest 0x25#8 (lenIs 15) runSlotResolve

/-- SLOT_RESOLVE (R38, R39). -/
def execSlotResolve (payload : List Byte) (s : State) : Host.Outcome State Fault Refusal :=
  .next (takeRequest slotResolveRequest payload s)

end Sys2Proof.Machine
end

