-- ==== Sys2Proof/Machine/StoreCommands.lean ====
section
/-! DEFINITION. The put-away unit's requests and its clock: STORE (R96, R97), STORE_WITHDRAW (R105), STORE_QUERY (R106) and
the rise of time waited with promotion (R103). -/

namespace Sys2Proof.Machine

open Sys2Proof

/-! ## STORE (R96, R97) -/

/-- The state of the group of a carousel, where it belongs to one. -/
def State.groupStateOf (s : State) (x : Index) : Option GroupState :=
  match s.groupOf x with
  | none => none
  | some g => (s.groups.get g).map Group.state

/-- The range checks of STORE (R96). -/
def storeRangeChecks (r : StoreRequest) : List (Bool × Reason × Nat) :=
  [(decide (r.port < 4), .range, 0), (r.tag != 0#32, .range, 1),
   (decide (1 ≤ r.declared ∧ r.declared ≤ 1000), .range, 2),
   (decide (r.member ≤ 4) && (r.member == 0 || r.setId != 0#32), .range, 4)]

/-- The hint, where given, names a carrier of the carousel (R96). -/
def hintOk (s : State) (p : Index) (r : StoreRequest) : Bool :=
  match r.hintCarrier with
  | some c => decide (c < s.carriersOf p)
  | none => true

/-- The port's store record is free or DONE (R96). -/
def storeFree (s : State) (p : Index) : Bool :=
  match s.stores.get p with
  | none => true
  | some r => r.state == .done

/-- The checks of STORE against the state, in order (R96). -/
def storeStateChecks (s : State) (p : Index) (r : StoreRequest) : List (Bool × Reason × Nat) :=
  [((s.carousels.get p).config.isSome && (s.groupOf p).isSome, .state, 0xFF),
   (s.groupStateOf p == some .idle || s.groupStateOf p == some .moving, .state, 0xFE),
   (hintOk s p r, .range, 5),
   (storeFree s p, .busy, 0xFF),
   ((tagPlace s r.tag).isNone, .conflict, ((tagPlace s r.tag).map Place.code).getD 0)]

/-- The record a STORE opens (R97). -/
def StoreRequest.record (r : StoreRequest) : StoreRecord where
  state := .weighing
  tag := r.tag
  declared := r.declared
  setId := r.setId
  member := r.member
  hint := r.hintCarrier
  weighings := 0
  measured := none
  corrected := false
  chosen := none
  trialPeak := none
  waited := none
  promoted := false
  cond := .pending

/-- STORE's effect: the record opens in WEIGHING and the infeed tag read is asked (R78, R97). -/
def openStore (p : Index) (r : StoreRequest) (s : State) : State :=
  (s.setStore p (some r.record)).modPort p fun port => { port with infeed := some .awaitTag }

def runStore (p : List Byte) (s : State) : State × Answer :=
  let r := readStore p
  checked s (storeRangeChecks r)
    (match indexOf r.port with
     | some x => checked s (storeStateChecks s x r) (accept (openStore x r s))
     | none => refuse s .range 0)

def storeRequest : Request := plainRequest 0x30#8 (lenIs 13) runStore

/-- STORE (R96, R97). -/
def execStore (payload : List Byte) (s : State) : Host.Outcome State Fault Refusal :=
  .next (takeRequest storeRequest payload s)

/-! ## STORE_WITHDRAW (R105) -/

/-- The reservation IN of a chosen slot is released: the slot becomes free and P takes −m (R32, R105). -/
def releaseInbound (p : Index) (c l : Nat) (s : State) : State :=
  match s.slot? p c l with
  | none => s
  | some sl =>
    match sl.reservation with
    | .inbound _ _ m .planned =>
      handMass p c (-(m : Int)) .planned (s.setSlot p c l { sl with reservation := .none })
    | _ => s

/-- A withdrawn store (R105). -/
def withdrawStore (p : Index) (r : StoreRecord) (s : State) : State :=
  match r.state with
  | .weighing =>
    (s.setStore p (some { r with state := .rejected .withdrawn })).modPort p fun port => { port with infeed := none }
  | .placed =>
    let s := match r.chosen with
      | some (c, l) => releaseInbound p c l s
      | none => s
    let s := s.setSched { s.sched with placedOrder := s.sched.placedOrder.filter (· != p) }
    s.setStore p (some { r with state := .rejected .withdrawn })
  | .rejected _ => s.setStore p none
  | _ => s

/-- A record that STORE_WITHDRAW does not change (R105). -/
def StoreRecord.fixed (r : StoreRecord) : Bool := r.state == .inserting || r.state == .done

def runStoreWithdraw (p : List Byte) (s : State) : State × Answer :=
  match indexOf (byteAt p 0) with
  | none => refuse s .range 0
  | some x =>
    match s.stores.get x with
    | none => refuse s .notFound 0xFF
    | some r =>
      if r.fixed then refuse s .state 0xFF
      else (giveTurns [] s (withdrawStore x r s), .ack (u8 r.state.code ++ u8 r.state.reason))

def storeWithdrawRequest : Request := plainRequest 0x31#8 (lenIs 1) runStoreWithdraw

/-- STORE_WITHDRAW (R105). -/
def execStoreWithdraw (payload : List Byte) (s : State) : Host.Outcome State Fault Refusal :=
  .next (takeRequest storeWithdrawRequest payload s)

/-! ## STORE_QUERY (R106) -/

/-- A record that a STORE_QUERY frees: DONE or REJECTED (R95, R106). -/
def StoreRecord.ended (r : StoreRecord) : Bool :=
  match r.state with
  | .done | .rejected _ => true
  | _ => false

/-- The store table after the query of a port. -/
def queryStore (x : Index) (s : State) : State :=
  match s.stores.get x with
  | some r => if r.ended then s.setStore x none else s
  | none => s

def runStoreQuery (p : List Byte) (s : State) : State × Answer :=
  match indexOf (byteAt p 0) with
  | none => refuse s .range 0
  | some x => (queryStore x s, .ack (storeBytes (s.stores.get x)))

def storeQueryRequest : Request := plainRequest 0x32#8 (lenIs 1) runStoreQuery

/-- STORE_QUERY (R106). -/
def execStoreQuery (payload : List Byte) (s : State) : Host.Outcome State Fault Refusal :=
  .next (takeRequest storeQueryRequest payload s)

/-! ## Time waited and promotion (R103) -/

/-- A PLACED record is promoted when its time waited is at least the store patience; promotion stays (R103). -/
def StoreRecord.judged (r : StoreRecord) (patience : Nat) : StoreRecord :=
  if r.state = .placed ∧ patience ≤ r.waited.getD 0 then { r with promoted := true } else r

/-- A record in PLACED has waited one second more; time waited stops at 65,535 (R103). -/
def StoreRecord.aged (r : StoreRecord) : StoreRecord :=
  if r.state = .placed then { r with waited := some (min (r.waited.getD 0 + 1) 65535) } else r

/-- STORE_TIME_TICK (R103): a whole second has passed for the PLACED records of the ports named by the set's bits (log 13).
A promotion is a task change of its group. -/
def execStoreTimeTick (ports : BitVec 4) (s : State) : Host.Outcome State Fault Refusal :=
  .next (giveTurns [] s (allIndices.foldl (fun s p =>
    if ports.getLsbD p.val then s.modStore p fun r => r.aged.judged s.station.settings.storePatience else s) s))

end Sys2Proof.Machine
end

