-- ==== Sys2Proof/Machine/OrderCommands.lean ====
section
/-! DEFINITION. The order scheduler's requests: ORDER_OPEN (R110, R111), ORDER_CANCEL (R121, R122, R132) and ORDER_QUERY
(R123). -/

namespace Sys2Proof.Machine

open Sys2Proof

/-! ## ORDER_OPEN (R110, R111) -/

/-- The slot that holds a tag, where the tag search finds one (R37). -/
def slotOf (s : State) (t : Id32) : Option (Index × Nat × Nat) :=
  match tagPlace s t with
  | some (.slot x c l) => some (x, c, l)
  | _ => none

/-- The slot that holds a tag is stocked and in service (R37, R110). -/
def available (s : State) (t : Id32) : Bool :=
  match slotOf s t with
  | some (x, c, l) =>
    (s.serviceGroup x).isSome &&
      (match s.slot? x c l with
       | some sl => sl.isStocked
       | none => false)
  | none => false

/-- One check of each tag in line order; the detail is the line sequence plus `base`. -/
def lineChecks (tags : List Id32) (reason : Reason) (base : Nat) (ok : Nat → Id32 → Bool) :
    List (Bool × Reason × Nat) :=
  (numbered 0 tags).map fun (i, t) => (ok i t, reason, i + 1 + base)

/-- The table has a free entry. -/
def State.orderRoom (s : State) : Bool := s.sched.orders.any Option.isNone

/-- The checks of ORDER_OPEN, in order (R110, R173). -/
def orderChecks (s : State) (r : OrderRequest) : List (Bool × Reason × Nat) :=
  [(r.id != 0#32, .range, 0),
   (decide (1 ≤ r.count ∧ r.count ≤ 8) && r.count == r.tags.length, .range, 2)]
  ++ lineChecks r.tags .range 2 (fun _ t => t != 0#32)
  ++ [(s.orderRoom, .full, 0xFF), ((s.findOrder r.id).isNone, .conflict, 0xFF)]
  ++ lineChecks r.tags .conflict 0 (fun i t => !(r.tags.take i).contains t)
  ++ lineChecks r.tags .notFound 0 (fun _ t => (slotOf s t).isSome)
  ++ lineChecks r.tags .unavailable 0 (fun _ t => available s t)

/-- The line record of a tag (R111). -/
def openLine (s : State) (seq : Nat) (t : Id32) : Option Line :=
  match slotOf s t with
  | some (x, c, l) =>
    match s.slot? x c l with
    | some sl =>
      some { seq := seq, tag := t, carousel := x, carrier := c, level := l, mass := sl.recorded, state := .reserved,
             rejectBound := false }
    | none => none
  | none => none

/-- The lines of an order, sequence 1 to n. -/
def openLines (s : State) (tags : List Id32) : List Line :=
  (numbered 1 tags).filterMap fun (seq, t) => openLine s seq t

/-- A line's slot is reserved out, PLANNED, and P takes −m (R33, R111). -/
def reserveOut (id : Id32) (s : State) (l : Line) : State :=
  let s := s.modSlot l.carousel l.carrier l.level fun sl => { sl with reservation := .outbound id l.seq .planned }
  handMass l.carousel l.carrier (-(l.mass : Int)) .planned s

/-- The index of the lowest free entry of the order table. -/
def State.freeEntry (s : State) : Nat := s.sched.orders.findIdx Option.isNone

/-- The order record of an accepted ORDER_OPEN (R111). -/
def newOrder (s : State) (r : OrderRequest) : Order where
  id := r.id
  priority := min r.priority 3
  state := .queued
  short := none
  openSeq := countUp s.sched.openCounter
  actSeq := none
  lane := none
  lines := openLines s r.tags

/-- ORDER_OPEN's effect before the scheduler's turns (R111). -/
def openOrder (r : OrderRequest) (s : State) : State :=
  let o := newOrder s r
  let s' := s.setSched { s.sched with
    orders := s.sched.orders.set s.freeEntry (some o), openCounter := o.openSeq }
  judgeActivation (o.lines.foldl (reserveOut r.id) s')

/-- Table index, open sequence, state and lane of an order (R111). -/
def openedBytes (s : State) (id : Id32) : List Byte :=
  match s.findOrder id with
  | some (i, o) => u8 i ++ u32 o.openSeq ++ u8 o.state.code ++ u8 o.laneByte
  | none => []

def runOrderOpen (p : List Byte) (s : State) : State × Answer :=
  let r := readOrder p
  checked s (orderChecks s r)
    (let s' := openOrder r s
     (giveTurns [] s s', .ack (openedBytes s' r.id)))

/-- The lengths of ORDER_OPEN: 6 + 4n for n = 1 to 8 (R173). -/
def orderOpenLen (n : Nat) : Bool := decide (10 ≤ n ∧ n ≤ 38) && (n - 6) % 4 == 0

def orderOpenRequest : Request := plainRequest 0x38#8 orderOpenLen runOrderOpen

/-- ORDER_OPEN (R110, R111). -/
def execOrderOpen (payload : List Byte) (s : State) : Host.Outcome State Fault Refusal :=
  .next (takeRequest orderOpenRequest payload s)

/-! ## ORDER_CANCEL (R121, R122, R132) -/

/-- A line of a cancelled order (R121). -/
def cancelLine (l : Line) : Line :=
  if l.state.inSlot then { l with state := .withdrawn }
  else if l.state.inFlight then { l with rejectBound := true }
  else l

/-- A withdrawn line's slot, reserved out for it, is stocked again and P takes +m (R33, R121). -/
def releaseOut (id : Id32) (s : State) (l : Line) : State :=
  if l.state.inSlot then
    match s.slot? l.carousel l.carrier l.level with
    | some sl =>
      if sl.reservation = .outbound id l.seq .planned then
        handMass l.carousel l.carrier (sl.recorded : Int) .planned
          (s.setSlot l.carousel l.carrier l.level { sl with reservation := .none })
      else s
    | none => s
  else s

/-- A face check for a line that is withdrawn (R121): it stays in flight, and its end will have no effect, whatever line then
stands under the order id and line sequence. -/
def Scan.withdraw (sc : Scan) (id : Id32) (seq : Nat) : Scan :=
  if sc.user = .faceCheck id seq then { sc with user := .withdrawn } else sc

/-- The face check in flight for a line that is withdrawn loses its line (R121). -/
def loseCheck (id : Id32) (s : State) (l : Line) : State :=
  if l.state.inSlot then s.modPort l.carousel fun port => { port with scan := port.scan.map fun sc => sc.withdraw id l.seq }
  else s

/-- The destination of a diversion under way follows its head's line (R132). -/
def redirect (s : State) : State :=
  match s.station.diverter, s.station.collector with
  | .diverting (.order _), e :: _ =>
    if s.entryRejectBound e then
      s.setStation { s.station with diverter := .diverting .reject, position := .reject }
    else s
  | _, _ => s

/-- ORDER_CANCEL's effect before the scheduler's turns (R121). -/
def cancelLines (o : Order) (s : State) : State :=
  let s := o.lines.foldl (loseCheck o.id) (o.lines.foldl (releaseOut o.id) s)
  let s := s.modOrder o.id fun o => { o with state := .cancelling, lines := o.lines.map cancelLine }
  judgeGate (judgeOrder o.id (redirect s))

/-- The state of an order after its cancel: CANCELLED where its entry has been freed (R122). -/
def stateAfterCancel (s : State) (id : Id32) : OrderState :=
  match s.findOrder id with
  | some (_, o) => o.state
  | none => .cancelled

def runOrderCancel (p : List Byte) (s : State) : State × Answer :=
  match s.findOrder (idAt p 0) with
  | none => refuse s .notFound 0xFF
  | some (_, o) =>
    if o.state = .queued ∨ o.state = .active then
      let s' := cancelLines o s
      (giveTurns [] s s',
        .ack (u8 (stateAfterCancel s' o.id).code ++ u8 (o.lines.filter fun l => l.state.inSlot).length))
    else refuse s .state 0xFF

def orderCancelRequest : Request := plainRequest 0x39#8 (lenIs 4) runOrderCancel

/-- ORDER_CANCEL (R121, R122, R132). -/
def execOrderCancel (payload : List Byte) (s : State) : Host.Outcome State Fault Refusal :=
  .next (takeRequest orderCancelRequest payload s)

/-! ## ORDER_QUERY (R123) -/

def runOrderQuery (p : List Byte) (s : State) : State × Answer :=
  match s.findOrder (idAt p 0) with
  | none => refuse s .notFound 0xFF
  | some (i, o) => (s, .ack (orderBytes i o))

def orderQueryRequest : Request := plainRequest 0x3A#8 (lenIs 4) runOrderQuery

/-- ORDER_QUERY (R123). -/
def execOrderQuery (payload : List Byte) (s : State) : Host.Outcome State Fault Refusal :=
  .next (takeRequest orderQueryRequest payload s)

end Sys2Proof.Machine
end

