-- ==== Sys2Proof/Machine/StationCommands.lean ====
section
/-! DEFINITION. The station controller's requests and events: LANE_RELEASE and the lane buttons (R136), SET_STATION (R137),
STATION_QUERY (R138, R175), the collector entry (R127, R133), the lane entries (R131, R133) and the diversion timer (R133). -/

namespace Sys2Proof.Machine

open Sys2Proof

/-! ## LANE_RELEASE and the lane buttons (R136) -/

def runLaneRelease (p : List Byte) (s : State) : State × Answer :=
  match laneOf (byteAt p 0) with
  | none => refuse s .range 0
  | some lane =>
    match releaseBar s lane with
    | some detail => refuse s .state detail
    | none => (giveTurns [] s (releaseLane lane s), .ack (u8 (laneCountOf s lane)))

def laneReleaseRequest : Request := plainRequest 0x40#8 (lenIs 1) runLaneRelease

/-- LANE_RELEASE (R136). -/
def execLaneRelease (payload : List Byte) (s : State) : Host.Outcome State Fault Refusal :=
  .next (takeRequest laneReleaseRequest payload s)

/-- LANE_BUTTON (R136): the effect of LANE_RELEASE where that would be accepted, and none elsewhere. -/
def execLaneButton (lane : Lane) (s : State) : Host.Outcome State Fault Refusal :=
  .next (match releaseBar s lane with
    | some _ => s
    | none => giveTurns [] s (releaseLane lane s))

/-! ## SET_STATION (R137) -/

/-- The field checks of SET_STATION, in index order (R137). -/
def settingsChecks (r : Settings) : List (Bool × Reason × Nat) :=
  [(decide (2 ≤ r.transferTimeout ∧ r.transferTimeout ≤ 30), .range, 0),
   (decide (r.massTolerance ≤ 100), .range, 1),
   (decide (10 ≤ r.storePatience ∧ r.storePatience ≤ 300), .range, 2),
   (decide (1 ≤ r.laneCount ∧ r.laneCount ≤ 4), .range, 3),
   (decide (2 ≤ r.high ∧ r.high ≤ 12), .range, 4),
   (decide (r.low < r.high), .range, 5)]

/-- Promotion is judged for every PLACED store (R103). -/
def judgePromotions (s : State) : State :=
  allIndices.foldl (fun s p => s.modStore p fun r => r.judged s.station.settings.storePatience) s

/-- SET_STATION's effect before the scheduler's turns (R137). -/
def replaceSettings (r : Settings) (s : State) : State :=
  let old := s.station.settings
  let s := judgePromotions (s.setStation { s.station with settings := r })
  let s := if old.laneCount = r.laneCount then s else judgeActivation s
  if old.high = r.high ∧ old.low = r.low then s else judgeLow (judgeHigh s)

def runSetStation (p : List Byte) (s : State) : State × Answer :=
  checked s (settingsChecks (readSettings p)) (accept (giveTurns [] s (replaceSettings (readSettings p) s)))

def setStationRequest : Request := plainRequest 0x41#8 (lenIs 7) runSetStation

/-- SET_STATION (R137). -/
def execSetStation (payload : List Byte) (s : State) : Host.Outcome State Fault Refusal :=
  .next (takeRequest setStationRequest payload s)

/-! ## STATION_QUERY (R138, R175) -/

/-- The section asked for (R175). -/
def stationSection (st : Station) (n : Nat) : Option (List Byte) :=
  if n = 0 then some (stationBytes st)
  else match laneOf n with
    | some (.order i) => some (laneBytes (st.lanes.get i))
    | some .reject => some (rejectBytes st.reject)
    | none => none

def runStationQuery (p : List Byte) (s : State) : State × Answer :=
  match stationSection s.station (byteAt p 0) with
  | some bytes => (s, .ack bytes)
  | none => refuse s .range 0

def stationQueryRequest : Request := plainRequest 0x42#8 (lenIs 1) runStationQuery

/-- STATION_QUERY (R138, R175). -/
def execStationQuery (payload : List Byte) (s : State) : Host.Outcome State Fault Refusal :=
  .next (takeRequest stationQueryRequest payload s)

/-! ## The collector entry (R127, R133) -/

/-- A stray collector entry: it faults the station, or raises the stray entry count of a station FAULTED already (R133). -/
def strayEntry (s : State) : State :=
  match s.station.fault with
  | some f => s.setStation { s.station with fault := some { f with strayCount := min (f.strayCount + 1) 255 } }
  | none => stationFault .strayEntry s

/-- COLLECTOR_ENTRY (R127): the release in progress completes, and its port's group has its turn (R116); without one the
entry is a stray entry. -/
def execCollectorEntry (s : State) : Host.Outcome State Fault Refusal :=
  .next (match s.station.releasePort with
    | some p => giveTurns (portGroup s p) s (completeRelease p s)
    | none => strayEntry s)

/-! ## The lane entries (R131, R133) -/

/-- The first lane entry taken during a fault sets the late arrival lane (R133). -/
def StationFault.lateEntry (f : StationFault) (lane : Lane) : StationFault :=
  { f with lateArrival := some (f.lateArrival.getD lane) }

/-- A lane entry input taken active (R131, R133). -/
def takeLaneEntry (lane : Lane) (s : State) : State :=
  match s.station.fault, s.station.diverter with
  | some f, _ => s.setStation { s.station with fault := some (f.lateEntry lane) }
  | none, .diverting d =>
    if lane = d then afterDelivery (deliverHead d (endDiversion s)) else stationFault (.misroute lane) s
  | none, _ => stationFault (.misroute lane) s

/-- LANE_ENTRY (R131, R133). -/
def execLaneEntry (lane : Lane) (s : State) : Host.Outcome State Fault Refusal :=
  .next (giveTurns [] s (takeLaneEntry lane s))

/-- DIVERSION_TIMEOUT (R133): an expiry with the timer stopped does not arise and is not acted on (log 4). -/
def execDiversionTimeout (s : State) : Host.Outcome State Fault Refusal :=
  .next (match s.station.diversionTimer with
    | some _ => stationFault .divertTimeout s
    | none => s)

end Sys2Proof.Machine
end

