-- ==== Sys2Proof/Machine/AuditCommands.lean ====
section
/-! DEFINITION. The audit unit's requests: AUDIT_START (R139, R140), AUDIT_STOP (R148), AUDIT_QUERY (R150) and LOG_READ
(R147). -/

namespace Sys2Proof.Machine

open Sys2Proof

/-! ## AUDIT_START (R140) -/

/-- The checks of AUDIT_START but for the carousel index, in order (R140). Field 2 is not checked for OLDEST. -/
def auditChecks (s : State) (x : Index) (r : AuditRequest) : List (Bool × Reason × Nat) :=
  [(decide (r.selection ≤ 1), .range, 1),
   (decide (1 ≤ r.count), .range, 3),
   (decide (r.check ≤ 1), .range, 4),
   ((s.serviceGroup x).isSome, .state, 0xFF),
   (r.selection == 1 || decide (r.first < s.carriersOf x), .range, 2),
   (!s.taskOpen x, .busy, 0xFF)]

/-- The selection as given. -/
def AuditRequest.sel (r : AuditRequest) : Selection := if r.selection = 0 then .span r.first r.count else .oldest r.count

/-- The carriers a selection lists (R140). -/
def selectionList (s : State) (x : Index) : Selection → List Nat
  | .span first count => spanList (s.carriersOf x) first count
  | .oldest count => oldestList ((List.range (s.carriersOf x)).map (s.carrierSlots x)) count

def AuditRequest.kind (r : AuditRequest) : Check := if r.check = 0 then .presence else .tag

def runAuditStart (p : List Byte) (s : State) : State × Answer :=
  let r := readAudit p
  withCarousel r.carousel s fun x =>
    checked s (auditChecks s x r)
      (let list := selectionList s x r.sel
       let s' := startTask x .host r.kind r.sel list s
       (giveTurns [] s s', .ack (u32 s'.audit.generation ++ u8 list.length)))

def auditStartRequest : Request := plainRequest 0x48#8 (lenIs 5) runAuditStart

/-- AUDIT_START (R139, R140). -/
def execAuditStart (payload : List Byte) (s : State) : Host.Outcome State Fault Refusal :=
  .next (takeRequest auditStartRequest payload s)

/-! ## AUDIT_STOP (R148) -/

/-- A task stopped (R148): its scan in flight is discarded (R143), and one of origin AUTO is reported as ended not clean
(R157). -/
def stopTask (x : Index) (t : AuditTask) (s : State) : State :=
  let s := match t.scan with
    | some _ => discardScan x s
    | none => s
  let s := s.modTask x fun t => { t with state := .stopped, scan := none }
  if t.origin = .auto then reportAutoEnd x false s else s

def runAuditStop (p : List Byte) (s : State) : State × Answer :=
  withCarousel (byteAt p 0) s fun x =>
    match s.audit.tasks.get x with
    | none => refuse s .notFound 0xFF
    | some t =>
      if t.isOpen then (giveTurns [] s (stopTask x t s), .ack (u8 t.list.length)) else refuse s .state 0xFF

def auditStopRequest : Request := plainRequest 0x49#8 (lenIs 1) runAuditStop

/-- AUDIT_STOP (R148). -/
def execAuditStop (payload : List Byte) (s : State) : Host.Outcome State Fault Refusal :=
  .next (takeRequest auditStopRequest payload s)

/-! ## AUDIT_QUERY (R150) -/

def runAuditQuery (p : List Byte) (s : State) : State × Answer :=
  withCarousel (byteAt p 0) s fun x => (s, .ack (taskBytes (s.audit.tasks.get x)))

def auditQueryRequest : Request := plainRequest 0x4A#8 (lenIs 1) runAuditQuery

/-- AUDIT_QUERY (R150). -/
def execAuditQuery (payload : List Byte) (s : State) : Host.Outcome State Fault Refusal :=
  .next (takeRequest auditQueryRequest payload s)

/-! ## LOG_READ (R147) -/

/-- A task in HELD_LOG returns to RUNNING (R147). -/
def AuditTask.released (t : AuditTask) : AuditTask := if t.state = .heldLog then { t with state := .running } else t

/-- Entries removed from the head of the log; where at least one is, every task in HELD_LOG runs again (R147). -/
def consumeLog (n : Nat) (s : State) : State :=
  let s := s.setAudit { s.audit with log := s.audit.log.drop n }
  if n = 0 then s else allIndices.foldl (fun s x => s.modTask x AuditTask.released) s

def runLogRead (p : List Byte) (s : State) : State × Answer :=
  let r := readLog p
  checked s [(decide (r.consume ≤ 32 ∧ r.consume ≤ s.audit.log.length), .range, 0), (decide (r.read ≤ 8), .range, 1)]
    (let s' := consumeLog r.consume s
     let out := s'.audit.log.take r.read
     (giveTurns [] s s', .ack (u8 s'.audit.log.length ++ u8 out.length ++ out.flatMap entryBytes)))

def logReadRequest : Request := plainRequest 0x4B#8 (lenIs 2) runLogRead

/-- LOG_READ (R147). -/
def execLogRead (payload : List Byte) (s : State) : Host.Outcome State Fault Refusal :=
  .next (takeRequest logReadRequest payload s)

end Sys2Proof.Machine
end

