-- ==== Sys2Proof/Machine/ClearCommands.lean ====
section
/-! DEFINITION. CLEAR_FAULT for a group with scope FAULT (R19) or BALANCE (R158), for a port (R92) and for the station (R134).
The four commands send one request kind, whose bytes name the target (log 12). -/

namespace Sys2Proof.Machine

open Sys2Proof

/-! ## Group, scope FAULT (R19) -/

/-- A group cleared of its fault (R19). -/
def Group.cleared (grp : Group) : Group :=
  { grp with state := .referencing, cause := .none, markCount := 0, encoder := 0 }

def clearGroup (g : Index) (grp : Group) (s : State) : State × Answer :=
  checked s [(grp.state == .faulted, .state, 0xFF), (!(s.channels.get g).dflt, .state, 0xFE)]
    (accept (enterReferencing g (s.setGroup g (some grp.cleared))))

/-! ## Group, scope BALANCE (R158) -/

/-- A group cleared of BALANCE_SUSPECT (R158). -/
def Group.trusted (grp : Group) : Group := { grp with suspect := false, deviant := 0, watch := none }

def clearBalance (g : Index) (grp : Group) (s : State) : State × Answer :=
  checked s [(grp.suspect, .state, 0xFF)] (accept (s.setGroup g (some grp.trusted)))

/-! ## Port (R92) -/

/-- The checks of CLEAR_FAULT for a port from the third on (R92). -/
def clearPortChecks (port : Port) : List (Bool × Reason × Nat) :=
  [(port.shuttle == .faulted, .state, 0xFF), (port.home && !port.extended, .state, 0xFE),
   (port.fault == some .release || !port.load, .state, 0xFD)]

/-- The port set by the jam kind (R92). -/
def Port.cleared (port : Port) : Port :=
  match port.fault with
  | some .release =>
    if port.load then { port with shuttle := .homeLoaded, fault := none, awaitingRest := false }
    else { port with shuttle := .homeEmpty, fault := none, loadRec := none, awaitingRest := false }
  | _ => { port with shuttle := .homeEmpty, fault := none, awaitingRest := false }

/-- What follows for the load record of a cleared release jam: the gate may grant the deck again, or the line is SHORT(JAM)
(R92, R126). -/
def afterPortClear (old : Port) (s : State) : State :=
  match old.fault, old.loadRec with
  | some .release, some lr => if old.load then judgeGate s else makeShort lr.order lr.line .jam s
  | _, _ => s

def clearPort (p : Index) (s : State) : State × Answer :=
  let port := s.ports.get p
  checked s (clearPortChecks port)
    (accept (giveTurns (portGroup s p) s (afterPortClear port (s.setPort p port.cleared))))

/-! ## Station (R134) -/

/-- The station out of FAULTED: its fault record discarded, the collector drive running and no diversion under way (R134). -/
def leaveFault (s : State) : State :=
  s.setStation { s.station with
    fault := none
    drive := true
    diverter := match s.station.diverter with
      | .diverting _ => .idle
      | d => d }

/-- Disposition DELIVERED: the head joins its destination as it stands now (R134). -/
def deliverFaulted (s : State) : State :=
  match s.station.collector with
  | e :: _ => afterDelivery (deliverHead (destination s e) s)
  | [] => afterDelivery s

/-- CLEAR_FAULT for the station once accepted (R134). -/
def clearStationFault (f : StationFault) (delivered : Bool) (s : State) : State :=
  let s := leaveFault s
  if f.diversion.isSome && delivered then deliverFaulted s else judgeGate (testDiversion s)

def clearStation (disposition : Nat) (s : State) : State × Answer :=
  match s.station.fault with
  | none => refuse s .state 0xFF
  | some f =>
    checked s [(decide (disposition ≤ 1), .range, 1)]
      (accept (giveTurns [] s (clearStationFault f (disposition == 0) s)))

/-! ## The request (R19, R92, R134, R158) -/

def runClearFault (p : List Byte) (s : State) : State × Answer :=
  let r := readClear p
  match r.targetKind with
  | 0 =>
    match indexOf r.targetIndex with
    | none => refuse s .range 0
    | some _ =>
      if r.argument = 0 then withGroup r.targetIndex s fun g grp => clearGroup g grp s
      else if r.argument = 1 then withGroup r.targetIndex s fun g grp => clearBalance g grp s
      else refuse s .range 1
  | 1 =>
    match indexOf r.targetIndex with
    | none => refuse s .range 0
    | some x => if r.argument = 0 then clearPort x s else refuse s .range 1
  | 2 => if r.targetIndex = 0 then clearStation r.argument s else refuse s .range 0
  | _ => refuse s .range 0

/-- The target field has bits 7, 6 and 3 unused. -/
def clearFaultRequest : Request :=
  { kind := 0x15#8, lenOk := lenIs 2, unused := fun p => if (readClear p).unusedSet then some 0 else none,
    run := runClearFault, broadcast := none }

/-- CLEAR_FAULT_GROUP (R19): target a group, scope FAULT. -/
def execClearFaultGroup (payload : List Byte) (s : State) : Host.Outcome State Fault Refusal :=
  .next (takeRequest clearFaultRequest payload s)

/-- CLEAR_FAULT_BALANCE (R158): target a group, scope BALANCE. -/
def execClearFaultBalance (payload : List Byte) (s : State) : Host.Outcome State Fault Refusal :=
  .next (takeRequest clearFaultRequest payload s)

/-- CLEAR_FAULT_PORT (R92): target a port. -/
def execClearFaultPort (payload : List Byte) (s : State) : Host.Outcome State Fault Refusal :=
  .next (takeRequest clearFaultRequest payload s)

/-- CLEAR_FAULT_STATION (R134): target the station. -/
def execClearFaultStation (payload : List Byte) (s : State) : Host.Outcome State Fault Refusal :=
  .next (takeRequest clearFaultRequest payload s)

end Sys2Proof.Machine
end

