-- ==== Sys2Proof/Machine/DriveEvents.lean ====
section
/-! DEFINITION. The drive groups' events: start slots (R12, R62, R63), carrier marks and encoder pulses (R13 to R15, R65 to
R67), settling (R66, R12), the stall timer (R16), the drive fault input (R17) and the torque engine (R151 to R153). -/

namespace Sys2Proof.Machine

open Sys2Proof

/-! ## Start slots (R12, R62, R63) -/

/-- Every member shuttle's home sensor is active (R9, R12, R63). -/
def membersHome (s : State) (g : Index) : Bool := (s.membersOf g).all fun x => (s.ports.get x).home

/-- No member port is FAULTED (R12, R63). -/
def membersSound (s : State) (g : Index) : Bool := (s.membersOf g).all fun x => (s.ports.get x).shuttle != .faulted

/-- The conditions of a referencing run's start (R12), for a group in REFERENCING that has neither begun its run nor found
home. -/
def runStarts (s : State) (g : Index) (grp : Group) : Bool :=
  grp.state == .referencing && !(s.channels.get g).run && grp.k.isNone && s.link.mode == .normal && membersHome s g
    && membersSound s g

/-- The conditions of a move's start (R63), CURRENT being WAITING. -/
def moveStarts (s : State) (g : Index) (grp : Group) : Bool :=
  grp.state == .idle && s.link.mode == .normal && membersHome s g && membersSound s g && portsQuiet s g

/-- The move starts with a fresh answer of the balance unit (R56, R63). -/
def startMove (g : Index) (a : MoveAnswer) (s : State) : State :=
  let s := raiseRun g a.dir a.cls s
  s.modGroup g fun grp =>
    { grp.startMoveRecord a.dir with
      state := .moving
      arrivalOpen := false
      startedHere := Quad.fill false
      current := grp.current.map fun m =>
        { m with dir := a.dir, distance := a.distance, pathMax := a.pathMax, cls := a.cls, phase := .travel } }

/-- The beginning of a group's own start slot (R12, R62, R63). -/
def beginSlot (g : Index) (s : State) : State :=
  match s.groups.get g with
  | none => s
  | some grp =>
    if runStarts s g grp then raiseRun g .forward .creep (s.setGroup g (some { grp with markCount := 0 }))
    else
      match grp.current, grp.k with
      | some m, some k =>
        if m.phase = .waiting ∧ moveStarts s g grp then
          match moveAnswer (s.geometry g) grp k m.target with
          | some a => startMove g a s
          | none => s
        else s
      | _, _ => s

/-- START_SLOT (R62): slot g begins; RUN of group g may rise for a referencing run or a move. -/
def execStartSlot (group : Index) (s : State) : Host.Outcome State Fault Refusal :=
  .next (beginSlot group { s with startSlot := group })

/-! ## Judging a carrier mark (R13 to R15) -/

/-- Judgement of a mark by the encoder count (R13). -/
inductive MarkVerdict where
  | recrossing
  | step (dir : Direction)
  | fault
deriving DecidableEq, Repr

/-- The tolerance e = ⌊Ep/8⌋ (R13). -/
def Geometry.tolerance (geo : Geometry) : Nat := geo.pulses / 8

/-- The count is within the window of one pitch: Ep - e ≤ |n| ≤ Ep + e (R13). -/
def Geometry.inWindow (geo : Geometry) (n : Int) : Bool :=
  decide (geo.pulses - geo.tolerance ≤ n.natAbs ∧ n.natAbs ≤ geo.pulses + geo.tolerance)

/-- The direction of a signed count. -/
def countDirection (n : Int) : Direction := if 0 < n then .forward else .reverse

/-- A mark judged in MOVING with DIR `dir` (R13). -/
def judgeMark (geo : Geometry) (n : Int) (dir : Direction) : MarkVerdict :=
  if n.natAbs ≤ geo.tolerance then .recrossing
  else if geo.inWindow n ∧ countDirection n = dir then .step dir
  else .fault

/-- The offset after a step (R2, R13). -/
def stepOffset (c k : Nat) : Direction → Nat
  | .forward => (k + 1) % c
  | .reverse => subMod k 1 c

/-- The run of one-direction steps with one step more (R14). -/
def StepRun.add (r : StepRun) (d : Direction) : StepRun :=
  match r with
  | .fresh => .oneWay d
  | .oneWay d' => if d = d' then .oneWay d else .broken
  | .broken => .broken

/-- A pitch step counted towards carriers per revolution; at a home mark a one-direction run gives the value and the count
starts again (R14). -/
def Group.countStep (grp : Group) (d : Direction) (home : Bool) : Group :=
  let run := grp.homeDir.add d
  if home then
    { grp with homeSteps := 0, homeDir := .fresh,
               revolution := if run = .oneWay d then grp.homeSteps + 1 else grp.revolution }
  else { grp with homeSteps := grp.homeSteps + 1, homeDir := run }

/-- A recrossing ends the run of one-direction steps (R14; log 17). -/
def Group.countRecrossing (grp : Group) : Group := { grp with homeDir := .broken }

/-- HOME agrees with an offset: active exactly at 0 (R14). -/
def homeAgrees (home : Bool) (k : Nat) : Bool := home == decide (k = 0)

/-- The encoder count zeroed. -/
def zeroCount (g : Index) (s : State) : State := s.modGroup g fun grp => { grp with encoder := 0 }

/-! ### A stationary group (R15) -/

/-- A mark taken while the group is stationary at k: a POSITION fault unless it is a recrossing that agrees with HOME (R15).
The count is zeroed by a recrossing, and in REFERENCING and MOVING by every mark (R13). -/
def stationaryMark (g : Index) (grp : Group) (k : Nat) (home : Bool) (s : State) : State :=
  if grp.encoder.natAbs ≤ (s.geometry g).tolerance then
    let s := (zeroCount g s).modGroup g Group.countRecrossing
    if homeAgrees home k then s else groupFault g .position s
  else if grp.state = .referencing ∨ grp.state = .moving then groupFault g .position (zeroCount g s)
  else groupFault g .position s

/-! ### A referencing run (R12) -/

/-- Home is found: k is 0, the encoder count is zeroed, RUN falls and the loop settles; the count of R14 starts again. -/
def findHome (g : Index) (s : State) : State :=
  (dropRun g s).modGroup g fun grp =>
    { grp with k := some 0, encoder := 0, settle := true, homeSteps := 0, homeDir := .fresh }

/-- A mark of a referencing run (R12): the first is exempt from the window, no recrossing line, and C + 2 marks without HOME
are a POSITION fault. -/
def referencingMark (g : Index) (grp : Group) (home : Bool) (s : State) : State :=
  let geo := s.geometry g
  let count := grp.markCount + 1
  let ok := grp.markCount == 0 || (geo.inWindow grp.encoder && countDirection grp.encoder == .forward)
  let s := s.modGroup g fun grp =>
    { grp with markCount := count, encoder := 0, stallTimer := some grp.params.stallTime }
  if !ok then groupFault g .position s
  else if home then findHome g s
  else if geo.carriers + 2 ≤ count then groupFault g .position s
  else s

/-! ### Travel (R65 to R67) -/

/-- The move stops at this mark (R67): a pause pending leads to PAUSED at once, a hold stop alone to settling with CURRENT
empty. -/
def stopMove (g : Index) (s : State) : State :=
  let s := (dropRun g s).modGroup g fun grp =>
    if grp.pausePending then grp.paused else { grp with current := none, next := none, settle := true }
  judgeMove g s

/-- The arrival (R66): RUN falls, CURRENT is SETTLING and the settle timer starts. -/
def arrive (g : Index) (s : State) : State :=
  let s := (dropRun g s).modGroup g fun grp =>
    { grp with settle := true, current := grp.current.map fun m => { m with phase := .settling } }
  judgeMove g s

/-- A mark judged without fault in TRAVEL, k standing at `k` after it (R65, R73). -/
def dealWithMark (g : Index) (m : Move) (k : Nat) (s : State) : State :=
  match s.groups.get g with
  | none => s
  | some grp =>
    let stop := grp.pausePending || m.holdStop
    let s := s.modGroup g fun grp => grp.reportMark k (stop || k == m.target)
    if stop then stopMove g s
    else if k = m.target then arrive g s
    else s

/-- A group at the offset a mark leaves, with what R13 and R14 count; the stall timer restarts (R16). -/
def Group.atMark (grp : Group) (k : Nat) (home : Bool) (v : MarkVerdict) : Group :=
  let grp := { grp with k := some k, encoder := 0, stallTimer := some grp.params.stallTime }
  match v with
  | .step d => grp.countStep d home
  | .recrossing => grp.countRecrossing
  | .fault => grp

/-- A mark of a travelling move (R13, R14, R65). A pitch step counts towards the carriers per revolution also where HOME then
disagrees with k and the group faults: a step that finds HOME active at another offset than 0 gives the value too (R14). -/
def travelMark (g : Index) (grp : Group) (m : Move) (k : Nat) (home : Bool) (s : State) : State :=
  let geo := s.geometry g
  let v := judgeMark geo grp.encoder (s.channels.get g).dir
  let k' := match v with
    | .step d => stepOffset geo.carriers k d
    | _ => k
  if v = .fault then groupFault g .position (zeroCount g s)
  else
    let s := s.setGroup g (some (grp.atMark k' home v))
    if homeAgrees home k' then dealWithMark g m k' s else groupFault g .position s

/-- A carrier mark event at a group (R13, R15). -/
def takeMark (g : Index) (home : Bool) (s : State) : State :=
  match s.groups.get g with
  | none => s
  | some grp =>
    match grp.state with
    | .offline | .faulted => s
    | .referencing =>
      if (s.channels.get g).run then referencingMark g grp home s
      else match grp.k with
        | some k => stationaryMark g grp k home s
        | none => s
    | .idle | .paused =>
      match grp.k with
      | some k => stationaryMark g grp k home s
      | none => s
    | .moving =>
      match grp.k with
      | none => s
      | some k =>
        match grp.current with
        | some m =>
          if m.phase = .travel then travelMark g grp m k home s else stationaryMark g grp k home s
        | none => stationaryMark g grp k home s

/-- CARRIER_MARK (R13 to R15, R65 to R67): auto audits started at the end of a deviant move are task changes (R156). -/
def execCarrierMark (group : Index) (home : Bool) (s : State) : Host.Outcome State Fault Refusal :=
  .next (giveTurns [] s (takeMark group home s))

/-! ## The encoder (R13, R66) -/

/-- The encoder followed by one pulse (R13); in OFFLINE it is not followed (log 18). -/
def Group.pulse (grp : Group) (forward : Bool) : Group :=
  if grp.state = .offline then grp
  else { grp with encoder := if forward then grp.encoder + 1 else grp.encoder - 1 }

/-- ENCODER_PULSE (R13): the count follows the encoder. A pulse while settling restarts the settle timer, which goes on
running (R66). -/
def execEncoderPulse (group : Index) (forward : Bool) (s : State) : Host.Outcome State Fault Refusal :=
  .next (s.modGroup group fun grp => grp.pulse forward)

/-! ## Settling (R12, R66, R67, R69) -/

/-- A MOVING group once its loop has settled (R66, R67, R69): PAUSED with a pause pending; else IDLE, with an arrival handed
where CURRENT is filled. -/
def Group.settled (grp : Group) : Group :=
  if grp.pausePending then grp.paused
  else { grp with state := .idle, settle := false, current := none, arrivalOpen := grp.current.isSome }

/-- SETTLE_TIMER_EXPIRY (R66): the group enters IDLE, or PAUSED with a pause pending, and in IDLE the scheduler has a turn
for that and one for the arrival, where one is handed (R116). An expiry with no settling under way does not arise and is not
acted on (log 4). -/
def execSettleTimerExpiry (group : Index) (s : State) : Host.Outcome State Fault Refusal :=
  .next (match s.groups.get group with
    | none => s
    | some grp =>
      if grp.state = .moving ∧ grp.settle then
        giveTurns (if grp.pausePending then [] else if grp.current.isSome then [group, group] else [group]) s
          (s.setGroup group (some grp.settled))
      else s)

/-- REFERENCING_SETTLED (R12): the encoder has stayed quiet for 200 ms after home was found; the group enters IDLE at k = 0
and the scheduler has its turn (R116). -/
def execReferencingSettled (group : Index) (s : State) : Host.Outcome State Fault Refusal :=
  .next (match s.groups.get group with
    | none => s
    | some grp =>
      if grp.state = .referencing ∧ grp.settle then
        giveTurns [group] s (s.setGroup group (some { grp with state := .idle, settle := false }))
      else s)

/-! ## Stall timer and drive fault (R16, R17) -/

/-- STALL_TIMER_EXPIRY (R16): an expiry with the timer stopped does not arise and is not acted on (log 4). -/
def execStallTimerExpiry (group : Index) (s : State) : Host.Outcome State Fault Refusal :=
  .next (match s.groups.get group with
    | some grp => if grp.stallTimer.isSome then groupFault group .stall s else s
    | none => s)

/-- DRIVE_FAULT (R17): the level of DFLT is taken; taken active it faults a group that is neither OFFLINE nor FAULTED. -/
def execDriveFault (group : Index) (active : Bool) (s : State) : Host.Outcome State Fault Refusal :=
  .next (let s := s.modChannel group fun ch => { ch with dflt := active }
    if active then groupFault group .drive s else s)

/-! ## The torque engine (R151 to R153) -/

/-- The sample of a measurement of group `g` (R152). -/
def sampleOf (s : State) (g : Index) (high period : Nat) : Option Int :=
  match s.groups.get g with
  | some grp => torqueOf (dutyOf high period) grp.params.fullScale
  | none => none

/-- TORQUE_MEASUREMENT (R151 to R153): the visit of the group being measured ends with counts h and p. -/
def execTorqueMeasurement (high period : Nat) (s : State) : Host.Outcome State Fault Refusal :=
  .next (match s.audit.engine.measuring with
    | some g => endVisit g (sampleOf s g high period) s
    | none => s)

/-- TORQUE_VISIT_TIMEOUT (R151, R153): a visit not ended after 100 ms yields an invalid sample. -/
def execTorqueVisitTimeout (s : State) : Host.Outcome State Fault Refusal :=
  .next (match s.audit.engine.measuring with
    | some g => endVisit g none s
    | none => s)

end Sys2Proof.Machine
end

