-- ==== Sys2Proof/Machine/PortEvents.lean ====
section
/-! DEFINITION. The port controllers' events: the first judgement (R76), shuttle inputs and the completions they bring (R84,
R86, R93), the infeed tag reader and load cell (R78 to R80), the face tag reader (R81) and the transfer timer (R77, R88 to
R90). -/

namespace Sys2Proof.Machine

open Sys2Proof

/-! ## The first judgement (R76) -/

/-- A port judged from its stable inputs (R76). -/
def Port.judged (p : Port) (home extended load : Bool) : Port :=
  let p := { p with home := home, extended := extended, load := load, awaitingRest := false }
  if home && !extended && !load then { p with shuttle := .homeEmpty, fault := none }
  else { p with shuttle := .faulted, fault := some .start }

/-- PORT_REST_JUDGEMENT (R76): it comes once after power-on and after RESET ALL (log 25). -/
def execPortRestJudgement (port : Index) (home extended load : Bool) (s : State) : Host.Outcome State Fault Refusal :=
  .next (if (s.ports.get port).awaitingRest then s.modPort port fun p => p.judged home extended load else s)

/-! ## Shuttle inputs (R75, R84, R86, R93) -/

/-- An input taken, with the scheduler's turn where it completes a transfer (R84, R86, R116). -/
def inputTaken (p : Index) (i : PortInput) (v : Bool) (s : State) : State :=
  let r := takeInput p i v s
  giveTurns (if r.2 then portGroup s p else []) s r.1

/-- SHUTTLE_INPUT_CHANGE (R93). -/
def execShuttleInputChange (port : Index) (input : PortInput) (active : Bool) (s : State) :
    Host.Outcome State Fault Refusal :=
  .next (inputTaken port input active s)

/-- INSERTION_COMPLETE (R84): the input change with which the completion condition of an insertion holds (log 11). -/
def execInsertionComplete (port : Index) (input : PortInput) (active : Bool) (s : State) :
    Host.Outcome State Fault Refusal :=
  .next (inputTaken port input active s)

/-- EXTRACTION_COMPLETE (R86): the input change with which the completion condition of an extraction holds (log 11). -/
def execExtractionComplete (port : Index) (input : PortInput) (active : Bool) (s : State) :
    Host.Outcome State Fault Refusal :=
  .next (inputTaken port input active s)

/-! ## The infeed (R78 to R80) -/

/-- INFEED_TAG_ANSWER (R78): the reader's tag, or no read. -/
def execInfeedTagAnswer (port : Index) (answer : Option Id32) (s : State) : Host.Outcome State Fault Refusal :=
  .next (takeInfeedTag port answer s)

/-- INFEED_TAG_TIMEOUT (R78): an answer not given within 1 s is taken as no read. -/
def execInfeedTagTimeout (port : Index) (s : State) : Host.Outcome State Fault Refusal :=
  .next (takeInfeedTag port none s)

/-- WEIGHING_SAMPLE (R79, R80): a store that placement places is a task change of its group (R102). -/
def execWeighingSample (port : Index) (reading : Int) (s : State) : Host.Outcome State Fault Refusal :=
  .next (giveTurns [] s (takeSample port reading s))

/-! ## The face scanner (R81) -/

/-- The group of a port has its turn when the port's scan has ended (R116). -/
def scanEnded (before after : State) (p : Index) : List Index :=
  if (before.ports.get p).scan.isSome && (after.ports.get p).scan.isNone then portGroup before p else []

/-- FACE_TAG_ANSWER (R81). -/
def execFaceTagAnswer (port : Index) (level : Fin 6) (answer : Option Id32) (s : State) :
    Host.Outcome State Fault Refusal :=
  .next (let s' := answerFaceTag port level.val answer s
    giveTurns (scanEnded s s' port) s s')

/-- SCAN_TIMEOUT (R81): 2 s have passed; each level without a report is handed as no report. -/
def execScanTimeout (port : Index) (s : State) : Host.Outcome State Fault Refusal :=
  .next (let s' := endScan port s
    giveTurns (scanEnded s s' port) s s')

/-! ## The transfer timer (R77, R88 to R90) -/

/-- A transfer of a port jams (R88 to R90). -/
def jam (p : Index) (s : State) : State :=
  match (s.ports.get p).shuttle with
  | .inserting => jamInsertion p s
  | .extracting => jamExtraction p s
  | .releasing => jamRelease p s
  | _ => s

/-- The jam of an insertion or extraction gives the port's group its turn (R116). -/
def jamTurn (s : State) (p : Index) : List Index :=
  match (s.ports.get p).shuttle with
  | .inserting | .extracting => portGroup s p
  | _ => []

/-- TRANSFER_TIMER_EXPIRY (R77): an expiry with the timer stopped does not arise and is not acted on (log 4). -/
def execTransferTimerExpiry (port : Index) (s : State) : Host.Outcome State Fault Refusal :=
  .next (if (s.ports.get port).transferTimer.isSome then giveTurns (jamTurn s port) s (jam port s) else s)

end Sys2Proof.Machine
end

