-- ==== Sys2Proof/Machine/FrameCommands.lean ====
section
/-! DEFINITION. Dispatch of a valid frame by its ADDR and KIND (R162, R163, R165): the request kinds of the part, and the
commands UNKNOWN_KIND and FRAME_NOT_ADDRESSED. Then the receiver byte by byte (R161), and the command INVALID_FRAME. -/

namespace Sys2Proof.Machine

open Sys2Proof

/-- The request kinds of the part (section 11.3). -/
def requestKinds : List Request :=
  [identRequest, statusRequest, setLinkRequest, ackEventsRequest, resumeRequest, resetAllRequest,
   setCarouselRequest, setGroupRequest, commissionRequest, pauseRequest, continueRequest, clearFaultRequest,
   resetGroupRequest, balanceReadRequest,
   mapBeginRequest, mapPutRequest, mapCommitRequest, mapReadRequest, slotQueryRequest, slotResolveRequest,
   storeRequest, storeWithdrawRequest, storeQueryRequest,
   orderOpenRequest, orderCancelRequest, orderQueryRequest,
   laneReleaseRequest, setStationRequest, stationQueryRequest,
   auditStartRequest, auditStopRequest, auditQueryRequest, logReadRequest]

/-- The request of a KIND byte, where it is one of the part. -/
def requestOf (kind : Byte) : Option Request := requestKinds.find? fun r => r.kind == kind

/-- A request addressed to the part (R163): an unknown kind is answered with a NAK of UNKNOWN_KIND. -/
def takeOwnRequest (kind : Byte) (payload : List Byte) (s : State) : State :=
  match requestOf kind with
  | some r => takeRequest r payload s
  | none => hearFrame payload.length (fun s => answer kind (refuse s .unknownKind 0xFF)) s

/-- UNKNOWN_KIND (R163): a frame to the part whose KIND is no request kind. -/
def execUnknownKind (kind : Byte) (payload : List Byte) (s : State) : Host.Outcome State Fault Refusal :=
  .next (takeOwnRequest kind payload s)

/-- A frame sent to address 63 (R165). -/
def takeBroadcastKind (kind : Byte) (payload : List Byte) (s : State) : State :=
  match requestOf kind with
  | some r => takeBroadcast r payload s
  | none => hearFrame payload.length id s

/-- What the ADDR byte of a valid frame says (R162): bit 7 the direction, bit 6 zero, bits 5-0 the address. -/
inductive Addressee where
  | own
  | broadcast
  | other
deriving DecidableEq, Repr

def addressee (own : Nat) (addr : Byte) : Addressee :=
  if addr.toNat = own then .own
  else if addr.toNat = 63 then .broadcast
  else .other

/-- A valid frame judged by its ADDR (R162). A reply and a request to another module restart the watchdog and are not acted
on further. -/
def takeFrame (addr kind : Byte) (payload : List Byte) (s : State) : State :=
  match addressee s.link.address addr with
  | .own => takeOwnRequest kind payload s
  | .broadcast => takeBroadcastKind kind payload s
  | .other => hearFrame payload.length id s

/-- FRAME_NOT_ADDRESSED (R162): a valid frame judged by its ADDR. Where the byte is the part's own or the broadcast address,
the frame is what that address makes it (log 14). -/
def execFrameNotAddressed (addr kind : Byte) (payload : List Byte) (s : State) : Host.Outcome State Fault Refusal :=
  .next (takeFrame addr kind payload s)

/-! ## The receiver, byte by byte (R161) -/

/-- What one more byte makes of the frame begun. -/
inductive Reception where
  | discarded
  | more (taken : List Byte)
  | valid (addr kind : Byte) (payload : List Byte)
deriving DecidableEq, Repr

/-- The LEN of the bytes taken from SYNC on. -/
def takenLen (taken : List Byte) : Nat := byteAt taken 3

/-- The bytes that the CRC covers: ADDR, KIND, LEN and the payload (R161). -/
def takenBody (taken : List Byte) : List Byte := (taken.drop 1).take (3 + takenLen taken)

/-- A frame whose second CRC byte has been taken: valid where the CRC computed is the CRC received (R161). -/
def checkCrc (taken : List Byte) : Reception :=
  if taken.drop (4 + takenLen taken) = crcBytes (takenBody taken) then
    .valid (taken.getD 1 0#8) (taken.getD 2 0#8) ((takenBody taken).drop 3)
  else .discarded

/-- One byte taken IN_FRAME, `taken` being the bytes from SYNC on (R161): a framing error and a LEN above 200 discard the
frame, and its second CRC byte has the CRC checked. Within a frame 0xA5 is an ordinary byte. -/
def receiveByte (taken : List Byte) (b : LineByte) : Reception :=
  let t := taken ++ [b.value]
  if b.framingError then .discarded
  else if t.length < 4 then .more t
  else if Config.payloadCap < takenLen t then .discarded
  else if t.length < 6 + takenLen t then .more t
  else checkCrc t

/-- The bytes so far of the frame that `b` begins from HUNT, if it begins one (R161, log 41). -/
def frameBegun (b : LineByte) : Option (List Byte) :=
  if b.value = syncByte ∧ b.framingError = false then some [b.value] else none

/-- One byte at the receiver (R161): in HUNT only 0xA5 is acted on, and it begins a frame. A 0xA5 without its stop bit begins
none (log 41). -/
def takeByte (b : LineByte) (s : State) : State :=
  match s.link.receiver with
  | .off => s
  | .hunt =>
    match frameBegun b with
    | some taken => s.setReceiver (.inFrame taken)
    | none => s
  | .inFrame taken =>
    match receiveByte taken b with
    | .discarded => s.setReceiver .hunt
    | .more taken => s.setReceiver (.inFrame taken)
    | .valid addr kind payload => takeFrame addr kind payload s

/-- One more byte of a frame that is lost (R172): what of it has been taken then, or none where it ends. -/
def loseByte (taken : List Byte) (b : LineByte) : Option (List Byte) :=
  match receiveByte taken b with
  | .more taken => some taken
  | _ => none

/-- A run of bytes from the line, one after another. While the receiver is off they are lost. The first byte taken while a reply
waits drops it (R164); where that reply is the ACK of RESET ALL, the frame which that byte begins is lost with it, and the next
is taken from HUNT (R172). `lost` holds the bytes so far of such a frame (log 10). -/
def takeBytes : Option (List Byte) → List LineByte → State → State
  | _, [], s => s
  | lost, b :: bs, s =>
    match s.link.receiver, lost with
    | .off, _ => s
    | _, some taken => takeBytes (loseByte taken b) bs s
    | _, none =>
      if s.link.resetWaits then takeBytes (frameBegun b) bs (dropWaiting s)
      else takeBytes none bs (takeByte b (dropWaiting s))

/-- INVALID_FRAME (R161): bytes come from the line, and the receiver takes each. A CRC mismatch, a LEN above 200 and a framing
error discard the frame silently; bytes that make a valid frame are that frame, and bytes that end within a frame leave the
receiver IN_FRAME (log 10). -/
def execInvalidFrame (bytes : List LineByte) (s : State) : Host.Outcome State Fault Refusal :=
  .next (takeBytes none bytes s)

end Sys2Proof.Machine
end

