-- ==== Sys2Proof/Machine/Dispatch.lean ====
section
/-! DEFINITION. The dispatch of commands: one arm for each row of spec/opcode_table.json. -/

namespace Sys2Proof.Machine

open Sys2Proof

/-- The effect of a command on everything but the queue. -/
def exec (i : Instr) (s : State) : Host.Outcome State Fault Refusal :=
  match i with
  | .powerOn => Sys2Proof.Machine.execPowerOn s
  | .addressSampling as1 as0 br1 br0 conversions => Sys2Proof.Machine.execAddressSampling as1 as0 br1 br0 conversions s
  | .portRestJudgement port home extended load => Sys2Proof.Machine.execPortRestJudgement port home extended load s
  | .frameGapTimeout => Sys2Proof.Machine.execFrameGapTimeout s
  | .invalidFrame why => Sys2Proof.Machine.execInvalidFrame why s
  | .frameNotAddressed addr kind payload => Sys2Proof.Machine.execFrameNotAddressed addr kind payload s
  | .unknownKind kind payload => Sys2Proof.Machine.execUnknownKind kind payload s
  | .replySend => Sys2Proof.Machine.execReplySend s
  | .replyDrop byte => Sys2Proof.Machine.execReplyDrop byte s
  | .replyComplete => Sys2Proof.Machine.execReplyComplete s
  | .ident payload => Sys2Proof.Machine.execIdent payload s
  | .status payload => Sys2Proof.Machine.execStatus payload s
  | .setLink payload => Sys2Proof.Machine.execSetLink payload s
  | .ackEvents payload => Sys2Proof.Machine.execAckEvents payload s
  | .resume broadcast payload => Sys2Proof.Machine.execResume broadcast payload s
  | .resetAll payload => Sys2Proof.Machine.execResetAll payload s
  | .setCarousel payload => Sys2Proof.Machine.execSetCarousel payload s
  | .setGroup payload => Sys2Proof.Machine.execSetGroup payload s
  | .commission payload => Sys2Proof.Machine.execCommission payload s
  | .pause broadcast payload => Sys2Proof.Machine.execPause broadcast payload s
  | .cont broadcast payload => Sys2Proof.Machine.execContinue broadcast payload s
  | .clearFaultGroup payload => Sys2Proof.Machine.execClearFaultGroup payload s
  | .clearFaultBalance payload => Sys2Proof.Machine.execClearFaultBalance payload s
  | .clearFaultPort payload => Sys2Proof.Machine.execClearFaultPort payload s
  | .clearFaultStation payload => Sys2Proof.Machine.execClearFaultStation payload s
  | .resetGroup payload => Sys2Proof.Machine.execResetGroup payload s
  | .balanceRead payload => Sys2Proof.Machine.execBalanceRead payload s
  | .mapBegin payload => Sys2Proof.Machine.execMapBegin payload s
  | .mapPut payload => Sys2Proof.Machine.execMapPut payload s
  | .mapCommit payload => Sys2Proof.Machine.execMapCommit payload s
  | .mapRead payload => Sys2Proof.Machine.execMapRead payload s
  | .slotQuery payload => Sys2Proof.Machine.execSlotQuery payload s
  | .slotResolve payload => Sys2Proof.Machine.execSlotResolve payload s
  | .store payload => Sys2Proof.Machine.execStore payload s
  | .storeWithdraw payload => Sys2Proof.Machine.execStoreWithdraw payload s
  | .storeQuery payload => Sys2Proof.Machine.execStoreQuery payload s
  | .orderOpen payload => Sys2Proof.Machine.execOrderOpen payload s
  | .orderCancel payload => Sys2Proof.Machine.execOrderCancel payload s
  | .orderQuery payload => Sys2Proof.Machine.execOrderQuery payload s
  | .laneRelease payload => Sys2Proof.Machine.execLaneRelease payload s
  | .setStation payload => Sys2Proof.Machine.execSetStation payload s
  | .stationQuery payload => Sys2Proof.Machine.execStationQuery payload s
  | .auditStart payload => Sys2Proof.Machine.execAuditStart payload s
  | .auditStop payload => Sys2Proof.Machine.execAuditStop payload s
  | .auditQuery payload => Sys2Proof.Machine.execAuditQuery payload s
  | .logRead payload => Sys2Proof.Machine.execLogRead payload s
  | .watchdogExpiry => Sys2Proof.Machine.execWatchdogExpiry s
  | .startSlot group => Sys2Proof.Machine.execStartSlot group s
  | .carrierMark group home => Sys2Proof.Machine.execCarrierMark group home s
  | .encoderPulse group forward => Sys2Proof.Machine.execEncoderPulse group forward s
  | .settleTimerExpiry group => Sys2Proof.Machine.execSettleTimerExpiry group s
  | .referencingSettled group => Sys2Proof.Machine.execReferencingSettled group s
  | .stallTimerExpiry group => Sys2Proof.Machine.execStallTimerExpiry group s
  | .driveFault group active => Sys2Proof.Machine.execDriveFault group active s
  | .torqueMeasurement high period => Sys2Proof.Machine.execTorqueMeasurement high period s
  | .torqueVisitTimeout => Sys2Proof.Machine.execTorqueVisitTimeout s
  | .shuttleInputChange port input active => Sys2Proof.Machine.execShuttleInputChange port input active s
  | .insertionComplete port input active => Sys2Proof.Machine.execInsertionComplete port input active s
  | .extractionComplete port input active => Sys2Proof.Machine.execExtractionComplete port input active s
  | .infeedTagAnswer port answer => Sys2Proof.Machine.execInfeedTagAnswer port answer s
  | .infeedTagTimeout port => Sys2Proof.Machine.execInfeedTagTimeout port s
  | .weighingSample port reading => Sys2Proof.Machine.execWeighingSample port reading s
  | .faceTagAnswer port level answer => Sys2Proof.Machine.execFaceTagAnswer port level answer s
  | .scanTimeout port => Sys2Proof.Machine.execScanTimeout port s
  | .transferTimerExpiry port => Sys2Proof.Machine.execTransferTimerExpiry port s
  | .storeTimeTick ports => Sys2Proof.Machine.execStoreTimeTick ports s
  | .collectorEntry => Sys2Proof.Machine.execCollectorEntry s
  | .laneEntry lane => Sys2Proof.Machine.execLaneEntry lane s
  | .diversionTimeout => Sys2Proof.Machine.execDiversionTimeout s
  | .laneButton lane => Sys2Proof.Machine.execLaneButton lane s

end Sys2Proof.Machine
end

