-- ==== Sys2Proof/Safety.lean ====
section
/-! DEFINITION. What counts as a sound state of the part, and the terms the statements use: a frame that is heard, what the
scheduler's turns can change, and the invariants that every step keeps. -/

namespace Sys2Proof.Machine

open Sys2Proof

/-! ## A frame that is heard (R161, R162, R164) -/

/-- The part takes the next valid frame: its receiver is on, and no ACK of RESET ALL waits (the frame that drops that one is
lost, R172). -/
def State.Listens (s : State) : Prop := s.link.receiver ≠ .off ∧ s.link.resetWaits = false

/-- The link unit once a valid frame has been taken: a waiting reply is dropped (R164), the receiver hunts (R161), and a
RUNNING watchdog is restarted with the timeout of its code (R162, R166). -/
def Link.heard (l : Link) : Link :=
  { l with
    receiver := .hunt
    reply := match l.reply with
      | .waiting _ => .none
      | r => r
    lineOut := match l.reply with
      | .waiting _ => []
      | _ => l.lineOut
    wdTimer := if l.wdTimer.isSome then watchdogTimeout l.wdCode else none }

/-- The state in which the frame is judged. -/
def State.heard (s : State) : State := s.setLink s.link.heard

/-- The state with a reply fixed and waiting (R164). -/
def State.replying (s : State) (kind : Byte) (payload : List Byte) : State :=
  s.setLink { s.link with reply := .waiting { kind := kind, payload := payload } }

/-- The state with a NAK waiting: the kind with bit 7 set, a reason and a detail (R163, R174). -/
def State.refusing (s : State) (kind : Byte) (reason : Reason) (detail : Nat) : State :=
  s.replying (kind ||| 0x80#8) (u8 reason.code ++ u8 detail)

/-- The kind and payload of an addressed request (section 11.3). -/
def addressedRequest : Instr → Option (Byte × List Byte)
  | .ident p => some (0x01#8, p)
  | .status p => some (0x02#8, p)
  | .setLink p => some (0x03#8, p)
  | .ackEvents p => some (0x04#8, p)
  | .resume false p => some (0x05#8, p)
  | .resetAll p => some (0x06#8, p)
  | .setCarousel p => some (0x10#8, p)
  | .setGroup p => some (0x11#8, p)
  | .commission p => some (0x12#8, p)
  | .pause false p => some (0x13#8, p)
  | .cont false p => some (0x14#8, p)
  | .clearFaultGroup p | .clearFaultBalance p | .clearFaultPort p | .clearFaultStation p => some (0x15#8, p)
  | .resetGroup p => some (0x16#8, p)
  | .balanceRead p => some (0x17#8, p)
  | .mapBegin p => some (0x20#8, p)
  | .mapPut p => some (0x21#8, p)
  | .mapCommit p => some (0x22#8, p)
  | .mapRead p => some (0x23#8, p)
  | .slotQuery p => some (0x24#8, p)
  | .slotResolve p => some (0x25#8, p)
  | .store p => some (0x30#8, p)
  | .storeWithdraw p => some (0x31#8, p)
  | .storeQuery p => some (0x32#8, p)
  | .orderOpen p => some (0x38#8, p)
  | .orderCancel p => some (0x39#8, p)
  | .orderQuery p => some (0x3A#8, p)
  | .laneRelease p => some (0x40#8, p)
  | .setStation p => some (0x41#8, p)
  | .stationQuery p => some (0x42#8, p)
  | .auditStart p => some (0x48#8, p)
  | .auditStop p => some (0x49#8, p)
  | .auditQuery p => some (0x4A#8, p)
  | .logRead p => some (0x4B#8, p)
  | _ => none

/-- The payload of a command that is a frame which reaches the part whole: a request addressed to it, a broadcast, a request of
no kind, or a frame sent to another module. -/
def framePayload : Instr → Option (List Byte)
  | .resume _ p | .pause _ p | .cont _ p | .unknownKind _ p | .frameNotAddressed _ _ p => some p
  | c => (addressedRequest c).map Prod.snd

/-- Whether a command is such a frame. -/
def isFrame (c : Instr) : Bool := (framePayload c).isSome

/-- The payload lengths a request kind allows (R173, section 11.3). -/
def lengthAllowed (kind : Byte) (n : Nat) : Prop :=
  match kind.toNat with
  | 0x01 | 0x02 | 0x05 | 0x06 => n = 0
  | 0x03 => n = 3
  | 0x04 => n = 2
  | 0x10 => n = 21
  | 0x11 => n = 32
  | 0x12 | 0x13 | 0x14 | 0x16 => n = 1
  | 0x15 => n = 2
  | 0x17 => n = 3
  | 0x20 | 0x22 => n = 1
  | 0x21 => ∃ i, 1 ≤ i ∧ i ≤ 12 ∧ n = 1 + 14 * i
  | 0x23 => n = 4
  | 0x24 => n = 3
  | 0x25 => n = 15
  | 0x30 => n = 13
  | 0x31 | 0x32 => n = 1
  | 0x38 => ∃ i, 1 ≤ i ∧ i ≤ 8 ∧ n = 6 + 4 * i
  | 0x39 | 0x3A => n = 4
  | 0x40 | 0x42 => n = 1
  | 0x41 => n = 7
  | 0x48 => n = 5
  | 0x49 | 0x4A => n = 1
  | 0x4B => n = 2
  | _ => False

/-! ## The fields of requests, one by one -/

/-- Field `i` of SET_CAROUSEL holds an accepted value (the table of R4). -/
def carouselFieldOk (r : CarouselRequest) : Nat → Prop
  | 0 => r.carousel ≤ 3
  | 1 => r.carriers % 2 = 0 ∧ 12 ≤ r.carriers ∧ r.carriers ≤ 48
  | 2 => 1 ≤ r.bend ∧ r.bend ≤ 4 ∧ 2 ≤ (r.carriers - 2 * r.bend) / 2
  | 3 => r.port + 1 ≤ (r.carriers - 2 * r.bend) / 2
  | 4 => 1 ≤ r.levels ∧ r.levels ≤ 6
  | 5 => 500 ≤ r.carrierLimit ∧ r.carrierLimit ≤ 4000
  | 6 => 32 ≤ r.pulses ∧ r.pulses ≤ 2048
  | i =>
    if i ≤ 12 then
      if i - 7 < r.levels then 50 ≤ r.limits.getD (i - 7) 0 ∧ r.limits.getD (i - 7) 0 ≤ 800
      else r.limits.getD (i - 7) 0 = 0
    else True

/-- Field `i` of SET_GROUP holds an accepted value (R6, R7). -/
def groupFieldOk (r : GroupRequest) : Nat → Prop
  | 0 => r.group ≤ 3
  | 1 => r.memberList ≠ []
  | 2 => 1 ≤ r.lp ∧ r.lp ≤ 4000000
  | 3 => 1 ≤ r.ls1 ∧ r.ls1 ≤ 4000000
  | 4 => 1 ≤ r.ls2 ∧ r.ls2 ≤ 4000000
  | 5 => 1 ≤ r.ld ∧ r.ld ≤ 4000000
  | 6 => 1 ≤ r.friction ∧ r.friction ≤ 4000000
  | 7 => 1 ≤ r.fullScale ∧ r.fullScale ≤ 4000000
  | 8 => 1 ≤ r.tolerance ∧ r.tolerance ≤ 4000000
  | 9 => 5 ≤ r.stallTime ∧ r.stallTime ≤ 100
  | 10 => r.autoAudit = 0 ∨ r.autoAudit = 1
  | _ => True

/-- Field `i` of a slot image holds a value MAP_PUT accepts (R25). -/
def imageFieldOk (carriers levels : Nat) (im : SlotImage) : Nat → Prop
  | 0 => im.carrier < carriers
  | 1 => im.level < levels
  | 2 => im.content = 0 ∨ im.content = 1
  | 5 => im.member ≤ 4
  | 6 => im.mass ≤ 4000
  | _ => True

/-- Slot number `i` of the walk of MAP_COMMIT passes its three checks (R26). -/
def walkPasses (s : State) (cfg : CarouselConfig) (m : SlotMap) (i : Nat) : Prop :=
  ∀ c l sl, m.walk[i]? = some (c, l, sl) →
    slotFailure s cfg (((m.walk.take i).filter fun e => e.2.2.content == .held).map fun e => e.2.2.tag) l sl = none

/-- The sum over every slot of the members' maps of the lever weight at offset k times a mass of the slot (R42). -/
def slotMoment (s : State) (g : Index) (mass : Slot → Int) (k : Nat) : Int :=
  ((s.membersOf g).flatMap fun x => (s.carousels.get x).map.walk.map fun (c, _, sl) =>
    leverWeight (s.geometry g).carriers (s.geometry g).bend ((c + k) % (s.geometry g).carriers) * mass sl).sum

/-- The moment of the recorded masses of the HELD slots (R45). -/
def heldMoment (s : State) (g : Index) (k : Nat) : Int :=
  slotMoment s g (fun sl => if sl.content = .held then (sl.recorded : Int) else 0) k

/-! ## What the scheduler's turns can change (R115 to R119) -/

/-- A group without what a turn can change: the move slots, the profiles with their number, and the condition that a clean auto
audit clears. -/
def Group.turnCore (grp : Group) : Group :=
  { grp with current := none, next := none, arrivalOpen := false, startedHere := Quad.fill false, effective := [], planned := [], changeNo := 0,
             deviant := 0, suspect := false, watch := none }

/-- A port without what a turn can change: a transfer or scan that begins. -/
def Port.turnCore (p : Port) : Port :=
  { p with shuttle := .homeEmpty, insertOut := false, extractOut := false, releaseOut := false, job := none,
           transferTimer := none, scan := none }

/-- A carousel without its slot records. -/
def Carousel.turnCore (c : Carousel) : Carousel := { c with map := { c.map with carriers := [] } }

/-- The state without what a turn can change. Two states with equal cores differ at most in what the scheduler's turns do. -/
def State.turnCore (s : State) : State where
  link := { s.link with flags := 0#13 }
  carousels := s.carousels.map Carousel.turnCore
  channels := s.channels
  groups := s.groups.map (Option.map Group.turnCore)
  startSlot := s.startSlot
  ports := s.ports.map Port.turnCore
  stores := Quad.fill none
  sched := { s.sched with orders := [], activationCounter := 0, placedOrder := [] }
  station := { s.station with releasePort := none, lanes := Quad.fill { state := .free, order := none, stack := [] } }
  audit := { generation := 0, tasks := Quad.fill none, log := [], entryCounter := 0, engine := s.audit.engine }
  choices := 0
  pending := s.pending

/-! ## The link unit (R160, R161, R164, R166, R167) -/

/-- A sound link unit: a legal watchdog code; the watchdog RUNNING exactly in NORMAL with a code other than 7 once sampling has
ended, with the timeout of its code; nothing taken, sent or set before sampling ends; the receiver off exactly while a reply is
sent and in HUNT while one waits; the driver released unless a reply is sent. -/
structure LinkInv (l : Link) : Prop where
  code : l.wdCode ≤ 5 ∨ l.wdCode = 7
  timer : l.sampled = true → l.wdTimer = match l.mode with
    | .normal => watchdogTimeout l.wdCode
    | .hold => none
  unsampled : l.sampled = false →
    l.receiver = .off ∧ l.reply = .none ∧ l.mode = .normal ∧ l.flags = 0#13 ∧ l.wdTimer = none
  off : l.sampled = true → (l.receiver = .off ↔ ∃ r, l.reply = .sending r)
  waiting : ∀ r, l.reply = .waiting r → l.receiver = .hunt
  sent : l.lineOut = match l.reply with
    | .sending r => replyFrame l.address r
    | _ => []

/-! ## The drive groups and channels (R6, R9, R10, R16, R18, R59, R151) -/

/-- A sound group with its channel. -/
structure GroupSound (grp : Group) (ch : Channel) : Prop where
  /-- RUN is high only in REFERENCING, before home is found, or MOVING (R9, R10). -/
  run : ch.run = true → grp.state = .moving ∨ (grp.state = .referencing ∧ grp.k = none)
  /-- An OFFLINE group has DIR forward (R8, R22). -/
  rest : grp.state = .offline → ch.dir = .forward
  /-- k is invalid in OFFLINE and FAULTED and valid in IDLE and MOVING (R10). -/
  invalid : grp.state = .offline ∨ grp.state = .faulted → grp.k = none
  valid : grp.state = .idle ∨ grp.state = .moving → grp.k ≠ none
  /-- The move slots are empty outside IDLE and MOVING (R59). -/
  slots : grp.state ≠ .idle → grp.state ≠ .moving → grp.current = none ∧ grp.next = none
  /-- CURRENT is WAITING in IDLE; in MOVING it is in TRAVEL exactly while RUN is high (R60, R63, R66). -/
  waiting : grp.state = .idle → ∀ m, grp.current = some m → m.phase = .waiting
  travel : grp.state = .moving → (ch.run = true ↔ ∃ m, grp.current = some m ∧ m.phase = .travel)
  departed : grp.state = .moving → ∀ m, grp.current = some m → m.phase ≠ .waiting
  /-- The settle timer runs in MOVING with RUN low, and in REFERENCING once home is found (R12, R66). -/
  settling : grp.settle = true ↔
    (grp.state = .moving ∧ ch.run = false) ∨ (grp.state = .referencing ∧ grp.k ≠ none)
  /-- The stall timer runs exactly while RUN is high (R16). -/
  stall : grp.stallTimer.isSome = ch.run
  /-- A pause is pending only in MOVING (R20). -/
  pause : grp.pausePending = true → grp.state = .moving
  /-- The fault cause is held exactly in FAULTED (R10, R18). -/
  cause : grp.cause = .none ↔ grp.state ≠ .faulted

/-- Sound drive groups and channels: the channel of a group that does not exist is at rest, SPEED is 0 while RUN is low (R9),
a carousel is a member of at most one group (R6), and the torque engine measures a group whose RUN is high, and is IDLE only
while none is (R151). -/
structure DriveInv (s : State) : Prop where
  absent : ∀ g, s.groups.get g = none → (s.channels.get g).run = false ∧ (s.channels.get g).dir = .forward
  speed : ∀ g, (s.channels.get g).run = false → (s.channels.get g).speed = .creep
  sound : ∀ g grp, s.groups.get g = some grp → GroupSound grp (s.channels.get g)
  disjoint : ∀ g h a b x, s.groups.get g = some a → s.groups.get h = some b → x ∈ a.members → x ∈ b.members → g = h
  measuring : ∀ g, s.audit.engine.measuring = some g → (s.channels.get g).run = true
  idle : s.audit.engine.measuring = none → ∀ g, (s.channels.get g).run = false

/-! ## The ports (R76, R77, R81) -/

/-- A sound port: FAULTED exactly with a fault record, a load record exactly with an item on the deck, a job and a running
transfer timer exactly with a transfer, each output active exactly in the shuttle state that drives it (R75), no scan beside an
insertion or extraction, and FAULTED until its first judgement. -/
structure PortSound (p : Port) : Prop where
  fault : p.shuttle = .faulted ↔ p.fault ≠ none
  load : p.loadRec ≠ none ↔ p.shuttle = .homeLoaded ∨ p.shuttle = .releasing ∨ p.fault = some .release
  job : p.job ≠ none ↔ p.shuttle = .inserting ∨ p.shuttle = .extracting
  timer : p.transferTimer ≠ none ↔ p.shuttle = .inserting ∨ p.shuttle = .extracting ∨ p.shuttle = .releasing
  insertOut : p.insertOut = true ↔ p.shuttle = .inserting
  extractOut : p.extractOut = true ↔ p.shuttle = .extracting
  releaseOut : p.releaseOut = true ↔ p.shuttle = .releasing
  scan : p.scan ≠ none → p.shuttle ≠ .inserting ∧ p.shuttle ≠ .extracting
  rest : p.awaitingRest = true → p.fault = some .start
  lines : p.presence.length = 6

/-- Sound ports: each is sound, and the release in progress is the one port that is RELEASING (R87, R126, R127). -/
structure PortInv (s : State) : Prop where
  sound : ∀ p, PortSound (s.ports.get p)
  release : ∀ p, s.station.releasePort = some p ↔ (s.ports.get p).shuttle = .releasing

/-! ## The station (R124, R128 to R130, R133, R135, R137) -/

/-- The diverter is DIVERTING. -/
def Station.divertingNow (st : Station) : Bool :=
  match st.diverter with
  | .diverting _ => true
  | _ => false

/-- A sound station: at most 12 entries on the collector and 8 items in the reject lane (R128, R135), room kept for the release
in progress (R129) and for the diversion under way (R130), the settings in their ranges (R137), diverter send raised and the
diversion timer running exactly while a diversion runs (R130, R133), the collector drive running exactly while the station is not
FAULTED (R124, R133), and a fault record naming a diversion exactly while the diverter is DIVERTING (log 19). -/
structure StationInv (st : Station) : Prop where
  settings : 2 ≤ st.settings.high ∧ st.settings.high ≤ 12 ∧ st.settings.low < st.settings.high
    ∧ 1 ≤ st.settings.laneCount ∧ st.settings.laneCount ≤ 4
    ∧ 2 ≤ st.settings.transferTimeout ∧ st.settings.transferTimeout ≤ 30 ∧ st.settings.massTolerance ≤ 100
    ∧ 10 ≤ st.settings.storePatience ∧ st.settings.storePatience ≤ 300
  collector : st.collector.length ≤ 12
  running : st.paused = false → st.collector.length < st.settings.high
  released : st.releasePort ≠ none → st.collector.length < 12
  reject : st.reject.length ≤ 8
  diverting : st.divertingNow = true → st.collector ≠ [] ∧ st.reject.length < 8
  position : ∀ d, st.diverter = .diverting d → st.position = d
  send : st.send = true ↔ st.fault = none ∧ st.divertingNow = true
  drive : st.drive = true ↔ st.fault = none
  timer : st.diversionTimer ≠ none ↔ st.send = true
  inFlight : ∀ f, st.fault = some f → (f.diversion ≠ none ↔ st.divertingNow = true)

/-! ## Counters and the log (R41, R103, R108, R133, R139, R146, R153, R155) -/

/-- Every counter of the part stays within its range, and the log within its capacity. -/
structure CounterInv (s : State) : Prop where
  log : s.audit.log.length ≤ 32
  entry : s.audit.entryCounter ≤ 4294967295
  generation : s.audit.generation ≤ 4294967295
  opened : s.sched.openCounter ≤ 4294967295
  activated : s.sched.activationCounter ≤ 4294967295
  stray : ∀ f, s.station.fault = some f → f.strayCount ≤ 255
  waited : ∀ p r, s.stores.get p = some r → r.waited.getD 0 ≤ 65535
  invalid : ∀ g grp, s.groups.get g = some grp → grp.invalidCount ≤ 4
  deviant : ∀ g grp, s.groups.get g = some grp → grp.deviant ≤ 3
  change : ∀ g grp, s.groups.get g = some grp → grp.changeNo ≤ 65535

/-! ## The balance profiles (R7, R41, R43) -/

/-- A geometry that R4 accepts. -/
structure Geometry.Sound (geo : Geometry) : Prop where
  carriers : 12 ≤ geo.carriers ∧ geo.carriers ≤ 48 ∧ geo.carriers % 2 = 0
  bend : 1 ≤ geo.bend ∧ geo.bend ≤ 4 ∧ 2 ≤ runLength geo.carriers geo.bend
  port : geo.port < runLength geo.carriers geo.bend

/-- A profile of C values whose value half a loop on is the negative (R43). -/
def HalfLoop (c : Nat) (e : List Int) : Prop :=
  e.length = c ∧ ∀ k, k < c → e.getD ((k + c / 2) % c) 0 = -(e.getD k 0)

/-- Sound profiles: the members of a group are CONFIGURED with one sound geometry (R4, R7), each profile has C values that change
sign half a loop on (R43), an OFFLINE group has zero profiles (R41), and a carousel is a member of at most one group (R6). -/
structure BalanceInv (s : State) : Prop where
  disjoint : ∀ g h a b x, s.groups.get g = some a → s.groups.get h = some b → x ∈ a.members → x ∈ b.members → g = h
  configured : ∀ x cfg, (s.carousels.get x).config = some cfg → cfg.geometry.Sound
  members : ∀ g grp, s.groups.get g = some grp → grp.members ≠ [] ∧ ∀ x, x ∈ grp.members →
    (s.carousels.get x).config ≠ none ∧ s.geometryOf x = s.geometry g
  effective : ∀ g grp, s.groups.get g = some grp → HalfLoop (s.geometry g).carriers grp.effective
  planned : ∀ g grp, s.groups.get g = some grp → HalfLoop (s.geometry g).carriers grp.planned
  offline : ∀ g grp, s.groups.get g = some grp → grp.state = .offline →
    grp.effective = zeroProfile (s.geometry g).carriers ∧ grp.planned = zeroProfile (s.geometry g).carriers

/-! ## The slots, the tags and the definition of the profiles (R30 to R36, R42) -/

/-- A sound slot record of a COMMITTED map: content, condition and reservation agree (R30), and the counted mass is the one of
its combination (R31). -/
structure SlotSound (sl : Slot) : Prop where
  free : sl.reservation = .none → sl.content = .empty → sl.counted = 0
  stocked : sl.reservation = .none → sl.content = .held → sl.condition ≠ .blocked → sl.counted = sl.recorded
  incoming : ∀ p t m, sl.reservation = .inbound p t m .planned → sl.content = .empty ∧ sl.counted = 0
  inserting : ∀ p t m, sl.reservation = .inbound p t m .started → sl.content = .empty ∧ sl.counted = m
  outgoing : ∀ id seq, sl.reservation = .outbound id seq .planned → sl.content = .held ∧ sl.counted = sl.recorded
  extracting : ∀ id seq, sl.reservation = .outbound id seq .started → sl.content = .held ∧ sl.counted = 0
  trusted : sl.condition ≠ .clear → sl.reservation = .none
  blocked : sl.condition = .blocked → sl.content = .held ∧
    ((sl.finding = some .insertJam ∧ sl.counted = sl.recorded) ∨ (sl.finding = some .extractJam ∧ sl.counted = 0))

/-- Sound stock: the slots of COMMITTED maps are sound; a carousel out of service has no reservation and counts what it
records; the maps of a group in service are COMMITTED (R11, R24); infeed work belongs to a WEIGHING store of a carousel in service
(R96); a transfer under way holds its slot's reservation, STARTED, and an insertion its store INSERTING (R32, R33, R83, R85). -/
structure StockSound (s : State) : Prop where
  members : ∀ g grp, s.groups.get g = some grp → grp.members.Nodup
  slots : ∀ x, (s.carousels.get x).map.state = .committed → ∀ e ∈ (s.carousels.get x).map.walk, SlotSound e.2.2
  quiet : ∀ x, s.serviceGroup x = none → ∀ e ∈ (s.carousels.get x).map.walk,
    e.2.2.reservation = .none ∧ e.2.2.counted = e.2.2.recorded
  serving : ∀ x, s.serviceGroup x ≠ none → (s.carousels.get x).map.state = .committed
  infeed : ∀ p, (s.ports.get p).infeed ≠ none → s.serviceGroup p ≠ none ∧ ∃ r, s.stores.get p = some r ∧ r.state = .weighing
  store : ∀ p, (s.ports.get p).shuttle = .inserting → ∃ r, s.stores.get p = some r ∧ r.state = .inserting
  inserting : ∀ p j, (s.ports.get p).shuttle = .inserting → (s.ports.get p).job = some j →
    ∃ sl q t m, s.slot? p j.carrier j.level = some sl ∧ sl.reservation = .inbound q t m .started
  extracting : ∀ p j, (s.ports.get p).shuttle = .extracting → (s.ports.get p).job = some j →
    ∃ sl id seq, s.slot? p j.carrier j.level = some sl ∧ sl.reservation = .outbound id seq .started

/-- Every tag held, once for each place that holds it: HELD slots of COMMITTED maps, open store records, shuttle load records,
the collector, the lane stacks and the reject list (R35). -/
def State.heldTags (s : State) : List Id32 :=
  (allIndices.flatMap fun x =>
    if (s.carousels.get x).map.state = .committed then
      ((s.carousels.get x).map.walk.filter fun e => e.2.2.content == .held).map fun e => e.2.2.tag
    else [])
  ++ (allIndices.filterMap fun p => ((s.stores.get p).filter StoreRecord.isOpen).map StoreRecord.tag)
  ++ (allIndices.filterMap fun p => (s.ports.get p).loadRec.map LoadRecord.tag)
  ++ s.station.collector.map CollectorItem.tag
  ++ (allIndices.flatMap fun i => (s.station.lanes.get i).stack.map LaneItem.tag)
  ++ s.station.reject.map RejectItem.tag

/-- The tag law: a tag is held in at most one place (R35). -/
def TagLaw (s : State) : Prop := s.heldTags.Nodup

/-- The mass that the planned profile counts for a slot: its counted mass, with a PLANNED incoming mass and without a PLANNED
outgoing one (R42). -/
def Slot.plannedMass (sl : Slot) : Int :=
  match sl.reservation with
  | .inbound _ _ m .planned => (sl.counted : Int) + m
  | .outbound _ _ .planned => (sl.counted : Int) - sl.recorded
  | _ => sl.counted

/-- The profiles of a group that is not OFFLINE are the sums of R42 at every offset. -/
def ProfilesDefined (s : State) : Prop :=
  ∀ g grp, s.groups.get g = some grp → grp.state ≠ .offline → ∀ k, k < (s.geometry g).carriers →
    grp.effective.getD k 0 = slotMoment s g (fun sl => (sl.counted : Int)) k
    ∧ grp.planned.getD k 0 = slotMoment s g Slot.plannedMass k

end Sys2Proof.Machine
end

