-- ==== Sys2Proof/Certificates/Slice0/Obligations.lean ====
section
/-! DEFINITION. The statements for the provers, block by block in the order of spec/. `s.heard` is the state in which a frame is
judged (`FramesOutsideRequests` says what it is), `replying` and `refusing` fix the ACK or NAK that then waits, and `giveTurns`
is what the scheduler does after a command: `TurnOffersBestTask` and `TurnStartsPromotesAndChooses` say what that is, and the
theorem `turnCore_giveTurns` of Sys2Proof/Laws/Turns.lean bounds it. -/

open Sys2Proof Sys2Proof.Machine

/-! ## The queue, power-on and the straps -/

/-- The model's queue (log 1, log 2): a step runs the command at the front of the queue on the queue's rest, an empty queue
idles, and since no row of the table has bits, no word puts a command there. -/
def Obligations.StepRunsFrontCommand : Prop :=
  (∀ (c : Instr) (cs : List Instr) (s : State), s.pending = c :: cs → step s = exec c { s with pending := cs })
  ∧ (∀ s : State, s.pending = [] → step s = .next s)
  ∧ ∀ (s : State) (nbits w : Nat), s.withFetchWord nbits w = s

/-- R160, R166, R168, R169, R3, R23, R9, R75, R76, R94, R108, R124, R135, R137, R139, R146, R151, R62: POWER_ON leaves every
block in the power-on state of its chapter. The queue and the count of open choices are the model's own (log 37).

The state of the part as power comes on is sound in every way that the step keeps.

R159, R160: ADDRESS_SAMPLING, the first after power-on, fixes the address (16 × AS1 + 8 × AS0 + ⌊mean/128⌋, at most 31) and
the baud rate, turns the receiver on and starts the watchdog with its 2 s default. A second one does not arise and is not
acted on (log 4). -/
def Obligations.PowerOnAndSampling : Prop :=
  (∀ s : State, ∃ t : State, exec .powerOn s = .next t
     ∧ t.link.receiver = .off ∧ t.link.reply = .none ∧ t.link.mode = .normal ∧ t.link.flags = 0#13
     ∧ t.link.mask = BitVec.allOnes 13 ∧ t.link.wdCode = 2 ∧ t.link.wdTimer = none ∧ t.attnLow = false
     ∧ t.link.sampled = false ∧ t.startSlot = 0
     ∧ (∀ x : Index, (t.carousels.get x).config = none
         ∧ (t.carousels.get x).map = { state := .absent, carriers := [], finding := none })
     ∧ (∀ g : Index, t.groups.get g = none ∧ (t.channels.get g).run = false ∧ (t.channels.get g).dir = .forward
         ∧ (t.channels.get g).speed = .creep)
     ∧ (∀ p : Index, (t.ports.get p).shuttle = .faulted ∧ (t.ports.get p).fault = some .start
         ∧ (t.ports.get p).loadRec = none ∧ (t.ports.get p).insertOut = false ∧ (t.ports.get p).extractOut = false
         ∧ (t.ports.get p).releaseOut = false ∧ (t.ports.get p).awaitingRest = true ∧ (t.ports.get p).infeed = none
         ∧ (t.ports.get p).scan = none ∧ (t.ports.get p).job = none ∧ (t.ports.get p).transferTimer = none
         ∧ t.stores.get p = none)
     ∧ t.sched.orders = List.replicate 16 none ∧ t.sched.openCounter = 0 ∧ t.sched.activationCounter = 0
     ∧ t.sched.placedOrder = [] ∧ t.station.diversionTimer = none
     ∧ t.station.fault = none ∧ t.station.releasePort = none ∧ t.station.collector = [] ∧ t.station.paused = false
     ∧ t.station.drive = true ∧ t.station.diverter = .idle ∧ t.station.position = .reject ∧ t.station.send = false
     ∧ t.station.reject = []
     ∧ (∀ i : Index, t.station.lanes.get i = { state := .free, order := none, stack := [] })
     ∧ t.station.settings =
         { transferTimeout := 8, massTolerance := 10, storePatience := 60, laneCount := 4, high := 10, low := 6 }
     ∧ t.audit.generation = 0 ∧ (∀ x : Index, t.audit.tasks.get x = none) ∧ t.audit.log = []
     ∧ t.audit.entryCounter = 0 ∧ t.audit.engine = { measuring := none, last := 3 }
     ∧ t.pending = s.pending ∧ t.choices = s.choices)
  ∧ (LinkInv State.reset.link ∧ DriveInv State.reset ∧ PortInv State.reset ∧ StationInv State.reset.station
       ∧ BalanceInv State.reset ∧ CounterInv State.reset ∧ StockSound State.reset ∧ TagLaw State.reset
       ∧ ProfilesDefined State.reset)
  ∧ ∀ (as1 as0 br1 br0 : Bool) (conv : List (BitVec 10)) (s : State), conv.length = 32 →
      (s.link.sampled = true → exec (.addressSampling as1 as0 br1 br0 conv) s = .next s)
      ∧ (s.link.sampled = false → s.link.wdCode = 2 → ∃ n : Nat,
          exec (.addressSampling as1 as0 br1 br0 conv) s = .next (s.setLink { s.link with
            address := n, baud := BitVec.ofNat 2 (2 * br1.toNat + br0.toNat), sampled := true, receiver := .hunt,
            wdTimer := some 2000 })
          ∧ n ≤ 31 ∧ n = 16 * as1.toNat + 8 * as0.toNat + (conv.map BitVec.toNat).sum / 32 / 128)

/-! ## The line (R161 to R166, R172, R174) -/

/-- R160, R161: while the receiver is off every byte and every frame is lost. A gap of more than 5 ms within a frame puts it
back in HUNT.

R161, R164, R174 (log 10): the receiver takes the bytes of a frame one by one: a frame that has begun stands in IN_FRAME, and
its last byte makes it the frame that it is. A CRC mismatch, a LEN above 200 and a byte with a framing error discard it, and
in HUNT a byte other than SYNC is not acted on, nor is a SYNC with a framing error (log 41): the receiver is then in HUNT, a
waiting reply is dropped and the watchdog goes on. A frame command with more than 200 payload bytes is discarded so.

R162, R163, R164, R165, R166 (log 14: FRAME_NOT_ADDRESSED is judged by its own ADDR byte): a whole frame to the part's own
address is the request of its kind, and one to address 63 of the kinds PAUSE, CONTINUE and RESUME the broadcast. A frame for
another module, a reply, a broadcast of another kind and a broadcast of a length that its kind does not allow do no more than
put the receiver in HUNT, drop a waiting reply and restart a RUNNING watchdog with the timeout of its code. -/
def Obligations.FramesOutsideRequests : Prop :=
  (∀ s : State,
     (∀ taken : List Byte, s.link.receiver = .inFrame taken → exec .frameGapTimeout s = .next (s.setReceiver .hunt))
     ∧ ((∀ taken : List Byte, s.link.receiver ≠ .inFrame taken) → exec .frameGapTimeout s = .next s)
     ∧ (s.link.receiver = .off → (∀ bytes : List LineByte, exec (.invalidFrame bytes) s = .next s)
         ∧ ∀ c : Instr, isFrame c = true → exec c s = .next s))
  ∧ (∀ (s : State) (addr kind : Byte) (p frame : List Byte) (crc : BitVec 16) (clean : Byte → LineByte)
       (left : Receiver → State), s.Listens → s.link.receiver = .hunt → p.length ≤ 200 →
       clean = (fun b => { value := b, framingError := false }) →
       left = (fun r => s.setLink { s.heard.link with wdTimer := s.link.wdTimer, receiver := r }) →
       crc = crc16 ([addr, kind, BitVec.ofNat 8 p.length] ++ p) →
       frame = [0xA5#8, addr, kind, BitVec.ofNat 8 p.length] ++ p ++ [crc.extractLsb' 8 8, crc.extractLsb' 0 8] →
       exec (.invalidFrame (frame.map clean)) s = exec (.frameNotAddressed addr kind p) s
       ∧ (∀ n : Nat, 1 ≤ n → n < frame.length →
           exec (.invalidFrame ((frame.take n).map clean)) s = .next (left (.inFrame (frame.take n)))
           ∧ ∀ b : Byte, exec (.invalidFrame ((frame.take n).map clean ++ [{ value := b, framingError := true }])) s =
               .next (left .hunt))
       ∧ (∀ c1 c2 : Byte, (c1 ≠ crc.extractLsb' 8 8 ∨ c2 ≠ crc.extractLsb' 0 8) →
           exec (.invalidFrame (([0xA5#8, addr, kind, BitVec.ofNat 8 p.length] ++ p ++ [c1, c2]).map clean)) s =
             .next (left .hunt))
       ∧ (∀ len : Byte, 200 < len.toNat →
           exec (.invalidFrame ([0xA5#8, addr, kind, len].map clean)) s = .next (left .hunt))
       ∧ (∀ bs : List Byte, bs ≠ [] → (∀ b ∈ bs, b ≠ 0xA5#8) →
           exec (.invalidFrame (bs.map clean)) s = .next (left .hunt))
       ∧ exec (.invalidFrame [{ value := 0xA5#8, framingError := true }]) s = .next (left .hunt))
  ∧ (∀ (c : Instr) (p : List Byte) (s : State), framePayload c = some p → s.Listens → 200 < p.length →
       exec c s = .next (s.setLink { s.heard.link with wdTimer := s.link.wdTimer }))
  ∧ (∀ (addr kind : Byte) (p : List Byte) (s : State),
       (addr.toNat = s.link.address →
         (∀ c : Instr, addressedRequest c = some (kind, p) → exec (.frameNotAddressed addr kind p) s = exec c s)
         ∧ exec (.frameNotAddressed addr kind p) s = exec (.unknownKind kind p) s)
       ∧ (addr.toNat ≠ s.link.address → addr.toNat = 63 →
           exec (.frameNotAddressed addr 0x13#8 p) s = exec (.pause true p) s
           ∧ exec (.frameNotAddressed addr 0x14#8 p) s = exec (.cont true p) s
           ∧ exec (.frameNotAddressed addr 0x05#8 p) s = exec (.resume true p) s))
  ∧ (∀ (addr kind : Byte) (p : List Byte) (s : State), s.Listens → p.length ≤ 200 → addr.toNat ≠ s.link.address →
       (addr.toNat ≠ 63 ∨ (kind ≠ 0x13#8 ∧ kind ≠ 0x14#8 ∧ kind ≠ 0x05#8)
         ∨ ((kind = 0x13#8 ∨ kind = 0x14#8) ∧ p.length ≠ 1) ∨ (kind = 0x05#8 ∧ p.length ≠ 0)) →
       ∃ l : Link, exec (.frameNotAddressed addr kind p) s = .next (s.setLink l)
         ∧ s.heard = s.setLink l
         ∧ l.receiver = .hunt
         ∧ (l.reply = match s.link.reply with
             | .waiting _ => .none
             | r => r)
         ∧ (l.wdTimer = match s.link.wdTimer with
             | some _ => watchdogTimeout s.link.wdCode
             | none => none)
         ∧ l.address = s.link.address ∧ l.baud = s.link.baud ∧ l.sampled = s.link.sampled ∧ l.mode = s.link.mode
         ∧ l.flags = s.link.flags ∧ l.mask = s.link.mask ∧ l.wdCode = s.link.wdCode)

/-- R163: an addressed request of no kind of section 11.3 is answered with a NAK of UNKNOWN_KIND and detail 0xFF.

R163, R173: a request whose length the kind table does not allow is refused FORMAT with its length as detail; one of an
allowed length whose unused bits are not zero is refused RANGE with the number of that field. -/
def Obligations.LinkUnitRefuses : Prop :=
  (∀ (kind : Byte) (p : List Byte) (s : State), s.Listens → p.length ≤ 200 → kind.toNat ∉ kindCodes →
     exec (.unknownKind kind p) s = .next (s.heard.replying (kind ||| 0x80#8) [0x02#8, 0xFF#8]))
  ∧ ((∀ (c : Instr) (kind : Byte) (p : List Byte) (s : State), addressedRequest c = some (kind, p) → s.Listens →
       p.length ≤ 200 → ¬lengthAllowed kind p.length → exec c s = .next (s.heard.refusing kind .format p.length))
     ∧ (∀ (p : List Byte) (s : State), s.Listens →
         (p.length = 3 → 8192 ≤ wordAt p 1 → exec (.setLink p) s = .next (s.heard.refusing 0x03#8 .range 1))
         ∧ (p.length = 2 → 8192 ≤ wordAt p 0 → exec (.ackEvents p) s = .next (s.heard.refusing 0x04#8 .range 0))
         ∧ (p.length = 32 → 16 ≤ byteAt p 1 → exec (.setGroup p) s = .next (s.heard.refusing 0x11#8 .range 1))
         ∧ (p.length = 2 → ((byteAt p 0).testBit 7 ∨ (byteAt p 0).testBit 6 ∨ (byteAt p 0).testBit 3) →
             exec (.clearFaultGroup p) s = .next (s.heard.refusing 0x15#8 .range 0)
             ∧ exec (.clearFaultBalance p) s = .next (s.heard.refusing 0x15#8 .range 0)
             ∧ exec (.clearFaultPort p) s = .next (s.heard.refusing 0x15#8 .range 0)
             ∧ exec (.clearFaultStation p) s = .next (s.heard.refusing 0x15#8 .range 0))))

/-- A refused request changes nothing but the reply: whatever request is answered with a NAK, other than COMMISSION (whose
profiles R45 empties) and MAP_COMMIT (whose finding R26 records), the whole state is the heard one with that NAK waiting. -/
def Obligations.RefusalChangesNothing : Prop :=
  ∀ (c : Instr) (kind : Byte) (p : List Byte) (s t : State) (nak : List Byte), addressedRequest c = some (kind, p) →
    kind ≠ 0x12#8 → kind ≠ 0x22#8 → s.Listens → exec c s = .next t →
    t.link.reply = .waiting { kind := kind ||| 0x80#8, payload := nak } →
    t = s.heard.replying (kind ||| 0x80#8) nak

/-- R161, R164, R174: REPLY_SEND enables the driver and turns the receiver off; the frame sent is SYNC, the reply direction
with the address, KIND, LEN, the payload fixed before, and the CRC-16 of all but SYNC, high byte first. REPLY_COMPLETE and
REPLY_DROP end it (for the ACK of RESET ALL see `ResetAllResetsPart`). -/
def Obligations.ReplySentOrDropped : Prop :=
  ∀ (s : State) (r : Reply),
    (s.link.reply = .waiting r →
      ∃ crc : List Byte, crc.length = 2
        ∧ exec .replySend s = .next (s.setLink { s.link with
            reply := .sending r, receiver := .off,
            lineOut := [0xA5#8, BitVec.ofNat 8 (0x80 + s.link.address), r.kind, BitVec.ofNat 8 r.payload.length]
              ++ r.payload ++ crc })
        ∧ crc = [(crc16 ([BitVec.ofNat 8 (0x80 + s.link.address), r.kind, BitVec.ofNat 8 r.payload.length]
              ++ r.payload)).extractLsb' 8 8,
            (crc16 ([BitVec.ofNat 8 (0x80 + s.link.address), r.kind, BitVec.ofNat 8 r.payload.length]
              ++ r.payload)).extractLsb' 0 8])
    ∧ (s.link.reply = .sending r → r.kind ≠ 0x06#8 →
        exec .replyComplete s = .next (s.setLink { s.link with reply := .none, lineOut := [], receiver := .hunt }))
    ∧ (s.link.reply = .waiting r → r.kind ≠ 0x06#8 → ∀ b : Byte,
        exec (.replyDrop b) s = .next (s.setLink { s.link with
          reply := .none, lineOut := [], receiver := if b = 0xA5#8 then .inFrame [b] else .hunt }))

/-- R172: RESET ALL is accepted in every state with an empty ACK. When that ACK has been sent, or in the step in which it is
dropped, by a byte or by a whole frame, which is lost, the part takes the reset: every block its power-on state, the address
and baud rate kept, the receiver in HUNT and the watchdog RUNNING with code 2. The start frame keeps running. What the plant's
inputs were last taken as stays (log 9).

R161, R172 (log 10): in a run of bytes whose first drops that ACK, the frame which that byte begins is lost, and what follows
it is taken from HUNT by the part as reset. -/
def Obligations.ResetAllResetsPart : Prop :=
  (∀ s : State, s.Listens → exec (.resetAll []) s = .next (s.heard.replying 0x06#8 []))
  ∧ (∀ (s : State) (data : List Byte), s.link.reply = .waiting { kind := 0x06#8, payload := data } →
       s.link.receiver ≠ .off → ∃ t : State, ∀ bytes : List LineByte,
         (∀ b : LineByte, exec (.invalidFrame [b]) s = .next t
           ∧ (b.value ≠ 0xA5#8 ∨ b.framingError = true →
             exec (.invalidFrame (b :: bytes)) s = exec (.invalidFrame bytes) t))
         ∧ ∀ (addr kind c1 c2 : Byte) (p : List Byte) (frame : List LineByte), p.length ≤ 200 →
             frame = ([0xA5#8, addr, kind, BitVec.ofNat 8 p.length] ++ p ++ [c1, c2]).map (fun b =>
               { value := b, framingError := false }) →
             exec (.invalidFrame (frame ++ bytes)) s = exec (.invalidFrame bytes) t
             ∧ ∀ n : Nat, 1 ≤ n → n < frame.length → exec (.invalidFrame (frame.take n)) s = .next t)
  ∧ ∀ (s t : State) (data : List Byte),
      ((s.link.reply = .sending { kind := 0x06#8, payload := data } ∧ exec .replyComplete s = .next t)
        ∨ (s.link.reply = .waiting { kind := 0x06#8, payload := data }
            ∧ ((∃ b : Byte, exec (.replyDrop b) s = .next t)
              ∨ (s.link.receiver ≠ .off ∧ ∃ b : LineByte, exec (.invalidFrame [b]) s = .next t)
              ∨ (s.link.receiver ≠ .off ∧ ∃ c : Instr, isFrame c = true ∧ exec c s = .next t)))) →
      t.link = { address := s.link.address, baud := s.link.baud, sampled := true, receiver := .hunt, reply := .none,
                 lineOut := [], mode := .normal, flags := 0#13, mask := BitVec.allOnes 13, wdCode := 2,
                 wdTimer := some 2000 }
      ∧ t.carousels = State.reset.carousels ∧ t.groups = State.reset.groups ∧ t.stores = State.reset.stores
      ∧ t.sched = State.reset.sched ∧ t.station = State.reset.station ∧ t.audit = State.reset.audit
      ∧ t.startSlot = s.startSlot
      ∧ (∀ g : Index, t.channels.get g =
          { run := false, dir := .forward, speed := .creep, dflt := (s.channels.get g).dflt })
      ∧ (∀ p : Index, t.ports.get p = { Port.powerOn with
          home := (s.ports.get p).home, extended := (s.ports.get p).extended, load := (s.ports.get p).load,
          presence := (s.ports.get p).presence })
      ∧ t.pending = s.pending ∧ t.choices = s.choices

/-! ## The link unit's requests (R166 to R171) -/

/-- R169: an accepted SET_LINK replaces the mask and the code; in NORMAL the watchdog is RUNNING with the new timeout or, with
code 7, STOPPED; in HOLD it stays as it is. A code of 6 or above 7 is refused RANGE with detail 0.

R168, R169: an accepted ACK_EVENTS clears the named flags and no other, answers all 13 flags as they then stand, and ATTN is
low exactly while a flag is both set and enabled. -/
def Obligations.LinkSettingsAndFlags : Prop :=
  (∀ (p : List Byte) (s : State), s.Listens → p.length = 3 → wordAt p 1 < 8192 →
     ((byteAt p 0 = 6 ∨ 7 < byteAt p 0) → exec (.setLink p) s = .next (s.heard.refusing 0x03#8 .range 0))
     ∧ ((byteAt p 0 ≤ 5 ∨ byteAt p 0 = 7) →
       exec (.setLink p) s = .next ((s.heard.setLink { s.heard.link with
         mask := BitVec.ofNat 13 (wordAt p 1), wdCode := byteAt p 0,
         wdTimer := match s.link.mode with
           | .normal => if byteAt p 0 = 7 then none else some (500 * 2 ^ byteAt p 0)
           | .hold => s.heard.link.wdTimer }).replying 0x03#8 [])))
  ∧ (∀ (p : List Byte) (s : State), s.Listens → p.length = 2 → wordAt p 0 < 8192 → ∃ flags : BitVec 13,
       exec (.ackEvents p) s = .next ((s.heard.setLink { s.heard.link with flags := flags }).replying 0x04#8
         [BitVec.ofNat 8 flags.toNat, BitVec.ofNat 8 (flags.toNat / 256)])
       ∧ (∀ e : Event, flags.getLsbD (eventBit e) = (s.flagSet e && !(wordAt p 0).testBit (eventBit e)))
       ∧ (s.link.sampled = true → ∀ t : State, exec (.ackEvents p) s = .next t →
           (t.attnLow = true ↔ ∃ e : Event, t.flagSet e = true ∧ s.link.mask.getLsbD (eventBit e) = true)))

/-- R167, R165, R116: a RESUME in HOLD, addressed or broadcast, puts the mode NORMAL and the watchdog RUNNING with its code
unless that is 7, and gives every group's scheduler its turn (log 21: whatever the group's state); in NORMAL it changes
nothing. The addressed one answers the mode before. -/
def Obligations.ResumeEndsHold : Prop :=
  ∀ (s : State) (b : Bool), s.Listens →
    ∃ u : State,
      (u = match s.link.mode with
        | .normal => s.heard
        | .hold =>
          let n := s.heard.setLink { s.heard.link with
            mode := .normal, wdTimer := watchdogTimeout s.link.wdCode }
          giveTurns allIndices n n)
      ∧ exec (.resume b []) s = .next (if b then u else u.replying 0x05#8
          [match s.link.mode with
            | .normal => 0#8
            | .hold => 1#8])

/-- R12, R67, R68, R166, R167: on expiry of a RUNNING watchdog the mode is HOLD, the flag HOLD is set and the watchdog
STOPPED; an IDLE group empties CURRENT and NEXT, a travelling move is to stop at its next mark, a settling one loses NEXT, a
referencing run drops RUN and begins again, and every other group stays as it is. Orders, stores, station and audit stay, but
for the measurement engine, which follows RUN once every line has fallen (R151, log 48). -/
def Obligations.WatchdogExpiryEntersHold : Prop :=
  ∀ s : State, s.link.wdTimer.isSome = true → s.link.sampled = true →
    ∃ t : State, exec .watchdogExpiry s = .next t
      ∧ t.link = { s.link with mode := .hold, wdTimer := none, flags := s.link.flags ||| 0x1000#13 }
      ∧ t.carousels = s.carousels ∧ t.ports = s.ports ∧ t.stores = s.stores ∧ t.sched = s.sched ∧ t.station = s.station
      ∧ t.audit.generation = s.audit.generation ∧ t.audit.tasks = s.audit.tasks ∧ t.audit.log = s.audit.log
      ∧ t.audit.entryCounter = s.audit.entryCounter
      ∧ t.audit.engine = (followRun { s with channels := t.channels }).audit.engine
      ∧ t.startSlot = s.startSlot ∧ t.choices = s.choices ∧ t.pending = s.pending
      ∧ ∀ g : Index,
          (s.groups.get g = none → t.groups.get g = none ∧ t.channels.get g = s.channels.get g)
          ∧ ∀ grp : Group, s.groups.get g = some grp →
            (grp.state = .idle → t.groups.get g = some { grp with current := none, next := none })
            ∧ (grp.state = .moving → grp.current = none → t.groups.get g = some grp)
            ∧ (grp.state = .moving → ∀ m : Move, grp.current = some m →
                (m.phase = .travel → t.groups.get g = some { grp with current := some { m with holdStop := true } })
                ∧ (m.phase = .settling → t.groups.get g = some { grp with next := none }))
            ∧ (grp.state = .referencing → (s.channels.get g).run = true →
                t.groups.get g = some { grp with markCount := 0, stallTimer := none }
                ∧ t.channels.get g = { s.channels.get g with run := false, speed := .creep })
            ∧ ((grp.state = .referencing ∧ (s.channels.get g).run = false) ∨ grp.state = .offline ∨ grp.state = .paused
                ∨ grp.state = .faulted → t.groups.get g = some grp)
            ∧ (grp.state ≠ .referencing → t.channels.get g = s.channels.get g)

/-- R28, R40, R58, R106, R123, R138, R150, R170, R171: the requests that only read answer at once, and nothing changes but the
reply that waits. The replies are the records' bytes of chapter 11, which `PayloadsLaidOut` gives field by field (the order of
a task's carriers: log 26; an absent short indicator: log 39; an absent CURRENT: log 40; the release port: log 49).

R28, R40, R58, R150, R175: their refusals, in order: RANGE 0 for an index above 3, STATE 0xFF for an ABSENT map, then RANGE
with the field for a carrier, level, offset or count out of range. -/
def Obligations.ReadsChangeNothing : Prop :=
  ∀ (s : State), s.Listens →
    exec (.ident []) s = .next (s.heard.replying 0x01#8
      ([0x71#8, 0x0C#8, 0x50#8, 0x0A#8, 1#8, BitVec.ofNat 8 s.link.address, s.link.baud.setWidth 8]
        ++ [4#8, 48#8, 6#8, 4#8, 16#8, 8#8, 12#8, 4#8, 8#8, 8#8, 32#8, 200#8]))
    ∧ exec (.status []) s = .next (s.heard.replying 0x02#8 (statusBytes s.heard))
    ∧ (∀ (p : List Byte) (g : Index) (grp : Group), p.length = 3 → byteAt p 0 = g.val → s.groups.get g = some grp →
        ((s.geometry g).carriers ≤ byteAt p 1 → exec (.balanceRead p) s = .next (s.heard.refusing 0x17#8 .range 1))
        ∧ (byteAt p 1 < (s.geometry g).carriers →
            (byteAt p 2 = 0 ∨ 16 < byteAt p 2 → exec (.balanceRead p) s = .next (s.heard.refusing 0x17#8 .range 2))
            ∧ (1 ≤ byteAt p 2 → byteAt p 2 ≤ 16 → exec (.balanceRead p) s =
                .next (s.heard.replying 0x17#8 (balanceBytes s g grp (byteAt p 1) (byteAt p 2))))))
    ∧ (∀ p : List Byte, 4 ≤ byteAt p 0 →
        (p.length = 4 → exec (.mapRead p) s = .next (s.heard.refusing 0x23#8 .range 0))
        ∧ (p.length = 3 → exec (.slotQuery p) s = .next (s.heard.refusing 0x24#8 .range 0))
        ∧ (p.length = 1 → exec (.auditQuery p) s = .next (s.heard.refusing 0x4A#8 .range 0)))
    ∧ (∀ (p : List Byte) (x : Index), byteAt p 0 = x.val →
        ((s.carousels.get x).map.state = .absent →
          (p.length = 4 → exec (.mapRead p) s = .next (s.heard.refusing 0x23#8 .state 0xFF))
          ∧ (p.length = 3 → exec (.slotQuery p) s = .next (s.heard.refusing 0x24#8 .state 0xFF)))
        ∧ ((s.carousels.get x).map.state ≠ .absent →
            (s.carriersOf x ≤ byteAt p 1 →
              (p.length = 4 → exec (.mapRead p) s = .next (s.heard.refusing 0x23#8 .range 1))
              ∧ (p.length = 3 → exec (.slotQuery p) s = .next (s.heard.refusing 0x24#8 .range 1)))
            ∧ (byteAt p 1 < s.carriersOf x → s.levelsOf x ≤ byteAt p 2 →
                (p.length = 4 → exec (.mapRead p) s = .next (s.heard.refusing 0x23#8 .range 2))
                ∧ (p.length = 3 → exec (.slotQuery p) s = .next (s.heard.refusing 0x24#8 .range 2)))
            ∧ (byteAt p 1 < s.carriersOf x → byteAt p 2 < s.levelsOf x → p.length = 4 →
                byteAt p 3 = 0 ∨ 12 < byteAt p 3 → exec (.mapRead p) s = .next (s.heard.refusing 0x23#8 .range 3))))
    ∧ (∀ (p : List Byte) (x : Index), p.length = 4 → byteAt p 0 = x.val → (s.carousels.get x).map.state ≠ .absent →
        byteAt p 1 < s.carriersOf x → byteAt p 2 < s.levelsOf x → 1 ≤ byteAt p 3 → byteAt p 3 ≤ 12 →
        ∃ data : List Byte, exec (.mapRead p) s = .next (s.heard.replying 0x23#8 data)
          ∧ data = u8 (s.carousels.get x).map.state.code ++ findingBytes (s.carousels.get x).map.finding
              ++ u8 (min (byteAt p 3) ((s.carousels.get x).map.walk.length - (byteAt p 1 * s.levelsOf x + byteAt p 2)))
              ++ (((s.carousels.get x).map.walk.drop (byteAt p 1 * s.levelsOf x + byteAt p 2)).take
                  (byteAt p 3)).flatMap fun (c, l, sl) => imageBytes c l sl)
    ∧ (∀ (p : List Byte) (x : Index) (sl : Slot), p.length = 3 → byteAt p 0 = x.val →
        (s.carousels.get x).map.state ≠ .absent → byteAt p 1 < s.carriersOf x → byteAt p 2 < s.levelsOf x →
        s.slot? x (byteAt p 1) (byteAt p 2) = some sl →
        exec (.slotQuery p) s = .next (s.heard.replying 0x24#8
          (slotBytes (s.carousels.get x).map.state (byteAt p 1) (byteAt p 2) sl)))
    ∧ (∀ (p : List Byte) (i : Nat) (o : Order), p.length = 4 → s.findOrder (idAt p 0) = some (i, o) →
        exec (.orderQuery p) s = .next (s.heard.replying 0x3A#8 (orderBytes i o)))
    ∧ (∀ p : List Byte, p.length = 4 → s.findOrder (idAt p 0) = none →
        exec (.orderQuery p) s = .next (s.heard.refusing 0x3A#8 .notFound 0xFF))
    ∧ (exec (.stationQuery [0#8]) s = .next (s.heard.replying 0x42#8 (stationBytes s.station)))
    ∧ (∀ i : Index, exec (.stationQuery [BitVec.ofNat 8 (i.val + 1)]) s =
        .next (s.heard.replying 0x42#8 (laneBytes (s.station.lanes.get i))))
    ∧ (exec (.stationQuery [5#8]) s = .next (s.heard.replying 0x42#8 (rejectBytes s.station.reject)))
    ∧ (∀ b : Byte, 5 < b.toNat → exec (.stationQuery [b]) s = .next (s.heard.refusing 0x42#8 .range 0))
    ∧ (∀ x : Index, exec (.auditQuery [BitVec.ofNat 8 x.val]) s =
        .next (s.heard.replying 0x4A#8 (taskBytes (s.audit.tasks.get x))))

/-! ## Carousels and groups (R3 to R8, R11, R19) -/

/-- R4, R173: SET_CAROUSEL is refused RANGE at the first field that fails, with the field's index, and then judged against its
group: STATE with the carousel where that is in service, else CONFLICT at the first of C, b, P, Ep (fields 1, 2, 3, 6) that
differs from another member's.

R7, R173 (log 28): SET_GROUP is refused RANGE at the first field out of range, with its index, then RANGE 2, 3 or 4 where Lp >
Ld, Ls1 > Ls2 or Ls2 > Ld, then STATE 0xFF where the group is in service, then STATE or CONFLICT with the first member that is
not CONFIGURED, that is in service elsewhere, or whose geometry differs from the lowest member's.

R8, R19: a request that names a group is refused RANGE with detail 0 above 3, and NOT_FOUND with detail 0xFF where the group
does not exist. PAUSE and CONTINUE name all groups with 0xFF.

R11: the refusals of COMMISSION, in order. -/
def Obligations.GroupRequestsRefused : Prop :=
  (∀ (p : List Byte) (s : State), s.Listens → p.length = 21 →
     (∀ i : Nat, (∀ j, j < i → carouselFieldOk (readCarousel p) j) → ¬carouselFieldOk (readCarousel p) i →
       exec (.setCarousel p) s = .next (s.heard.refusing 0x10#8 .range i))
     ∧ ((∀ j, carouselFieldOk (readCarousel p) j) → ∀ x : Index, byteAt p 0 = x.val →
         ((s.serviceGroup x).isSome = true →
           exec (.setCarousel p) s = .next (s.heard.refusing 0x10#8 .state x.val))
         ∧ ((s.serviceGroup x).isSome = false →
             ((∃ y ∈ s.companions x, (s.geometryOf y).carriers ≠ (readCarousel p).carriers) →
               exec (.setCarousel p) s = .next (s.heard.refusing 0x10#8 .conflict 1))
             ∧ ((∀ y ∈ s.companions x, (s.geometryOf y).carriers = (readCarousel p).carriers) →
                 (∃ y ∈ s.companions x, (s.geometryOf y).bend ≠ (readCarousel p).bend) →
               exec (.setCarousel p) s = .next (s.heard.refusing 0x10#8 .conflict 2))
             ∧ ((∀ y ∈ s.companions x, (s.geometryOf y).carriers = (readCarousel p).carriers
                   ∧ (s.geometryOf y).bend = (readCarousel p).bend) →
                 (∃ y ∈ s.companions x, (s.geometryOf y).port ≠ (readCarousel p).port) →
               exec (.setCarousel p) s = .next (s.heard.refusing 0x10#8 .conflict 3))
             ∧ ((∀ y ∈ s.companions x, (s.geometryOf y).carriers = (readCarousel p).carriers
                   ∧ (s.geometryOf y).bend = (readCarousel p).bend ∧ (s.geometryOf y).port = (readCarousel p).port) →
                 (∃ y ∈ s.companions x, (s.geometryOf y).pulses ≠ (readCarousel p).pulses) →
               exec (.setCarousel p) s = .next (s.heard.refusing 0x10#8 .conflict 6)))))
  ∧ (∀ (p : List Byte) (s : State) (r : GroupRequest), s.Listens → p.length = 32 → readGroup p = r → r.members < 16 →
       (∀ i : Nat, (∀ j, j < i → groupFieldOk r j) → ¬groupFieldOk r i →
         exec (.setGroup p) s = .next (s.heard.refusing 0x11#8 .range i))
       ∧ ((∀ j, groupFieldOk r j) →
           (r.ld < r.lp → exec (.setGroup p) s = .next (s.heard.refusing 0x11#8 .range 2))
           ∧ (r.lp ≤ r.ld → r.ls2 < r.ls1 → exec (.setGroup p) s = .next (s.heard.refusing 0x11#8 .range 3))
           ∧ (r.lp ≤ r.ld → r.ls1 ≤ r.ls2 → r.ld < r.ls2 →
               exec (.setGroup p) s = .next (s.heard.refusing 0x11#8 .range 4))
           ∧ (r.lp ≤ r.ld → r.ls1 ≤ r.ls2 → r.ls2 ≤ r.ld → ∀ g : Index, r.group = g.val →
               (∀ grp, s.groups.get g = some grp → grp.state ≠ .offline →
                 exec (.setGroup p) s = .next (s.heard.refusing 0x11#8 .state 0xFF))
               ∧ ((∀ grp, s.groups.get g = some grp → grp.state = .offline) →
                   (∀ x, (r.memberList.find? fun y => (s.carousels.get y).config.isNone) = some x →
                     exec (.setGroup p) s = .next (s.heard.refusing 0x11#8 .state x.val))
                   ∧ ((∀ y ∈ r.memberList, (s.carousels.get y).config ≠ none) →
                       (∀ x, (r.memberList.find? fun y => (s.serviceGroup y).isSome && s.groupOf y != some g) = some x →
                         exec (.setGroup p) s = .next (s.heard.refusing 0x11#8 .state x.val))
                       ∧ ((∀ y ∈ r.memberList, s.serviceGroup y = none ∨ s.groupOf y = some g) → ∀ x lowest,
                           r.memberList.head? = some lowest →
                           (r.memberList.find? fun y => s.geometryOf y != s.geometryOf lowest) = some x →
                           exec (.setGroup p) s = .next (s.heard.refusing 0x11#8 .conflict x.val)))))))
  ∧ (∀ (n : Nat) (p q : List Byte) (s : State), s.Listens → n < 255 → p = [BitVec.ofNat 8 n] →
       q = [BitVec.ofNat 8 n, 0#8, 1#8] →
       (4 ≤ n →
         exec (.commission p) s = .next (s.heard.refusing 0x12#8 .range 0)
         ∧ exec (.pause false p) s = .next (s.heard.refusing 0x13#8 .range 0)
         ∧ exec (.cont false p) s = .next (s.heard.refusing 0x14#8 .range 0)
         ∧ exec (.resetGroup p) s = .next (s.heard.refusing 0x16#8 .range 0)
         ∧ exec (.balanceRead q) s = .next (s.heard.refusing 0x17#8 .range 0))
       ∧ ∀ g : Index, n = g.val → s.groups.get g = none →
         exec (.commission p) s = .next (s.heard.refusing 0x12#8 .notFound 0xFF)
         ∧ exec (.pause false p) s = .next (s.heard.refusing 0x13#8 .notFound 0xFF)
         ∧ exec (.cont false p) s = .next (s.heard.refusing 0x14#8 .notFound 0xFF)
         ∧ exec (.resetGroup p) s = .next (s.heard.refusing 0x16#8 .notFound 0xFF)
         ∧ exec (.balanceRead q) s = .next (s.heard.refusing 0x17#8 .notFound 0xFF)
         ∧ exec (.clearFaultGroup [BitVec.ofNat 8 n, 0#8]) s = .next (s.heard.refusing 0x15#8 .notFound 0xFF)
         ∧ exec (.clearFaultBalance [BitVec.ofNat 8 n, 1#8]) s = .next (s.heard.refusing 0x15#8 .notFound 0xFF))
  ∧ (∀ (s : State) (g : Index) (grp : Group), s.Listens → s.groups.get g = some grp →
       (grp.state ≠ .offline →
         exec (.commission [BitVec.ofNat 8 g.val]) s = .next (s.heard.refusing 0x12#8 .state 0xFF))
       ∧ (grp.state = .offline →
           (∀ x, (grp.members.find? fun y => (s.carousels.get y).map.state != .committed) = some x →
             exec (.commission [BitVec.ofNat 8 g.val]) s = .next (s.heard.refusing 0x12#8 .state x.val))
           ∧ ((∀ y ∈ grp.members, (s.carousels.get y).map.state = .committed) →
               (∀ x, (grp.members.find? fun y => !(s.ports.get y).home || (s.ports.get y).load
                   || (s.ports.get y).shuttle == .faulted) = some x →
                 exec (.commission [BitVec.ofNat 8 g.val]) s = .next (s.heard.refusing 0x12#8 .state x.val))
               ∧ ((∀ y ∈ grp.members, (s.ports.get y).home = true ∧ (s.ports.get y).load = false
                     ∧ (s.ports.get y).shuttle ≠ .faulted) → s.link.mode = .hold →
                   exec (.commission [BitVec.ofNat 8 g.val]) s = .next (s.heard.refusing 0x12#8 .notNormal 0xFF)))))

/-- R3, R5, R14, R41: an accepted SET_CAROUSEL makes the carousel CONFIGURED with the request's values, keeps, reopens or
discards its map by the table of R5 (the commit finding becomes absent, log 16), and empties the profiles of its group when C
changes. Nothing else changes. -/
def Obligations.SetCarouselConfigures : Prop :=
  ∀ (p : List Byte) (s : State) (x : Index), s.Listens → p.length = 21 → byteAt p 0 = x.val →
    (∀ j, carouselFieldOk (readCarousel p) j) → s.serviceGroup x = none →
    (∀ y ∈ s.companions x, s.geometryOf y =
      { carriers := byteAt p 1, bend := byteAt p 2, port := byteAt p 3, pulses := wordAt p 7 }) →
    ∃ (m : SlotMap) (gs : Quad (Option Group)) (cfg : CarouselConfig),
      cfg = { carriers := byteAt p 1, bend := byteAt p 2, port := byteAt p 3, levels := byteAt p 4,
              carrierLimit := wordAt p 5, pulses := wordAt p 7,
              levelLimits := (List.range (byteAt p 4)).map fun l => wordAt p (9 + 2 * l) }
      ∧ exec (.setCarousel p) s = .next (State.replying { s.heard with
          carousels := s.carousels.set x { config := some cfg, map := m }
          groups := gs } 0x10#8 [])
      ∧ m.finding = none
      ∧ ((s.carousels.get x).config = none → m.state = .absent ∧ m.carriers = [])
      ∧ (∀ old, (s.carousels.get x).config = some old →
          (old.carriers ≠ cfg.carriers ∨ old.levels ≠ cfg.levels → m.state = .absent ∧ m.carriers = [])
          ∧ (old.carriers = cfg.carriers → old.levels = cfg.levels → old ≠ cfg →
              m.carriers = (s.carousels.get x).map.carriers
              ∧ ((s.carousels.get x).map.state = .committed → m.state = .opened)
              ∧ ((s.carousels.get x).map.state ≠ .committed → m.state = (s.carousels.get x).map.state))
          ∧ (old = cfg → m.carriers = (s.carousels.get x).map.carriers ∧ m.state = (s.carousels.get x).map.state)
          ∧ (old.carriers = cfg.carriers → gs = s.groups)
          ∧ (old.carriers ≠ cfg.carriers → ∀ (g : Index) (grp : Group), s.groupOf x = some g → s.groups.get g = some grp →
              gs = s.groups.set g (some { grp with
                effective := List.replicate cfg.carriers 0, planned := List.replicate cfg.carriers 0, changeNo := 0,
                revolution := 0 })))
      ∧ ((s.groupOf x = none ∨ (s.carousels.get x).config = none) → gs = s.groups)

/-- R8: an accepted SET_GROUP makes the group exist with the request's record, OFFLINE, k invalid, DIR forward, cause NONE,
both move slots empty and both profiles zero; its carriers per revolution stay only where the members do. Each other group
loses the members taken, with its carriers per revolution then 0, and ceases to exist when none is left. -/
def Obligations.SetGroupDefines : Prop :=
  ∀ (p : List Byte) (s : State) (r : GroupRequest) (g lowest : Index) (cfg : CarouselConfig), s.Listens → p.length = 32 →
    readGroup p = r → r.members < 16 → r.group = g.val → (∀ j, groupFieldOk r j) → r.lp ≤ r.ld → r.ls1 ≤ r.ls2 →
    r.ls2 ≤ r.ld → (∀ grp, s.groups.get g = some grp → grp.state = .offline) →
    r.memberList.head? = some lowest → (s.carousels.get lowest).config = some cfg →
    (∀ y ∈ r.memberList, (s.carousels.get y).config ≠ none ∧ (s.serviceGroup y = none ∨ s.groupOf y = some g)
      ∧ s.geometryOf y = cfg.geometry) →
    ∃ (gs : Quad (Option Group)) (new : Group),
      exec (.setGroup p) s = .next (State.replying { s.heard with
        groups := gs
        channels := s.channels.set g { s.channels.get g with dir := .forward } } 0x11#8 [])
      ∧ gs.get g = some new
      ∧ new.members = r.memberList ∧ new.state = .offline ∧ new.k = none ∧ new.cause = .none ∧ new.current = none
      ∧ new.next = none ∧ new.pausePending = false ∧ new.suspect = false ∧ new.deviant = 0
      ∧ new.effective = List.replicate cfg.carriers 0 ∧ new.planned = List.replicate cfg.carriers 0 ∧ new.changeNo = 0
      ∧ new.params = { lp := r.lp, ls1 := r.ls1, ls2 := r.ls2, ld := r.ld, friction := r.friction,
                       fullScale := r.fullScale, tolerance := r.tolerance, stallTime := r.stallTime,
                       autoAudit := r.autoAudit == 1 }
      ∧ (∀ old, s.groups.get g = some old → old.members = r.memberList → new.revolution = old.revolution)
      ∧ ((∀ old, s.groups.get g = some old → old.members ≠ r.memberList) → new.revolution = 0)
      ∧ ∀ h : Index, h ≠ g →
          (s.groups.get h = none → gs.get h = none)
          ∧ ∀ grp, s.groups.get h = some grp →
            ((∀ x ∈ grp.members, x ∉ r.memberList) → gs.get h = some grp)
            ∧ ((∀ x ∈ grp.members, x ∈ r.memberList) → grp.members ≠ [] → gs.get h = none)
            ∧ ((∃ x ∈ grp.members, x ∈ r.memberList) → (∃ x ∈ grp.members, x ∉ r.memberList) →
                gs.get h = some { grp with
                  members := grp.members.filter fun x => !r.memberList.contains x, revolution := 0 })

/-! ## COMMISSION, PAUSE, CONTINUE, CLEAR_FAULT and RESET GROUP (R11, R17 to R22, R45, R69, R92, R134, R158) -/

/-- R11, R42, R45: COMMISSION of an OFFLINE group whose maps are COMMITTED and whose ports are at rest computes both profiles
from the HELD slots; with a peak of at most Ld the group enters REFERENCING with them (and faults at once where DFLT is
active, R17), else it stays OFFLINE with zero profiles and the answer is BALANCE 0xFF. -/
def Obligations.CommissionComputesProfiles : Prop :=
  ∀ (s : State) (g : Index) (grp : Group), s.Listens → s.groups.get g = some grp → grp.state = .offline →
    (∀ x ∈ grp.members, (s.carousels.get x).map.state = .committed ∧ (s.ports.get x).home = true
      ∧ (s.ports.get x).load = false ∧ (s.ports.get x).shuttle ≠ .faulted) →
    s.link.mode = .normal → ∃ e : List Int,
      e.length = (s.geometry g).carriers ∧ (∀ k, k < (s.geometry g).carriers → e.getD k 0 = heldMoment s g k)
      ∧ ((∃ v ∈ e, grp.params.ld < v.natAbs) →
          exec (.commission [BitVec.ofNat 8 g.val]) s = .next ((s.heard.setGroup g (some { grp with
            effective := List.replicate (s.geometry g).carriers 0, planned := List.replicate (s.geometry g).carriers 0,
            changeNo := 0 })).refusing 0x12#8 .balance 0xFF))
      ∧ ((∀ v ∈ e, v.natAbs ≤ grp.params.ld) → ∃ new : Group,
          new = { grp with
            state := .referencing, k := none, cause := .none, encoder := 0, markCount := 0, settle := false,
            current := none, next := none, effective := e, planned := e, changeNo := 0 }
          ∧ ((s.channels.get g).dflt = false →
              exec (.commission [BitVec.ofNat 8 g.val]) s =
                .next ((s.heard.setGroup g (some new)).replying 0x12#8 []))
          ∧ ((s.channels.get g).dflt = true →
              exec (.commission [BitVec.ofNat 8 g.val]) s =
                .next ((groupFault g .drive (s.heard.setGroup g (some new))).replying 0x12#8 [])))

/-- R20, R69, R81: PAUSE of one group. IDLE: PAUSED at once with k kept, both move slots emptied and the scans at its ports
discarded. MOVING: a pause is pending. REFERENCING: RUN falls and it is PAUSED with k invalid. PAUSED: no change. OFFLINE and
FAULTED: refused STATE 0xFF.

R20, R165, R173: PAUSE to all groups, named by 0xFF, has one effect addressed and as a broadcast, is accepted where no group
exists, and leaves OFFLINE, FAULTED and PAUSED groups as they are. The scans at the ports of the groups that were IDLE are
discarded, and an audit task whose scan that was has none in flight then (R143).

R151 (log 48): the measurement engine follows RUN once every line has fallen.

Log 44: a group paused while IDLE after an arrival no longer counts so. Log 33: a broadcast PAUSE or CONTINUE acts on all
groups whatever its group byte. -/
def Obligations.PauseGroups : Prop :=
  (∀ (s : State) (g : Index) (grp : Group), s.Listens → s.groups.get g = some grp →
     (grp.state = .idle → ∃ (ports : Quad Port) (tasks : Quad (Option AuditTask)),
       exec (.pause false [BitVec.ofNat 8 g.val]) s = .next (State.replying { s.heard with
         groups := s.groups.set g (some { grp with
           state := .paused, pausePending := false, current := none, next := none, arrivalOpen := false, settle := false })
         ports := ports
         audit := { s.audit with tasks := tasks } } 0x13#8 [])
       ∧ (∀ p : Index, ports.get p = if p ∈ grp.members then { s.ports.get p with scan := none } else s.ports.get p)
       ∧ (∀ x : Index, (x ∉ grp.members ∨ (s.ports.get x).scan = none → tasks.get x = s.audit.tasks.get x)
           ∧ ∀ sc, x ∈ grp.members → (s.ports.get x).scan = some sc →
             (sc.user = .audit → tasks.get x = (s.audit.tasks.get x).map fun t => { t with scan := none })
             ∧ (sc.user ≠ .audit → tasks.get x = s.audit.tasks.get x)))
     ∧ (grp.state = .moving →
         exec (.pause false [BitVec.ofNat 8 g.val]) s =
           .next ((s.heard.setGroup g (some { grp with pausePending := true })).replying 0x13#8 []))
     ∧ (grp.state = .referencing →
         exec (.pause false [BitVec.ofNat 8 g.val]) s = .next (State.replying { followRun (s.heard.setChannel g
             { s.channels.get g with run := false, speed := .creep }) with
           groups := s.groups.set g (some { grp with
             state := .paused, k := none, pausePending := false, current := none, next := none, arrivalOpen := false,
             settle := false, stallTimer := none }) } 0x13#8 []))
     ∧ (grp.state = .paused → exec (.pause false [BitVec.ofNat 8 g.val]) s = .next (s.heard.replying 0x13#8 []))
     ∧ (grp.state = .offline ∨ grp.state = .faulted →
         exec (.pause false [BitVec.ofNat 8 g.val]) s = .next (s.heard.refusing 0x13#8 .state 0xFF)))
  ∧ (∀ s : State, s.Listens → ∃ u : State,
       exec (.pause true [0xFF#8]) s = .next u ∧ exec (.pause false [0xFF#8]) s = .next (u.replying 0x13#8 [])
       ∧ u.link = s.heard.link ∧ u.carousels = s.carousels ∧ u.stores = s.stores ∧ u.sched = s.sched
       ∧ u.station = s.station ∧ u.pending = s.pending ∧ u.choices = s.choices ∧ u.startSlot = s.startSlot
       ∧ u.audit.generation = s.audit.generation ∧ u.audit.log = s.audit.log ∧ u.audit.entryCounter = s.audit.entryCounter
       ∧ u.audit.engine = (followRun { s with channels := u.channels }).audit.engine
       ∧ (∀ g : Index,
           (s.groups.get g = none → u.groups.get g = none)
           ∧ ∀ grp, s.groups.get g = some grp →
             (grp.state = .idle → u.groups.get g = some { grp with
               state := .paused, pausePending := false, current := none, next := none, arrivalOpen := false, settle := false })
             ∧ (grp.state = .moving → u.groups.get g = some { grp with pausePending := true })
             ∧ (grp.state = .referencing →
               u.channels.get g = { s.channels.get g with run := false, speed := .creep } ∧ u.groups.get g = some { grp with
                 state := .paused, k := none, pausePending := false, current := none, next := none, arrivalOpen := false,
                 settle := false, stallTimer := none })
             ∧ (grp.state = .offline ∨ grp.state = .faulted ∨ grp.state = .paused → u.groups.get g = some grp)
             ∧ (grp.state ≠ .referencing → u.channels.get g = s.channels.get g))
       ∧ (∀ g, s.groups.get g = none → u.channels.get g = s.channels.get g)
       ∧ ∀ x : Index,
           ((s.ports.get x).scan = none ∨ (∀ g grp, s.groups.get g = some grp → grp.state = .idle → x ∉ grp.members) →
             u.ports.get x = s.ports.get x ∧ u.audit.tasks.get x = s.audit.tasks.get x)
           ∧ ∀ (g : Index) (grp : Group) (sc : Scan), s.groups.get g = some grp → grp.state = .idle → x ∈ grp.members →
             (s.ports.get x).scan = some sc →
             u.ports.get x = { s.ports.get x with scan := none }
             ∧ (sc.user = .audit → u.audit.tasks.get x = (s.audit.tasks.get x).map fun t => { t with scan := none })
             ∧ (sc.user ≠ .audit → u.audit.tasks.get x = s.audit.tasks.get x))
  ∧ ∀ (s : State) (b : Byte), exec (.pause true [b]) s = exec (.pause true [0xFF#8]) s
      ∧ exec (.cont true [b]) s = exec (.cont true [0xFF#8]) s

/-- R21, R69, R116, R165: CONTINUE. A PAUSED group enters IDLE, with its scheduler's turn, or REFERENCING with the mark count
0 where k is invalid; a pending pause is withdrawn; any other group, named alone, is refused STATE 0xFF. To all groups,
addressed or broadcast, each group takes the same effect and the others none. -/
def Obligations.ContinueGroups : Prop :=
  ∀ s : State, s.Listens →
    (∀ (g : Index) (grp : Group), s.groups.get g = some grp →
      (grp.state = .paused → grp.k ≠ none →
        exec (.cont false [BitVec.ofNat 8 g.val]) s = .next ((giveTurns [g] s.heard
          (s.heard.setGroup g (some { grp with state := .idle }))).replying 0x14#8 []))
      ∧ (grp.state = .paused → grp.k = none →
          exec (.cont false [BitVec.ofNat 8 g.val]) s = .next ((giveTurns [] s.heard
            (s.heard.setGroup g (some { grp with state := .referencing, markCount := 0 }))).replying 0x14#8 []))
      ∧ (grp.state = .moving → grp.pausePending = true →
          exec (.cont false [BitVec.ofNat 8 g.val]) s = .next ((giveTurns [] s.heard
            (s.heard.setGroup g (some { grp with pausePending := false }))).replying 0x14#8 []))
      ∧ (grp.state ≠ .paused → (grp.state = .moving → grp.pausePending = false) →
          exec (.cont false [BitVec.ofNat 8 g.val]) s = .next (s.heard.refusing 0x14#8 .state 0xFF)))
    ∧ ∃ (gs : Quad (Option Group)) (u : State),
        u = giveTurns (allIndices.filter fun g => (s.groups.get g).any fun grp => grp.state == .paused && grp.k.isSome)
          s.heard { s.heard with groups := gs }
        ∧ exec (.cont true [0xFF#8]) s = .next u ∧ exec (.cont false [0xFF#8]) s = .next (u.replying 0x14#8 [])
        ∧ ∀ g : Index,
            (s.groups.get g = none → gs.get g = none)
            ∧ ∀ grp, s.groups.get g = some grp →
              (grp.state = .paused → grp.k ≠ none → gs.get g = some { grp with state := .idle })
              ∧ (grp.state = .paused → grp.k = none →
                  gs.get g = some { grp with state := .referencing, markCount := 0 })
              ∧ (grp.state = .moving → gs.get g = some { grp with pausePending := false })
              ∧ (grp.state ≠ .paused → grp.state ≠ .moving → gs.get g = some grp)

/-- R19, R92 (log 12: the four rows act by the bytes of their payload): CLEAR_FAULT is refused RANGE 0 where its target is
neither a group 0 to 3, a port 0 to 3 nor the station, and RANGE 1 where the second byte of a group target is neither scope,
or that of a port target is not 0.

R19, R158: CLEAR_FAULT for an existing group. Scope FAULT: STATE 0xFF unless FAULTED, STATE 0xFE while DFLT is active, else
the cause is NONE and the group enters REFERENCING with mark and encoder count 0. Scope BALANCE: STATE 0xFF unless it is
BALANCE_SUSPECT, else that condition, the deviant-move counter and the watch are cleared.

R92: CLEAR_FAULT for a port is refused STATE 0xFF unless it is FAULTED, 0xFE unless its shuttle is home and not extended, 0xFD
where the load sensor is active after a jam other than of a release. A release jam with the item still on the deck returns to
HOME_LOADED and the gate is judged; with the deck clear the line is SHORT(JAM); any other port becomes HOME_EMPTY. A port that
awaited its first judgement no longer does (log 25).

R134: CLEAR_FAULT for the station is refused STATE unless it is FAULTED and RANGE 1 for a disposition above 1. It discards the
record, the collector drive runs, and a diverter still DIVERTING (log 19) is IDLE; with a diversion in flight and DELIVERED
the head leaves the collector and joins R as WITHDRAWN where its line is reject-bound, else its order's lane as ARRIVED, its
order is judged, and the next diversion, L and the gate are; otherwise the next diversion is tested and the gate judged. -/
def Obligations.ClearFaultTargets : Prop :=
  (∀ (c : Instr) (s : State) (a b : Byte), s.Listens → a.toNat < 64 → a.toNat.testBit 3 = false →
     (c = .clearFaultGroup [a, b] ∨ c = .clearFaultBalance [a, b] ∨ c = .clearFaultPort [a, b]
       ∨ c = .clearFaultStation [a, b]) →
     (4 ≤ a.toNat % 8 ∨ 32 < a.toNat → exec c s = .next (s.heard.refusing 0x15#8 .range 0))
     ∧ (a.toNat ≤ 3 → 2 ≤ b.toNat → exec c s = .next (s.heard.refusing 0x15#8 .range 1))
     ∧ (16 ≤ a.toNat → a.toNat ≤ 19 → b ≠ 0#8 → exec c s = .next (s.heard.refusing 0x15#8 .range 1)))
  ∧ (∀ (s : State) (g : Index) (grp : Group), s.Listens → s.groups.get g = some grp →
       (grp.state ≠ .faulted →
         exec (.clearFaultGroup [BitVec.ofNat 8 g.val, 0#8]) s = .next (s.heard.refusing 0x15#8 .state 0xFF))
       ∧ (grp.state = .faulted → (s.channels.get g).dflt = true →
           exec (.clearFaultGroup [BitVec.ofNat 8 g.val, 0#8]) s = .next (s.heard.refusing 0x15#8 .state 0xFE))
       ∧ (grp.state = .faulted → (s.channels.get g).dflt = false →
           exec (.clearFaultGroup [BitVec.ofNat 8 g.val, 0#8]) s = .next ((s.heard.setGroup g (some { grp with
             state := .referencing, cause := .none, markCount := 0, encoder := 0 })).replying 0x15#8 []))
       ∧ (grp.suspect = false →
           exec (.clearFaultBalance [BitVec.ofNat 8 g.val, 1#8]) s = .next (s.heard.refusing 0x15#8 .state 0xFF))
       ∧ (grp.suspect = true →
           exec (.clearFaultBalance [BitVec.ofNat 8 g.val, 1#8]) s = .next ((s.heard.setGroup g (some { grp with
             suspect := false, deviant := 0, watch := none })).replying 0x15#8 [])))
  ∧ (∀ (s : State) (p : Index) (b : Byte), s.Listens → b = BitVec.ofNat 8 (16 + p.val) →
       ((s.ports.get p).shuttle ≠ .faulted →
         exec (.clearFaultPort [b, 0#8]) s = .next (s.heard.refusing 0x15#8 .state 0xFF))
       ∧ ((s.ports.get p).shuttle = .faulted →
           ((s.ports.get p).home = false ∨ (s.ports.get p).extended = true →
             exec (.clearFaultPort [b, 0#8]) s = .next (s.heard.refusing 0x15#8 .state 0xFE))
           ∧ ((s.ports.get p).home = true → (s.ports.get p).extended = false →
               ((s.ports.get p).fault ≠ some .release → (s.ports.get p).load = true →
                 exec (.clearFaultPort [b, 0#8]) s = .next (s.heard.refusing 0x15#8 .state 0xFD))
               ∧ ((s.ports.get p).fault ≠ some .release → (s.ports.get p).load = false →
                   exec (.clearFaultPort [b, 0#8]) s = .next ((giveTurns (s.groupOf p).toList s.heard
                     (s.heard.setPort p { s.ports.get p with
                       shuttle := .homeEmpty, fault := none, awaitingRest := false })).replying 0x15#8 []))
               ∧ (∀ lr : LoadRecord, (s.ports.get p).fault = some .release → (s.ports.get p).loadRec = some lr →
                   ((s.ports.get p).load = true →
                     exec (.clearFaultPort [b, 0#8]) s = .next ((giveTurns (s.groupOf p).toList s.heard
                       (judgeGate (s.heard.setPort p { s.ports.get p with
                         shuttle := .homeLoaded, fault := none, awaitingRest := false }))).replying 0x15#8 []))
                   ∧ ((s.ports.get p).load = false →
                       exec (.clearFaultPort [b, 0#8]) s = .next ((giveTurns (s.groupOf p).toList s.heard
                         (makeShort lr.order lr.line .jam (s.heard.setPort p { s.ports.get p with
                           shuttle := .homeEmpty, fault := none, loadRec := none,
                           awaitingRest := false }))).replying 0x15#8 []))))))
  ∧ (∀ (s : State) (b : Byte), s.Listens →
       (s.station.fault = none →
         exec (.clearFaultStation [0x20#8, b]) s = .next (s.heard.refusing 0x15#8 .state 0xFF))
       ∧ ∀ (f : StationFault) (u : State), s.station.fault = some f →
           u = s.heard.setStation { s.station with
             fault := none, drive := true
             diverter := if s.station.divertingNow then .idle else s.station.diverter } →
           (2 ≤ b.toNat → exec (.clearFaultStation [0x20#8, b]) s = .next (s.heard.refusing 0x15#8 .range 1))
           ∧ (b = 1#8 ∨ (b = 0#8 ∧ f.diversion = none) → exec (.clearFaultStation [0x20#8, b]) s =
               .next ((giveTurns [] s.heard (judgeGate (testDiversion u))).replying 0x15#8 []))
           ∧ (∀ (e : CollectorItem) (es : List CollectorItem) (j : Nat) (o : Order) (l : Line) (v : State), b = 0#8 →
               f.diversion ≠ none → s.station.collector = e :: es → s.findOrder e.order = some (j, o) →
               o.line? e.line = some l →
               ((l.rejectBound = true ∧ v = (u.setStation { u.station with
                   collector := es, reject := s.station.reject ++ [{ tag := e.tag, order := e.order }] }).setLine
                     e.order e.line .withdrawn)
                 ∨ (∃ i : Index, l.rejectBound = false ∧ o.lane = some i ∧ v = (u.setStation { u.station with
                     collector := es
                     lanes := s.station.lanes.set i { s.station.lanes.get i with
                       stack := (s.station.lanes.get i).stack ++ [{ tag := e.tag, line := e.line }] } }).setLine
                         e.order e.line .arrived)) →
               exec (.clearFaultStation [0x20#8, b]) s = .next ((giveTurns [] s.heard (judgeGate (judgeLow (testDiversion
                 (judgeOrder e.order v))))).replying 0x15#8 [])))

/-- R22: RESET GROUP is refused NOT_FOUND where the group does not exist, and STATE with the first member that has a
reservation, a store record, or a shuttle that is not HOME_EMPTY, in that order; otherwise RUN falls (the measurement engine
follows: R151), DIR is forward, the group is OFFLINE as it was defined, and every member map is ABSENT with its audit task
gone, as is a scan of any kind at its port (log 24). The configurations, the membership and the flags stay. -/
def Obligations.ResetGroupToOffline : Prop :=
  ∀ (s : State) (g : Index), s.Listens →
    (s.groups.get g = none →
      exec (.resetGroup [BitVec.ofNat 8 g.val]) s = .next (s.heard.refusing 0x16#8 .notFound 0xFF))
    ∧ ∀ grp : Group, s.groups.get g = some grp →
    (∀ x, (grp.members.find? fun y => s.reserved y) = some x →
      exec (.resetGroup [BitVec.ofNat 8 g.val]) s = .next (s.heard.refusing 0x16#8 .state x.val))
    ∧ ((∀ y ∈ grp.members, s.reserved y = false) →
        (∀ x, (grp.members.find? fun y => (s.stores.get y).isSome) = some x →
          exec (.resetGroup [BitVec.ofNat 8 g.val]) s = .next (s.heard.refusing 0x16#8 .state x.val))
        ∧ ((∀ y ∈ grp.members, s.stores.get y = none) →
            (∀ x, (grp.members.find? fun y => (s.ports.get y).shuttle != .homeEmpty) = some x →
              exec (.resetGroup [BitVec.ofNat 8 g.val]) s = .next (s.heard.refusing 0x16#8 .state x.val))
            ∧ ((∀ y ∈ grp.members, (s.ports.get y).shuttle = .homeEmpty) →
                ∃ (cs : Quad Carousel) (ports : Quad Port) (tasks : Quad (Option AuditTask)) (new : Group),
                  exec (.resetGroup [BitVec.ofNat 8 g.val]) s = .next (State.replying { s.heard with
                    carousels := cs
                    groups := s.groups.set g (some new)
                    channels := s.channels.set g { s.channels.get g with run := false, speed := .creep, dir := .forward }
                    ports := ports
                    audit := { s.audit with
                      tasks := tasks
                      engine := (followRun (s.setChannel g
                        { s.channels.get g with run := false, speed := .creep })).audit.engine } } 0x16#8 [])
                  ∧ new.members = grp.members ∧ new.params = grp.params ∧ new.state = .offline ∧ new.k = none
                  ∧ new.cause = .none ∧ new.encoder = 0 ∧ new.revolution = 0 ∧ new.current = none ∧ new.next = none
                  ∧ new.pausePending = false ∧ new.settle = false ∧ new.stallTimer = none ∧ new.changeNo = 0
                  ∧ new.effective = List.replicate (s.geometry g).carriers 0
                  ∧ new.planned = List.replicate (s.geometry g).carriers 0
                  ∧ new.suspect = false ∧ new.deviant = 0 ∧ new.watch = none
                  ∧ ∀ x : Index,
                      (x ∉ grp.members → cs.get x = s.carousels.get x ∧ ports.get x = s.ports.get x
                        ∧ tasks.get x = s.audit.tasks.get x)
                      ∧ (x ∈ grp.members →
                          cs.get x = { s.carousels.get x with
                            map := { state := .absent, carriers := [], finding := none } }
                          ∧ ports.get x = { s.ports.get x with scan := none } ∧ tasks.get x = none))))

/-! ## The slot map and the profiles (R24 to R27, R31, R38, R39, R41 to R46, R52) -/

/-- R24: MAP_BEGIN, in order refused RANGE 0 for an index above 3, STATE 0xFF where the carousel is UNCONFIGURED and STATE
0xFE where its group is in service, opens a map of C × S EMPTY records in any map state and mode; the tags it held are in no
slot place any more, and the ACK carries C and S.

R25: MAP_PUT is refused RANGE 0 for a carousel above 3, STATE 0xFF unless the map is OPEN, and RANGE 16 × image + field at the
first failing field of the first failing image.

R25, R34: an accepted MAP_PUT writes its images in request order, each replacing the slot's record whole: counted mass equal
to recorded mass, CLEAR, not reserved, stamp 0, no finding. A slot that no image names stays. The ACK carries their number. -/
def Obligations.MapOpenedAndLoaded : Prop :=
  (∀ s : State, s.Listens →
     (∀ b : Byte, 4 ≤ b.toNat → exec (.mapBegin [b]) s = .next (s.heard.refusing 0x20#8 .range 0))
     ∧ ∀ x : Index,
         ((s.carousels.get x).config = none →
           exec (.mapBegin [BitVec.ofNat 8 x.val]) s = .next (s.heard.refusing 0x20#8 .state 0xFF))
         ∧ ∀ cfg, (s.carousels.get x).config = some cfg →
             ((s.serviceGroup x).isSome = true →
               exec (.mapBegin [BitVec.ofNat 8 x.val]) s = .next (s.heard.refusing 0x20#8 .state 0xFE))
             ∧ ((s.serviceGroup x).isSome = false → ∃ (m : SlotMap) (u : State),
                 u = s.heard.setCarousel x { config := some cfg, map := m }
                 ∧ exec (.mapBegin [BitVec.ofNat 8 x.val]) s =
                   .next (u.replying 0x20#8 [BitVec.ofNat 8 cfg.carriers, BitVec.ofNat 8 cfg.levels])
                 ∧ m.state = .opened ∧ m.finding = none ∧ m.carriers.length = cfg.carriers
                 ∧ (∀ ls ∈ m.carriers, ls.length = cfg.levels)
                 ∧ (∀ ls ∈ m.carriers, ∀ sl ∈ ls, sl =
                     { content := .empty, tag := 0#32, setId := 0#32, member := 0, recorded := 0, counted := 0,
                       condition := .clear, reservation := .none, stamp := 0, finding := none })
                 ∧ ∀ (tag : Id32) (c l : Nat), Place.slot x c l ∉ places u tag))
  ∧ (∀ (s : State) (p : List Byte), s.Listens → (∃ n, 1 ≤ n ∧ n ≤ 12 ∧ p.length = 1 + 14 * n) →
       (4 ≤ byteAt p 0 → exec (.mapPut p) s = .next (s.heard.refusing 0x21#8 .range 0))
       ∧ ∀ x : Index, byteAt p 0 = x.val →
           ((s.carousels.get x).map.state ≠ .opened →
             exec (.mapPut p) s = .next (s.heard.refusing 0x21#8 .state 0xFF))
           ∧ ((s.carousels.get x).map.state = .opened → ∀ (i f : Nat) (im : SlotImage), (readImages p)[i]? = some im →
               (∀ j im', j < i → (readImages p)[j]? = some im' →
                 ∀ f', imageFieldOk (s.carriersOf x) (s.levelsOf x) im' f') →
               (∀ f', f' < f → imageFieldOk (s.carriersOf x) (s.levelsOf x) im f') →
               ¬imageFieldOk (s.carriersOf x) (s.levelsOf x) im f →
               exec (.mapPut p) s = .next (s.heard.refusing 0x21#8 .range (16 * i + f))))
  ∧ (∀ (s : State) (p : List Byte) (x : Index), s.Listens → (∃ n, 1 ≤ n ∧ n ≤ 12 ∧ p.length = 1 + 14 * n) →
       byteAt p 0 = x.val → (s.carousels.get x).map.state = .opened →
       (∀ im ∈ readImages p, ∀ f, imageFieldOk (s.carriersOf x) (s.levelsOf x) im f) →
       ∃ cs : List (List Slot),
         exec (.mapPut p) s = .next ((s.heard.setCarousel x { s.carousels.get x with
           map := { (s.carousels.get x).map with carriers := cs } }).replying 0x21#8
             [BitVec.ofNat 8 ((p.length - 1) / 14)])
         ∧ ∀ c l : Nat, (cs.getD c [])[l]? = (s.slot? x c l).map fun old =>
             match (readImages p).reverse.find? fun im => im.carrier == c && im.level == l with
             | some im =>
               { content := if im.content = 1 then .held else .empty, tag := im.tag, setId := im.setId, member := im.member,
                 recorded := im.mass, counted := im.mass, condition := .clear, reservation := .none, stamp := 0,
                 finding := none }
             | none => old)

/-- R26, R27: MAP_COMMIT of an OPEN map walks its slots in carrier-then-level order, each carrier's mass limit after its last
level. A first failure is recorded as the commit finding and answered with its reason and carrier, the map staying OPEN as
loaded; without one the map is COMMITTED, records unchanged, and the ACK carries the HELD slots' number and total mass.

R26: the three checks of a slot in the walk of MAP_COMMIT, in order: coherence, the level limit, and for a HELD slot its tag
among those walked before and the places of the tag law. A map that is not OPEN is refused STATE 0xFF. -/
def Obligations.MapCommitWalk : Prop :=
  (∀ (s : State) (x : Index) (cfg : CarouselConfig) (m : SlotMap), s.Listens → (s.carousels.get x).config = some cfg →
     (s.carousels.get x).map = m → m.state = .opened →
     (∀ (i c l : Nat) (sl : Slot) (reason : Reason), m.walk[i]? = some (c, l, sl) →
       (∀ j, j < i → walkPasses s cfg m j) →
       (∀ c', c' < c → ((m.carriers.getD c' []).map Slot.recorded).sum ≤ cfg.carrierLimit) →
       slotFailure s cfg (((m.walk.take i).filter fun e => e.2.2.content == .held).map fun e => e.2.2.tag) l sl
         = some reason →
       exec (.mapCommit [BitVec.ofNat 8 x.val]) s = .next ((s.heard.setCarousel x { s.carousels.get x with
         map := { m with finding := some { reason := reason, carrier := c, level := some l } } }).refusing
           0x22#8 reason c))
     ∧ (∀ c : Nat, c < m.carriers.length → (∀ (j : Nat) (e : Nat × Nat × Slot), m.walk[j]? = some e → e.1 ≤ c →
           walkPasses s cfg m j) →
         (∀ c', c' < c → ((m.carriers.getD c' []).map Slot.recorded).sum ≤ cfg.carrierLimit) →
         cfg.carrierLimit < ((m.carriers.getD c []).map Slot.recorded).sum →
         exec (.mapCommit [BitVec.ofNat 8 x.val]) s = .next ((s.heard.setCarousel x { s.carousels.get x with
           map := { m with finding := some { reason := .limit, carrier := c, level := none } } }).refusing
             0x22#8 .limit c))
     ∧ ((∀ j, walkPasses s cfg m j) →
         (∀ c, c < m.carriers.length → ((m.carriers.getD c []).map Slot.recorded).sum ≤ cfg.carrierLimit) →
         exec (.mapCommit [BitVec.ofNat 8 x.val]) s = .next ((s.heard.setCarousel x { s.carousels.get x with
           map := { m with state := .committed, finding := none } }).replying 0x22#8
             (u16 (m.walk.filter fun e => e.2.2.content == .held).length
               ++ u32 ((m.walk.filter fun e => e.2.2.content == .held).map fun e => e.2.2.recorded).sum))))
  ∧ ((∀ (s : State) (cfg : CarouselConfig) (seen : List Id32) (l : Nat) (sl : Slot),
       slotFailure s cfg seen l sl =
         if (sl.content = .held ∧ (sl.tag = 0#32 ∨ sl.recorded = 0 ∨ (sl.member ≠ 0 ∧ sl.setId = 0#32)))
             ∨ (sl.content = .empty ∧ (sl.tag ≠ 0#32 ∨ sl.setId ≠ 0#32 ∨ sl.member ≠ 0 ∨ sl.recorded ≠ 0))
         then some .range
         else if cfg.levelLimits.getD l 0 < sl.recorded then some .limit
         else if sl.content = .held ∧ (sl.tag ∈ seen ∨ places s sl.tag ≠ []) then some .conflict
         else none)
     ∧ ∀ (s : State) (x : Index), s.Listens → (s.carousels.get x).map.state ≠ .opened →
         exec (.mapCommit [BitVec.ofNat 8 x.val]) s = .next (s.heard.refusing 0x22#8 .state 0xFF))

/-- R31, R39, R41, R43, R44, R46, R52: a change of mass handed at carrier c of a carousel in service adds, at every offset k
of each profile it names, the lever weight of position (c + k) mod C times the change, advances the change number modulo
65,536, and marks the group's waiting tasks reconsidered when it names E. A change of 0, or for a carousel not in service, is
not taken.

R1: the lever weights sum to 0 over the loop, change sign half a loop on, are 4 on the front run and -4 on the rear, and on
the top bend are the row of its length: 0; 3, -3; 3, 0, -3; 4, 2, -2, -4. -/
def Obligations.HandedMassChangesProfiles : Prop :=
  (∀ (s : State) (x : Index) (c : Nat) (dm : Int) (which : Named),
     (dm = 0 ∨ s.serviceGroup x = none → handMass x c dm which s = s)
     ∧ ∀ (g : Index) (grp : Group), dm ≠ 0 → s.serviceGroup x = some g → s.groups.get g = some grp →
         grp.effective.length = (s.geometry g).carriers → grp.planned.length = (s.geometry g).carriers →
         ∃ (new : Group) (sch : Scheduler) (sts : Quad (Option StoreRecord)),
           handMass x c dm which s = { s with groups := s.groups.set g (some new), sched := sch, stores := sts }
           ∧ new.changeNo = (grp.changeNo + 1) % 65536
           ∧ new = { grp with effective := new.effective, planned := new.planned, changeNo := new.changeNo }
           ∧ new.effective.length = (s.geometry g).carriers ∧ new.planned.length = (s.geometry g).carriers
           ∧ (∀ k, k < (s.geometry g).carriers →
               new.effective.getD k 0 = grp.effective.getD k 0 + (if which = .planned then 0 else
                 leverWeight (s.geometry g).carriers (s.geometry g).bend ((c + k) % (s.geometry g).carriers) * dm)
               ∧ new.planned.getD k 0 = grp.planned.getD k 0 + (if which = .effective then 0 else
                 leverWeight (s.geometry g).carriers (s.geometry g).bend ((c + k) % (s.geometry g).carriers) * dm))
           ∧ (which = .planned → sch = s.sched ∧ sts = s.stores)
           ∧ (which ≠ .planned →
               (∀ y : Index, sts.get y = (s.stores.get y).map fun r =>
                 if y ∈ grp.members ∧ r.cond = .balanceWait then { r with cond := .reconsidered } else r)
               ∧ sch = { s.sched with orders := s.sched.orders.map fun e => e.map fun o =>
                   { o with lines := o.lines.map fun l =>
                       if (l.state = .balanceWait false ∨ l.state = .balanceWait true) ∧ s.groupOf l.carousel = some g
                       then { l with state := .balanceWait true } else l } }))
  ∧ (∀ geo : Geometry, geo.Sound →
       (∀ p, p < geo.carriers →
         leverWeight geo.carriers geo.bend ((p + geo.carriers / 2) % geo.carriers) = -leverWeight geo.carriers geo.bend p)
       ∧ (∀ p, p < (geo.carriers - 2 * geo.bend) / 2 →
           leverWeight geo.carriers geo.bend p = 4
           ∧ leverWeight geo.carriers geo.bend ((geo.carriers - 2 * geo.bend) / 2 + geo.bend + p) = -4)
       ∧ (∀ j, j < geo.bend → leverWeight geo.carriers geo.bend ((geo.carriers - 2 * geo.bend) / 2 + j)
           = (([[], [0], [3, -3], [3, 0, -3], [4, 2, -2, -4]] : List (List Int)).getD geo.bend []).getD j 0)
       ∧ ((List.range geo.carriers).map (leverWeight geo.carriers geo.bend)).sum = 0)

/-- R39, R37, R38: an accepted SLOT_RESOLVE replaces the record with the host's statement, hands Δ = new − old counted mass
for both profiles, gives the turns that a task change makes, and answers Δ.

R38, R26 (log 15: the fields tried in index order): an incoherent record is refused RANGE with the index of its first
incoherent field: HELD with tag 0 (3), with a member and set id 0 (5) or with mass 0 (6), EMPTY with a tag (3), a set id (4),
a member (5) or a mass (6).

R38: the refusals of SLOT_RESOLVE after its fields: STATE 0xFE for a reserved slot, LIMIT 0 above the level limit, LIMIT 1
above the carrier limit, CONFLICT where the tag is held elsewhere, with the place code, and BALANCE 0xFF. -/
def Obligations.SlotResolveReplacesRecord : Prop :=
  (∀ (s : State) (p : List Byte) (x : Index) (cfg : CarouselConfig) (im : SlotImage) (old : Slot) (dm : Int), s.Listens →
     p.length = 15 → byteAt p 0 = x.val → readImage p 1 = im → (s.carousels.get x).config = some cfg →
     (s.carousels.get x).map.state = .committed → (∀ f, imageFieldOk cfg.carriers cfg.levels im f) →
     (im.content = 1 → im.tag ≠ 0#32 ∧ 1 ≤ im.mass ∧ (im.member = 0 ∨ im.setId ≠ 0#32)) →
     (im.content = 0 → im.tag = 0#32 ∧ im.setId = 0#32 ∧ im.member = 0 ∧ im.mass = 0) →
     s.slot? x im.carrier im.level = some old → old.reservation = .none →
     im.mass ≤ cfg.levelLimits.getD im.level 0 → im.mass + otherLoad s x im.carrier im.level ≤ cfg.carrierLimit →
     (im.content = 1 → ∀ pl ∈ places s im.tag, pl = .slot x im.carrier im.level) →
     dm = (im.mass : Int) - (old.counted : Int) →
     (∀ (g : Index) (grp : Group), s.serviceGroup x = some g → s.groups.get g = some grp →
       trialPeak (s.geometry g) grp.effective im.carrier dm ≤ grp.params.ld) →
     exec (.slotResolve p) s = .next ((giveTurns [] s.heard (handMass x im.carrier dm .both
       (s.heard.setSlot x im.carrier im.level
         { content := if im.content = 1 then .held else .empty, tag := im.tag, setId := im.setId, member := im.member,
           recorded := im.mass, counted := im.mass, condition := .clear, reservation := .none, stamp := 0,
           finding := none }))).replying 0x25#8
       [BitVec.ofInt 8 dm, BitVec.ofInt 8 (dm.fdiv 256)]))
  ∧ (∀ (s : State) (p : List Byte) (x : Index) (cfg : CarouselConfig) (im : SlotImage) (old : Slot), s.Listens →
       p.length = 15 → byteAt p 0 = x.val → readImage p 1 = im → (s.carousels.get x).config = some cfg →
       ((s.carousels.get x).map.state ≠ .committed →
         exec (.slotResolve p) s = .next (s.heard.refusing 0x25#8 .state 0xFF))
       ∧ ((s.carousels.get x).map.state = .committed →
           (∀ f, (∀ f', f' < f → imageFieldOk cfg.carriers cfg.levels im f') → ¬imageFieldOk cfg.carriers cfg.levels im f →
             exec (.slotResolve p) s = .next (s.heard.refusing 0x25#8 .range f))
           ∧ ((∀ f, imageFieldOk cfg.carriers cfg.levels im f) → ∀ f : Nat,
               ((im.content = 1 ∧ ((im.tag = 0#32 ∧ f = 3)
                   ∨ (im.tag ≠ 0#32 ∧ im.member ≠ 0 ∧ im.setId = 0#32 ∧ f = 5)
                   ∨ (im.tag ≠ 0#32 ∧ (im.member = 0 ∨ im.setId ≠ 0#32) ∧ im.mass = 0 ∧ f = 6)))
                 ∨ (im.content = 0 ∧ ((im.tag ≠ 0#32 ∧ f = 3) ∨ (im.tag = 0#32 ∧ im.setId ≠ 0#32 ∧ f = 4)
                   ∨ (im.tag = 0#32 ∧ im.setId = 0#32 ∧ im.member ≠ 0 ∧ f = 5)
                   ∨ (im.tag = 0#32 ∧ im.setId = 0#32 ∧ im.member = 0 ∧ im.mass ≠ 0 ∧ f = 6)))) →
               exec (.slotResolve p) s = .next (s.heard.refusing 0x25#8 .range f))
           ∧ ((∀ f, imageFieldOk cfg.carriers cfg.levels im f) →
               (im.content = 1 → im.tag ≠ 0#32 ∧ 1 ≤ im.mass ∧ (im.member = 0 ∨ im.setId ≠ 0#32)) →
               (im.content = 0 → im.tag = 0#32 ∧ im.setId = 0#32 ∧ im.member = 0 ∧ im.mass = 0) →
               s.slot? x im.carrier im.level = some old →
               (old.reservation ≠ .none → exec (.slotResolve p) s = .next (s.heard.refusing 0x25#8 .state 0xFE))
               ∧ (old.reservation = .none →
                   (cfg.levelLimits.getD im.level 0 < im.mass →
                     exec (.slotResolve p) s = .next (s.heard.refusing 0x25#8 .limit 0))
                   ∧ (im.mass ≤ cfg.levelLimits.getD im.level 0 →
                       (cfg.carrierLimit < im.mass + otherLoad s x im.carrier im.level →
                         exec (.slotResolve p) s = .next (s.heard.refusing 0x25#8 .limit 1))
                       ∧ (im.mass + otherLoad s x im.carrier im.level ≤ cfg.carrierLimit →
                           (∀ pl, im.content = 1 →
                             ((places s im.tag).find? fun q => q != .slot x im.carrier im.level) = some pl →
                             exec (.slotResolve p) s = .next (s.heard.refusing 0x25#8 .conflict pl.code))
                           ∧ ((im.content = 1 → ∀ pl ∈ places s im.tag, pl = .slot x im.carrier im.level) →
                               ∀ (g : Index) (grp : Group), s.serviceGroup x = some g → s.groups.get g = some grp →
                               grp.params.ld < trialPeak (s.geometry g) grp.effective im.carrier
                                 ((im.mass : Int) - (old.counted : Int)) →
                               exec (.slotResolve p) s = .next (s.heard.refusing 0x25#8 .balance 0xFF))))))))

/-! ## Direction, start slots and travel (R9, R12 to R18, R54, R55, R62 to R70, R73) -/

/-- R54, R55: a move goes the shorter way round, forward at exactly half a loop, and not at all where the target is k. Its
path maximum is the largest magnitude of E over the path's offsets, both ends included; its class is CREEP under
BALANCE_SUSPECT, else FAST up to Ls1, NORMAL up to Ls2, GENTLE above. -/
def Obligations.DirectionAndSpeedClass : Prop :=
  ∀ (geo : Geometry) (grp : Group) (k target df : Nat), k < geo.carriers → target < geo.carriers →
    df = (target + geo.carriers - k) % geo.carriers →
    (target = k → moveAnswer geo grp k target = none)
    ∧ (target ≠ k → ∃ a : MoveAnswer, moveAnswer geo grp k target = some a
        ∧ (2 * df ≤ geo.carriers → a.dir = .forward ∧ a.distance = df)
        ∧ (geo.carriers < 2 * df → a.dir = .reverse ∧ a.distance = geo.carriers - df)
        ∧ (∀ i, i ≤ a.distance → (grp.effective.getD (match a.dir with
            | .forward => (k + i) % geo.carriers
            | .reverse => (k + geo.carriers - i) % geo.carriers) 0).natAbs ≤ a.pathMax)
        ∧ (∃ i, i ≤ a.distance ∧ (grp.effective.getD (match a.dir with
            | .forward => (k + i) % geo.carriers
            | .reverse => (k + geo.carriers - i) % geo.carriers) 0).natAbs = a.pathMax)
        ∧ a.cls = if grp.suspect then .creep
            else if a.pathMax ≤ grp.params.ls1 then .fast
            else if a.pathMax ≤ grp.params.ls2 then .normal
            else .gentle)

/-- R12, R16, R62, R63, R153: the beginning of a group's own start slot. RUN rises for a referencing run, or for the move that
waits in CURRENT with a fresh answer of the balance unit, in NORMAL, with every member shuttle home and no member port FAULTED
(and for a move no transfer or scan at a member port); the stall timer starts, and a move ends what was noted of the starts of
the last arrival (log 43). The measurement engine follows RUN (R151). Where a condition fails only the slot changes. -/
def Obligations.StartSlotRaisesRun : Prop :=
  ∀ (s : State) (g : Index),
    (s.groups.get g = none → exec (.startSlot g) s = .next { s with startSlot := g })
    ∧ ∀ grp : Group, s.groups.get g = some grp →
        (s.link.mode = .hold ∨ (∃ x ∈ grp.members, (s.ports.get x).home = false ∨ (s.ports.get x).shuttle = .faulted)
            ∨ (grp.state ≠ .referencing ∧ grp.state ≠ .idle)
            ∨ (grp.state = .referencing ∧ ((s.channels.get g).run = true ∨ grp.k ≠ none))
            ∨ (grp.state = .idle ∧ (grp.k = none ∨ grp.current = none
                ∨ ∃ x ∈ grp.members, (s.ports.get x).shuttle = .inserting ∨ (s.ports.get x).shuttle = .extracting
                    ∨ (s.ports.get x).scan ≠ none)) →
          exec (.startSlot g) s = .next { s with startSlot := g })
        ∧ (s.link.mode = .normal → (∀ x ∈ grp.members, (s.ports.get x).home = true ∧ (s.ports.get x).shuttle ≠ .faulted) →
            (grp.state = .referencing → (s.channels.get g).run = false → grp.k = none →
              exec (.startSlot g) s = .next { followRun (s.setChannel g
                  { s.channels.get g with run := true, dir := .forward, speed := .creep }) with
                startSlot := g
                groups := s.groups.set g (some { grp with
                  markCount := 0, stallTimer := some grp.params.stallTime, lastSample := none, invalidCount := 0 }) })
            ∧ (∀ (m : Move) (k : Nat) (a : MoveAnswer), grp.state = .idle → grp.current = some m → m.phase = .waiting →
                grp.k = some k → moveAnswer (s.geometry g) grp k m.target = some a →
                (∀ x ∈ grp.members, (s.ports.get x).shuttle ≠ .inserting ∧ (s.ports.get x).shuttle ≠ .extracting
                  ∧ (s.ports.get x).scan = none) →
                exec (.startSlot g) s = .next { followRun (s.setChannel g
                    { s.channels.get g with run := true, dir := a.dir, speed := a.cls }) with
                  startSlot := g
                  groups := s.groups.set g (some { grp with
                    state := .moving, arrivalOpen := false, startedHere := Quad.fill false,
                    stallTimer := some grp.params.stallTime, lastSample := none, invalidCount := 0,
                    moveDir := a.dir, moveMarks := 0, compared := 0, outside := 0,
                    current := some { m with
                      dir := a.dir, distance := a.distance, pathMax := a.pathMax, cls := a.cls, phase := .travel } }) }))

/-- R9, R12, R62, R63: RUN of group g rises in no step but the beginning of slot g, and there only in NORMAL, for a group in
REFERENCING or IDLE whose member shuttles are all home and whose member ports are all not FAULTED. -/
def Obligations.RunRisesOnlyInOwnSlot : Prop :=
  ∀ (c : Instr) (s t : State) (g : Index), exec c s = .next t → (s.channels.get g).run = false →
    (t.channels.get g).run = true →
    c = .startSlot g ∧ s.link.mode = .normal ∧ ∃ grp : Group, s.groups.get g = some grp
      ∧ (grp.state = .referencing ∨ grp.state = .idle)
      ∧ ∀ x ∈ grp.members, (s.ports.get x).home = true ∧ (s.ports.get x).shuttle ≠ .faulted

/-- R13, R14 (log 17), R16, R65, R67: a carrier mark in TRAVEL. The encoder count n is judged against Ep with tolerance e =
⌊Ep/8⌋: up to e a recrossing, within e of Ep with the sign of DIR a pitch step, anything else a POSITION fault, as is a HOME
level that disagrees with k after the judgement. Without a fault k is the offset reached, the count is zeroed and the stall
timer restarts; a step counts towards the carriers per revolution, which a home mark takes where the steps since the last were
all in one direction, also where HOME then disagrees; a recrossing ends that run. The mark is reported to the torque monitor
(`TorqueSamplesCompared` says what that makes of the group). With no stop pending and k short of the target, travel goes on
and RUN, DIR and SPEED are held.

R66, R67: the mark at which a move ends. At its target RUN falls, SPEED returns to 0 and CURRENT is SETTLING with the settle
timer running; with a pause pending the group is PAUSED at once and both move slots are empty; with a hold stop alone it
settles with both empty. The measurement engine follows RUN (R151). The move is then judged for deviance
(`TorqueSamplesCompared`). -/
def Obligations.TravelMarksAndMoveEnd : Prop :=
  ∀ (s : State) (g : Index) (grp marked : Group) (m : Move) (dir : Direction) (k k' n hs rv : Nat) (hd : StepRun)
    (home : Bool),
    s.groups.get g = some grp → grp.state = .moving → grp.current = some m → m.phase = .travel → grp.k = some k →
    k < (s.geometry g).carriers → n = grp.encoder.natAbs → dir = (s.channels.get g).dir →
    ((((s.geometry g).pulses / 8 < n ∧ n < (s.geometry g).pulses - (s.geometry g).pulses / 8)
        ∨ ((s.geometry g).pulses / 8 < n ∧ (s.geometry g).pulses + (s.geometry g).pulses / 8 < n)
        ∨ ((s.geometry g).pulses / 8 < n ∧ (dir = .forward ↔ grp.encoder < 0))) →
      exec (.carrierMark g home) s =
        .next (giveTurns [] s (groupFault g .position (s.setGroup g (some { grp with encoder := 0 })))))
    ∧ (((n ≤ (s.geometry g).pulses / 8 ∧ k' = k ∧ hs = grp.homeSteps ∧ hd = .broken ∧ rv = grp.revolution)
        ∨ ((s.geometry g).pulses / 8 < n ∧ (s.geometry g).pulses - (s.geometry g).pulses / 8 ≤ n
            ∧ n ≤ (s.geometry g).pulses + (s.geometry g).pulses / 8
            ∧ ((dir = .forward ∧ 0 < grp.encoder ∧ k' = (k + 1) % (s.geometry g).carriers)
              ∨ (dir = .reverse ∧ grp.encoder < 0 ∧ k' = (k + (s.geometry g).carriers - 1) % (s.geometry g).carriers))
            ∧ ((home = false ∧ hs = grp.homeSteps + 1 ∧ rv = grp.revolution
                  ∧ hd = if grp.homeDir = .fresh ∨ grp.homeDir = .oneWay dir then .oneWay dir else .broken)
              ∨ (home = true ∧ hs = 0 ∧ hd = .fresh
                  ∧ rv = if grp.homeDir = .fresh ∨ grp.homeDir = .oneWay dir then grp.homeSteps + 1
                    else grp.revolution)))) →
        marked = { grp with
          k := some k', encoder := 0, stallTimer := some grp.params.stallTime, homeSteps := hs, homeDir := hd,
          revolution := rv } →
        ((home = true ↔ k' ≠ 0) → exec (.carrierMark g home) s =
          .next (giveTurns [] s (groupFault g .position (s.setGroup g (some marked)))))
        ∧ ((home = true ↔ k' = 0) →
            (grp.pausePending = false → m.holdStop = false → k' ≠ m.target → exec (.carrierMark g home) s =
              .next (giveTurns [] s (s.setGroup g (some (marked.reportMark k' false)))))
            ∧ (grp.pausePending = true ∨ m.holdStop = true ∨ k' = m.target → ∃ new : Group,
                exec (.carrierMark g home) s = .next (giveTurns [] s (judgeMove g { followRun (s.setChannel g
                    { s.channels.get g with run := false, speed := .creep }) with
                  groups := s.groups.set g (some new) }))
                ∧ (grp.pausePending = true → new = { marked.reportMark k' true with
                    stallTimer := none, state := .paused, current := none, next := none, pausePending := false,
                    arrivalOpen := false, settle := false })
                ∧ (grp.pausePending = false → m.holdStop = true → new = { marked.reportMark k' true with
                    stallTimer := none, current := none, next := none, settle := true })
                ∧ (grp.pausePending = false → m.holdStop = false → new = { marked.reportMark k' true with
                    stallTimer := none, current := some { m with phase := .settling }, settle := true }))))

/-- R15, R14 (log 17): a mark of a stationary group (IDLE, PAUSED, or MOVING with RUN low) with k valid is a POSITION fault
unless it is a recrossing that agrees with HOME, which zeroes the count and ends the run of one-direction steps. In OFFLINE,
FAULTED, PAUSED with k invalid, and REFERENCING before the run, a mark is not acted on.

R12: a mark of a referencing run. The first is exempt from the encoder window, every other must be a forward pitch; with HOME
active k is 0, RUN falls with the measurement engine following (R151) and the loop settles; the mark count reaching C + 2
without HOME is a POSITION fault; otherwise the run goes on with the stall timer restarted.

R12, R13, R66, R69, R116: the encoder count follows each pulse outside OFFLINE (log 18). A settled MOVING group enters IDLE
with CURRENT emptied, the arrival handed where CURRENT was filled and NEXT kept, and the scheduler has a turn for that and one
for the arrival (log 45); with a pause pending it enters PAUSED with both slots empty. A settled referencing run enters IDLE
at the k it found, with a turn. -/
def Obligations.StationaryMarksPulsesAndSettling : Prop :=
  (∀ (s : State) (g : Index) (home : Bool),
     (s.groups.get g = none → exec (.carrierMark g home) s = .next (giveTurns [] s s))
     ∧ ∀ grp : Group, s.groups.get g = some grp →
         (grp.state = .offline ∨ grp.state = .faulted ∨ (grp.state = .paused ∧ grp.k = none)
             ∨ (grp.state = .referencing ∧ (s.channels.get g).run = false ∧ grp.k = none) →
           exec (.carrierMark g home) s = .next (giveTurns [] s s))
         ∧ ∀ k : Nat, grp.k = some k →
             (grp.state = .idle ∨ grp.state = .paused
               ∨ (grp.state = .referencing ∧ (s.channels.get g).run = false)
               ∨ (grp.state = .moving ∧ ∀ m, grp.current = some m → m.phase ≠ .travel)) →
             (grp.encoder.natAbs ≤ (s.geometry g).pulses / 8 → (home = true ↔ k = 0) → exec (.carrierMark g home) s =
               .next (giveTurns [] s (s.setGroup g (some { grp with encoder := 0, homeDir := .broken }))))
             ∧ ((s.geometry g).pulses / 8 < grp.encoder.natAbs ∨ ¬(home = true ↔ k = 0) → ∃ new : Group,
                 exec (.carrierMark g home) s = .next (giveTurns [] s (groupFault g .position (s.setGroup g (some new))))
                 ∧ new = { grp with encoder := new.encoder, homeDir := new.homeDir }))
  ∧ (∀ (s : State) (g : Index) (grp : Group) (home : Bool), s.groups.get g = some grp → grp.state = .referencing →
       (s.channels.get g).run = true → ∃ counted : Group,
         counted = { grp with
           markCount := grp.markCount + 1, encoder := 0, stallTimer := some grp.params.stallTime }
         ∧ ((grp.markCount ≠ 0 ∧ (grp.encoder < (s.geometry g).pulses - (s.geometry g).pulses / 8
               ∨ (s.geometry g).pulses + (s.geometry g).pulses / 8 < grp.encoder) →
             exec (.carrierMark g home) s =
               .next (giveTurns [] s (groupFault g .position (s.setGroup g (some counted)))))
           ∧ ((grp.markCount = 0 ∨ ((s.geometry g).pulses - (s.geometry g).pulses / 8 ≤ grp.encoder
                 ∧ grp.encoder ≤ (s.geometry g).pulses + (s.geometry g).pulses / 8 ∧ 0 < grp.encoder)) →
               (home = true →
                 exec (.carrierMark g home) s = .next (giveTurns [] s { followRun (s.setChannel g
                     { s.channels.get g with run := false, speed := .creep }) with
                   groups := s.groups.set g (some { counted with
                     k := some 0, settle := true, stallTimer := none, homeSteps := 0, homeDir := .fresh }) }))
               ∧ (home = false → (s.geometry g).carriers + 2 ≤ grp.markCount + 1 → exec (.carrierMark g home) s =
                   .next (giveTurns [] s (groupFault g .position (s.setGroup g (some counted)))))
               ∧ (home = false → grp.markCount + 1 < (s.geometry g).carriers + 2 → exec (.carrierMark g home) s =
                   .next (giveTurns [] s (s.setGroup g (some counted)))))))
  ∧ (∀ (s : State) (g : Index) (grp : Group), s.groups.get g = some grp →
       (grp.state ≠ .offline → ∀ forward : Bool, exec (.encoderPulse g forward) s =
         .next (s.setGroup g (some { grp with encoder := if forward then grp.encoder + 1 else grp.encoder - 1 })))
       ∧ (grp.state = .offline → ∀ forward : Bool, exec (.encoderPulse g forward) s = .next s)
       ∧ (grp.state = .moving → grp.settle = true → grp.pausePending = false →
           exec (.settleTimerExpiry g) s = .next (giveTurns (if grp.current.isSome then [g, g] else [g]) s
             (s.setGroup g (some { grp with
               state := .idle, settle := false, current := none, arrivalOpen := grp.current.isSome }))))
       ∧ (grp.state = .moving → grp.settle = true → grp.pausePending = true →
           exec (.settleTimerExpiry g) s = .next (giveTurns [] s (s.setGroup g (some { grp with
             state := .paused, pausePending := false, settle := false, current := none, next := none,
             arrivalOpen := false }))))
       ∧ (grp.state = .referencing → grp.settle = true →
           exec (.referencingSettled g) s = .next (giveTurns [g] s (s.setGroup g (some { grp with
             state := .idle, settle := false })))))

/-- R18, R70, R81, R151: taking a group fault. In OFFLINE, in FAULTED and without a group nothing changes. Otherwise RUN falls
with the measurement engine following, CURRENT, NEXT and every pending stop are cleared, k is invalid, the cause is recorded,
scans at the member ports are discarded (an audit task whose scan that was has none in flight then, R143) and GROUP_FAULT is
set, with POSITION_LOST for POSITION. Slots, reservations, stores, orders, profiles and loads stay. What was noted of the
starts of the last arrival ends (log 43).

R16, R17, R18: a stall timer that runs out faults its group with STALL; DFLT is recorded as taken, and taken active it faults
a group that is neither OFFLINE nor FAULTED with DRIVE. -/
def Obligations.GroupFaultTaken : Prop :=
  (∀ (s : State) (g : Index) (cause : FaultCause),
     ((∀ grp, s.groups.get g = some grp → grp.state = .offline ∨ grp.state = .faulted) → groupFault g cause s = s)
     ∧ ∀ grp : Group, s.groups.get g = some grp → grp.state ≠ .offline → grp.state ≠ .faulted →
         ∃ (ports : Quad Port) (tasks : Quad (Option AuditTask)) (flags : BitVec 13),
           groupFault g cause s = { s with
             link := { s.link with flags := flags }
             groups := s.groups.set g (some { grp with
               state := .faulted, k := none, cause := cause, current := none, next := none, pausePending := false,
               arrivalOpen := false, startedHere := Quad.fill false, settle := false, stallTimer := none })
             channels := s.channels.set g { s.channels.get g with run := false, speed := .creep }
             ports := ports
             audit := { s.audit with
               tasks := tasks
               engine := (followRun (s.setChannel g
                 { s.channels.get g with run := false, speed := .creep })).audit.engine } }
           ∧ (∀ p : Index, ports.get p = if p ∈ grp.members then { s.ports.get p with scan := none } else s.ports.get p)
           ∧ (∀ x : Index, (x ∉ grp.members ∨ (s.ports.get x).scan = none → tasks.get x = s.audit.tasks.get x)
               ∧ ∀ sc, x ∈ grp.members → (s.ports.get x).scan = some sc →
                 (sc.user = .audit → tasks.get x = (s.audit.tasks.get x).map fun t => { t with scan := none })
                 ∧ (sc.user ≠ .audit → tasks.get x = s.audit.tasks.get x))
           ∧ (s.link.sampled = true →
               flags = s.link.flags ||| (if cause = .position then 0x300#13 else 0x200#13)))
  ∧ (∀ (s : State) (g : Index) (grp : Group), s.groups.get g = some grp →
       (grp.stallTimer ≠ none → exec (.stallTimerExpiry g) s = .next (groupFault g .stall s))
       ∧ exec (.driveFault g false) s = .next (s.setChannel g { s.channels.get g with dflt := false })
       ∧ exec (.driveFault g true) s =
           .next (groupFault g .drive (s.setChannel g { s.channels.get g with dflt := true })))

/-! ## The torque monitor (R57, R151 to R156) -/

/-- R152: a measurement with counts h and p is converted in its four steps; of a period of 0, which R152 does not divide by,
the duty is a free value (log 6).

R151, R152, R153: a measurement ends the visit of the group measured: a valid sample becomes its last sample and sets the
invalid count to 0, an invalid one, or a visit that ran out, raises the count, and the fourth in a row faults the group with
FEEDBACK. The engine goes on to the next group above the one last visited, counted round, that has RUN high, which is then the
one last visited, or becomes IDLE, the one last visited staying.

R151: where a RUN line rises or falls, the visit of a group whose RUN is high goes on, an IDLE engine begins a visit, and the
visit of a group whose RUN is low is abandoned for the next. -/
def Obligations.TorqueMeasured : Prop :=
  ((∀ h p : Nat, 0 < p → dutyOf h p = 1000 * h / p)
   ∧ ∀ duty fs : Nat,
       (duty < 50 ∨ 950 < duty → torqueOf duty fs = none)
       ∧ (50 ≤ duty → duty < 100 → torqueOf duty fs = some (-(fs : Int)))
       ∧ (100 ≤ duty → duty < 500 → torqueOf duty fs = some (-(((500 - duty) * fs / 400 : Nat) : Int)))
       ∧ (500 ≤ duty → duty ≤ 900 → torqueOf duty fs = some (((duty - 500) * fs / 400 : Nat) : Int))
       ∧ (900 < duty → duty ≤ 950 → torqueOf duty fs = some (fs : Int)))
  ∧ (∀ (s : State) (g : Index) (grp : Group), s.audit.engine.measuring = some g → s.groups.get g = some grp →
       (∀ (h p : Nat) (v : Int), torqueOf (dutyOf h p) grp.params.fullScale = some v →
         exec (.torqueMeasurement h p) s =
           .next (beginVisit (s.setGroup g (some { grp with lastSample := some v, invalidCount := 0 }))))
       ∧ (∀ h p : Nat, torqueOf (dutyOf h p) grp.params.fullScale = none →
           exec (.torqueMeasurement h p) s = exec .torqueVisitTimeout s)
       ∧ (grp.invalidCount < 3 → exec .torqueVisitTimeout s =
           .next (beginVisit (s.setGroup g (some { grp with invalidCount := grp.invalidCount + 1 }))))
       ∧ (grp.invalidCount = 3 → (s.channels.get g).run = true → grp.state = .moving ∨ grp.state = .referencing →
           exec .torqueVisitTimeout s =
             .next (groupFault g .feedback (s.setGroup g (some { grp with invalidCount := 4 })))))
  ∧ ∀ (t : State) (last : Index),
      beginVisit t = t.setAudit { t.audit with engine := match t.nextDriving t.audit.engine.last with
        | some h => { measuring := some h, last := h }
        | none => { measuring := none, last := t.audit.engine.last } }
      ∧ (∀ h : Index, t.audit.engine.measuring = some h →
          ((t.channels.get h).run = true → followRun t = t)
          ∧ ((t.channels.get h).run = false → followRun t = beginVisit t))
      ∧ (t.audit.engine.measuring = none → followRun t = beginVisit t)
      ∧ (t.nextDriving last = none ↔ ∀ h : Index, (t.channels.get h).run = false)
      ∧ (∀ h : Index, t.nextDriving last = some h → (t.channels.get h).run = true
          ∧ ∀ i : Index, (i - last - 1).val < (h - last - 1).val → (t.channels.get i).run = false)

/-- R57, R73, R154: a mark of a move that is neither its first nor its last is compared where a last sample is held: the
expected torque is F + E(k) forward and F − E(k) in reverse, one more sample is compared, and one more is outside when the
deviation exceeds Tt. Every mark reported counts one.

R155, R156, R139: the end of a move by arrival or stop. Two or more samples outside make a deviant move and raise the counter
up to 3; with at least one compared it is otherwise set to 0; with none it stays. The step from 2 to 3 makes a group that is
not BALANCE_SUSPECT so, with the event, and with auto-audit on starts a PRESENCE audit of every carrier of each member
carousel without an open task, in ascending index; each start advances the generation by one, up to 4,294,967,295, and its
task takes it. -/
def Obligations.TorqueSamplesCompared : Prop :=
  (∀ (grp : Group) (k : Nat) (last : Bool),
     (last = true ∨ grp.moveMarks = 0 ∨ grp.lastSample = none →
       grp.reportMark k last = { grp with moveMarks := grp.moveMarks + 1 })
     ∧ ∀ (v e : Int), last = false → grp.moveMarks ≠ 0 → grp.lastSample = some v →
         (e = match grp.moveDir with
           | .forward => (grp.params.friction : Int) + grp.effective.getD k 0
           | .reverse => (grp.params.friction : Int) - grp.effective.getD k 0) →
         grp.reportMark k last = { grp with
           moveMarks := grp.moveMarks + 1
           compared := grp.compared + 1
           outside := if (grp.params.tolerance : Int) < v - e ∨ (grp.params.tolerance : Int) < e - v
             then grp.outside + 1 else grp.outside
           lastCompared := some { offset := k, measured := v, expected := e } })
  ∧ (∀ (s : State) (g : Index) (grp : Group) (n : Nat), s.groups.get g = some grp →
       n = (if 2 ≤ grp.outside then min (grp.deviant + 1) 3 else if 1 ≤ grp.compared then 0 else grp.deviant) →
       (grp.deviant ≠ 2 ∨ n ≠ 3 ∨ grp.suspect = true → judgeMove g s = s.setGroup g (some { grp with deviant := n }))
       ∧ (grp.deviant = 2 → n = 3 → grp.suspect = false →
           (grp.params.autoAudit = false → judgeMove g s =
             raiseEvent .balanceSuspect (s.setGroup g (some { grp with deviant := 3, suspect := true, watch := none })))
           ∧ (grp.params.autoAudit = true → grp.members.Nodup → ∃ (new : Group) (audit : Audit),
               judgeMove g s = raiseEvent .balanceSuspect ((s.setGroup g (some new)).setAudit audit)
               ∧ new = { grp with deviant := 3, suspect := true, watch := new.watch }
               ∧ (new.watch = none ↔ ∀ x ∈ grp.members, s.taskOpen x = true)
               ∧ (∀ w, new.watch = some w → w.spoiled = false
                   ∧ w.carousels = grp.members.filter fun x => !s.taskOpen x)
               ∧ (∀ given : List Index, given = grp.members.filter (fun x => !s.taskOpen x) →
                   (given ≠ [] → audit.generation = min (s.audit.generation + given.length) 4294967295)
                   ∧ (given = [] → audit.generation = s.audit.generation)
                   ∧ ∀ (i : Nat) (x : Index), given[i]? = some x → ∃ t : AuditTask, audit.tasks.get x = some t
                       ∧ t.generation = min (s.audit.generation + i + 1) 4294967295)
               ∧ audit.log = s.audit.log ∧ audit.entryCounter = s.audit.entryCounter ∧ audit.engine = s.audit.engine
               ∧ (∀ x : Index, (x ∉ grp.members ∨ s.taskOpen x = true → audit.tasks.get x = s.audit.tasks.get x)
                   ∧ (x ∈ grp.members → s.taskOpen x = false → ∃ t : AuditTask, audit.tasks.get x = some t
                       ∧ t.state = .running ∧ t.origin = .auto ∧ t.check = .presence
                       ∧ t.selection = .span 0 (s.geometry g).carriers ∧ t.findings = 0 ∧ t.scan = none
                       ∧ t.list = List.range (s.geometry g).carriers)))))

/-! ## The ports (R75 to R93) -/

/-- R76 (log 25): the first judgement of a port after power-on or RESET ALL, from its stable inputs: HOME_EMPTY where home is
active, extended inactive and load clear, else FAULTED with jam kind START. It comes once.

R75, R93, R9, R84, R86: an input taken at a port is recorded and, unless it completes a transfer under way
(`TransfersComplete`), starts nothing; during a transfer, home taken inactive is noted for its completion. Home taken inactive
while RUN of the port's group is high faults that group with INTERLOCK, whatever the shuttle state (log 46). -/
def Obligations.PortInputsTaken : Prop :=
  (∀ (s : State) (p : Index) (home extended load : Bool),
     ((s.ports.get p).awaitingRest = false → exec (.portRestJudgement p home extended load) s = .next s)
     ∧ ((s.ports.get p).awaitingRest = true →
         exec (.portRestJudgement p home extended load) s = .next (s.setPort p { s.ports.get p with
           home := home, extended := extended, load := load, awaitingRest := false
           shuttle := if home = true ∧ extended = false ∧ load = false then .homeEmpty else .faulted
           fault := if home = true ∧ extended = false ∧ load = false then none else some .start })))
  ∧ (∀ (s : State) (p : Index) (i : PortInput) (v : Bool) (port : Port),
       port = { s.ports.get p with
         home := if i = .home then v else (s.ports.get p).home
         extended := if i = .extended then v else (s.ports.get p).extended
         load := if i = .load then v else (s.ports.get p).load
         presence := match i with
           | .presence l => (s.ports.get p).presence.set l.val v
           | _ => (s.ports.get p).presence
         job := (s.ports.get p).job.map fun j => { j with leftHome := j.leftHome || (i == .home && !v) } } →
       (∀ j : Job, port.job = some j → j.leftHome = true → port.home = true → port.extended = false →
         (port.shuttle = .inserting → port.presence.getD j.level false = false)
         ∧ (port.shuttle = .extracting → port.presence.getD j.level false = true ∨ port.load = false)) →
       ((i ≠ .home ∨ v = true ∨ s.driving p = false) →
           exec (.shuttleInputChange p i v) s = .next (giveTurns [] s (s.setPort p port)))
       ∧ (∀ g : Index, i = .home → v = false → s.groupOf p = some g → (s.channels.get g).run = true →
           exec (.shuttleInputChange p i v) s = .next (giveTurns [] s (groupFault g .interlock (s.setPort p port)))))

/-- R32, R49, R83: an insertion begins where the port is ready (HOME_EMPTY, load clear, no scan), its group IDLE in NORMAL
with the chosen carrier at the port, and the slot is reserved in for it (else nothing): a gate that fails makes the store
wait; one that passes adds m to E, counts it in the slot, raises the Insert output and starts the transfer with its timer.

R33, R49, R85: after a face check that matches, an extraction begins where the port is still ready with the carrier there
(else nothing): a gate that fails makes the line wait; one that passes takes the recorded mass from E, counts 0 in the slot,
makes the line EXTRACTING, raises the Extract output and starts the transfer with its timer.

R50, R51, R52 (log 43): each start is noted in the group. A task that fails its gate after a transfer has started at another
member port at the same arrival, in flight still or completed or jammed since, is reconsidered by that start, unless it was
reconsidered already.

R2, R82, R83, R167: a carrier is at a port only where its group is IDLE with k valid and the device is NORMAL.

R47 to R49: the placement query answers LIMIT above the level or carrier limit (incoming masses in phase PLANNED included),
else compares the peak of P with m at the carrier with Lp; the transfer gate compares the peak of E with the change with
Ld. -/
def Obligations.TransfersStart : Prop :=
  (∀ (s : State) (p g : Index) (grp : Group) (r : StoreRecord) (c l m : Nat) (tag : Id32) (sl : Slot),
     (s.ports.get p).shuttle = .homeEmpty → (s.ports.get p).load = false → (s.ports.get p).scan = none →
     s.stores.get p = some r → r.state = .placed → r.chosen = some (c, l) → s.carrierAt p = some c →
     s.slot? p c l = some sl → sl.reservation = .inbound p tag m .planned → s.groupOf p = some g →
     s.groups.get g = some grp →
     (gatePasses s g c m = false →
       ((∃ x ∈ grp.members, x ≠ p ∧ grp.startedHere.get x = true) →
         r.cond ≠ .reconsidered → askInsertion p s =
           (raiseEvent .balanceWait (s.setStore p (some { r with cond := .reconsidered })), false))
       ∧ ((∀ x ∈ grp.members, x = p ∨ grp.startedHere.get x = false)
           ∨ r.cond = .reconsidered → askInsertion p s =
           (raiseEvent .balanceWait (s.setStore p (some { r with cond := .balanceWait })), false)))
     ∧ (gatePasses s g c m = true → ∃ u : State,
         askInsertion p s = (u, true)
         ∧ u.slot? p c l = some { sl with counted := m, reservation := .inbound p tag m .started }
         ∧ (∃ grp', (handMass p c m .effective s).groups.get g = some grp'
             ∧ u.groups = (handMass p c m .effective s).groups.set
                 g (some { grp' with startedHere := grp.startedHere.set p true }))
         ∧ u.ports = s.ports.set p { s.ports.get p with
             shuttle := .inserting, insertOut := true, job := some { carrier := c, level := l, leftHome := false },
             transferTimer := some s.station.settings.transferTimeout }
         ∧ (∃ r' : StoreRecord, u.stores.get p = some r' ∧ r'.state = .inserting ∧ r'.tag = r.tag
             ∧ r'.chosen = r.chosen ∧ r'.measured = r.measured)
         ∧ u.channels = s.channels ∧ u.station = s.station ∧ u.audit = s.audit ∧ u.link = s.link))
  ∧ (∀ (s : State) (p g : Index) (grp : Group) (id : Id32) (seq c l : Nat) (sl : Slot),
       (s.ports.get p).shuttle = .homeEmpty → (s.ports.get p).load = false → (s.ports.get p).scan = none →
       s.carrierAt p = some c → s.slot? p c l = some sl → s.groupOf p = some g → s.groups.get g = some grp →
       (gatePasses s g c (-(sl.recorded : Int)) = false →
         ((∃ x ∈ grp.members, x ≠ p ∧ grp.startedHere.get x = true) →
           (∀ ln, s.findLine id seq = some ln → ln.state ≠ .balanceWait true) → askExtraction p id seq c l sl s =
             raiseEvent .balanceWait (s.setLine id seq (.balanceWait true)))
         ∧ ((∀ x ∈ grp.members, x = p ∨ grp.startedHere.get x = false)
             ∨ (∃ ln, s.findLine id seq = some ln ∧ ln.state = .balanceWait true) → askExtraction p id seq c l sl s =
             raiseEvent .balanceWait (s.setLine id seq (.balanceWait false))))
       ∧ (gatePasses s g c (-(sl.recorded : Int)) = true → ∃ u : State,
           askExtraction p id seq c l sl s = u
           ∧ u.slot? p c l = some { sl with counted := 0, reservation := .outbound id seq .started }
           ∧ (∃ grp', (handMass p c (-(sl.recorded : Int)) .effective s).groups.get g = some grp'
               ∧ u.groups = (handMass p c (-(sl.recorded : Int)) .effective s).groups.set
                   g (some { grp' with startedHere := grp.startedHere.set p true }))
           ∧ u.ports = s.ports.set p { s.ports.get p with
               shuttle := .extracting, extractOut := true, job := some { carrier := c, level := l, leftHome := false },
               transferTimer := some s.station.settings.transferTimeout }
           ∧ (∀ ln, s.findLine id seq = some ln → ∃ ln', u.findLine id seq = some ln' ∧ ln'.state = .extracting)
           ∧ u.channels = s.channels ∧ u.station = s.station ∧ u.audit = s.audit ∧ u.link = s.link))
  ∧ (∀ (s : State) (p : Index) (busy : Prop),
       (busy ↔ (s.ports.get p).shuttle ≠ .homeEmpty ∨ (s.ports.get p).load = true ∨ (s.ports.get p).scan ≠ none) →
       (∀ c, s.carrierAt p = some c ↔ s.link.mode = .normal ∧ ∃ (g : Index) (grp : Group) (k : Nat), s.groupOf p = some g
         ∧ s.groups.get g = some grp ∧ grp.state = .idle ∧ grp.k = some k
         ∧ c = ((s.geometry g).port + ((s.geometry g).carriers - k % (s.geometry g).carriers)) % (s.geometry g).carriers)
       ∧ (busy ∨ s.carrierAt p = none ∨ s.stores.get p = none ∨ (∃ r, s.stores.get p = some r ∧ (r.state ≠ .placed
           ∨ ∀ c l, r.chosen = some (c, l) → s.carrierAt p ≠ some c)) → askInsertion p s = (s, false))
       ∧ ∀ (id : Id32) (seq c l : Nat) (sl : Slot), busy ∨ s.carrierAt p ≠ some c → askExtraction p id seq c l sl s = s)
  ∧ (∀ (s : State) (g x : Index) (cfg : CarouselConfig) (grp : Group) (c l m : Nat) (dm : Int),
       (s.carousels.get x).config = some cfg → s.groups.get g = some grp →
       (cfg.levelLimits.getD l 0 < m ∨ cfg.carrierLimit < carrierLoad (s.carrierSlots x c) + m →
         placementQuery s g x c l m = .limit)
       ∧ (m ≤ cfg.levelLimits.getD l 0 → carrierLoad (s.carrierSlots x c) + m ≤ cfg.carrierLimit →
           placementQuery s g x c l m = if trialPeak (s.geometry g) grp.planned c m ≤ grp.params.lp
             then .pass (trialPeak (s.geometry g) grp.planned c m) else .gate (trialPeak (s.geometry g) grp.planned c m))
       ∧ (gatePasses s g c dm = true ↔ trialPeak (s.geometry g) grp.effective c dm ≤ grp.params.ld)
       ∧ ∀ (e : List Int) (n : Nat), e.length = (s.geometry g).carriers →
           (trialPeak (s.geometry g) e c dm ≤ n ↔ ∀ k, k < (s.geometry g).carriers →
             (e.getD k 0 + leverWeight (s.geometry g).carriers (s.geometry g).bend ((c + k) % (s.geometry g).carriers)
               * dm).natAbs ≤ n))

/-- R32, R84 (log 11: INSERTION_COMPLETE and EXTRACTION_COMPLETE carry that change): an insertion completes with the input
change after which home is active, extended inactive and the slot's level present, home having been inactive since it began:
the Insert output falls, the slot is HELD with the store's tag, set id, member and the incoming mass, the store DONE, the
shuttle HOME_EMPTY, and the scheduler has its turn.

R33, R86, R126: an extraction completes with the input change after which home is active, extended inactive, the slot's level
clear and the deck loaded, home having been inactive since it began: the Extract output falls, the slot is free, the load
record formed, the shuttle HOME_LOADED, the line ON_SHUTTLE, the gate judged, and the scheduler has its turn. -/
def Obligations.TransfersComplete : Prop :=
  (∀ (s : State) (p : Index) (i : PortInput) (v : Bool) (j : Job) (r : StoreRecord) (sl : Slot) (tag : Id32) (m : Nat)
     (port : Port),
     (s.ports.get p).shuttle = .inserting → (s.ports.get p).job = some j → s.stores.get p = some r →
     s.slot? p j.carrier j.level = some sl → sl.reservation = .inbound p tag m .started →
     port = (s.ports.get p).take i v → (i ≠ .home ∨ v = true) → j.leftHome = true → port.home = true →
     port.extended = false → port.presence.getD j.level false = true → ∃ u : State,
       u = raiseEvent .storeDone (((s.setSlot p j.carrier j.level { sl with
           content := .held, tag := r.tag, setId := r.setId, member := r.member, recorded := m,
           reservation := .none }).setStore p (some { r with state := .done })).setPort p { port with
         shuttle := .homeEmpty, insertOut := false, job := none, transferTimer := none })
       ∧ exec (.insertionComplete p i v) s = .next (giveTurns (s.groupOf p).toList s u)
       ∧ exec (.shuttleInputChange p i v) s = .next (giveTurns (s.groupOf p).toList s u))
  ∧ (∀ (s : State) (p : Index) (i : PortInput) (v : Bool) (j : Job) (sl : Slot) (id : Id32) (seq : Nat) (port : Port),
       (s.ports.get p).shuttle = .extracting → (s.ports.get p).job = some j →
       s.slot? p j.carrier j.level = some sl → sl.reservation = .outbound id seq .started →
       port = (s.ports.get p).take i v → (i ≠ .home ∨ v = true) → j.leftHome = true → port.home = true →
       port.extended = false → port.presence.getD j.level false = false → port.load = true → ∃ u : State,
         u = judgeGate (((s.setSlot p j.carrier j.level { sl with
             content := .empty, tag := 0#32, setId := 0#32, member := 0, recorded := 0, reservation := .none }).setPort p
           { port with
             shuttle := .homeLoaded, extractOut := false, job := none, transferTimer := none
             loadRec := some { tag := sl.tag, mass := sl.recorded, order := id, line := seq } }).setLine id seq .onShuttle)
         ∧ exec (.extractionComplete p i v) s = .next (giveTurns (s.groupOf p).toList s u)
         ∧ exec (.shuttleInputChange p i v) s = .next (giveTurns (s.groupOf p).toList s u))

/-- R88, R89, R90, R77: a transfer timer that runs out jams its transfer, and the transfer's output falls. Insertion: the slot
BLOCKED, HELD with the incoming item, the store REJECTED(JAM). Extraction: the slot BLOCKED, the line SHORT(JAM). Release: the
load stays on the deck, its line ON_SHUTTLE again, no release in progress. The port is FAULTED and PORT_FAULT is set.

R109, R113, R122, R126 (log 34: at every such line): a line made SHORT is SHORT with its reason, ORDER_SHORT is set, and its
order and then the merge gate are judged. Every other line stays. -/
def Obligations.TransferJams : Prop :=
  (∀ (s : State) (p : Index), (s.ports.get p).transferTimer ≠ none →
     (∀ (j : Job) (r : StoreRecord) (sl : Slot) (tag : Id32) (m : Nat), (s.ports.get p).shuttle = .inserting →
       (s.ports.get p).job = some j → s.stores.get p = some r → s.slot? p j.carrier j.level = some sl →
       sl.reservation = .inbound p tag m .started →
       exec (.transferTimerExpiry p) s = .next (giveTurns (s.groupOf p).toList s
         (raiseEvent .storeRejected (raiseEvent .portFault (((s.setSlot p j.carrier j.level { sl with
             content := .held, tag := r.tag, setId := r.setId, member := r.member, recorded := m, reservation := .none,
             condition := .blocked, finding := some .insertJam }).setStore p
           (some { r with state := .rejected .jam })).setPort p { s.ports.get p with
             shuttle := .faulted, insertOut := false, job := none, transferTimer := none
             fault := some (.insert p j.carrier j.level p) })))))
     ∧ (∀ (j : Job) (sl : Slot) (id : Id32) (seq : Nat), (s.ports.get p).shuttle = .extracting →
         (s.ports.get p).job = some j → s.slot? p j.carrier j.level = some sl →
         sl.reservation = .outbound id seq .started →
         exec (.transferTimerExpiry p) s = .next (giveTurns (s.groupOf p).toList s
           (makeShort id seq .jam (raiseEvent .portFault ((s.setSlot p j.carrier j.level { sl with
               condition := .blocked, reservation := .none, finding := some .extractJam }).setPort p { s.ports.get p with
               shuttle := .faulted, extractOut := false, job := none, transferTimer := none
               fault := some (.extract j.carrier j.level id seq) })))))
     ∧ (∀ lr : LoadRecord, (s.ports.get p).shuttle = .releasing → (s.ports.get p).loadRec = some lr →
         exec (.transferTimerExpiry p) s = .next (giveTurns [] s (judgeGate (raiseEvent .portFault
           (((s.setPort p { s.ports.get p with
               shuttle := .faulted, releaseOut := false, transferTimer := none, fault := some .release }).setLine
             lr.order lr.line .onShuttle).setStation { s.station with releasePort := none }))))))
  ∧ (∀ (s : State) (id : Id32) (seq : Nat) (l : Line) (why : ShortReason), s.findLine id seq = some l →
       ∃ (flags : BitVec 13) (sch : Scheduler) (u : State),
         u = { s with link := { s.link with flags := flags }, sched := sch }
         ∧ makeShort id seq why s = judgeGate (judgeOrder id u)
         ∧ u.findLine id seq = some { l with state := .short why }
         ∧ (∀ (id' : Id32) (seq' : Nat), id' ≠ id ∨ seq' ≠ seq → u.findLine id' seq' = s.findLine id' seq')
         ∧ (s.link.sampled = true → flags = s.link.flags ||| 0x8#13)
         ∧ sch = { s.sched with orders := sch.orders })

/-- R81, R82, R143: a face tag answer makes the report of a named level that had none, absent where its presence line is clear
by then; a scan with every level reported, or one that times out (each level without a report then as no report), ends and its
reports go to the audit comparison or the face check. The group then has its turn.

R33, R82: a face check against a slot still reserved out for its line: the recorded tag leads to the extraction; an absent
item makes the line SHORT(MISSING), another tag or no readable tag SHORT(WRONG_TAG), with the slot SUSPECT, its reservation
released and its mass planned again. A slot no longer reserved so is left alone, and the check of a line withdrawn since it
began has no effect (R121). -/
def Obligations.ScansAndFaceChecks : Prop :=
  (∀ (s : State) (p : Index) (sc : Scan), (s.ports.get p).scan = some sc →
     (∀ (level : Fin 6) (answer : Option Id32) (sc' : Scan),
       sc' = { sc with levels := sc.levels.map fun e =>
         if e.level = level.val ∧ e.report = none then
           { e with report := some (if (s.ports.get p).presence.getD level.val false = false then .absent
               else match answer with
                 | some t => .tag t
                 | none => .noRead) }
         else e } →
       ((∃ e ∈ sc'.levels, e.report = none) → exec (.faceTagAnswer p level answer) s =
         .next (giveTurns [] s (s.setPort p { s.ports.get p with scan := some sc' })))
       ∧ ((∀ e ∈ sc'.levels, e.report ≠ none) → ∃ u : State,
           u = endScan p (s.setPort p { s.ports.get p with scan := some sc' })
           ∧ exec (.faceTagAnswer p level answer) s =
             .next (giveTurns (if (u.ports.get p).scan = none then (s.groupOf p).toList else []) s u)))
     ∧ (∃ u : State, u = endScan p s
         ∧ exec (.scanTimeout p) s =
           .next (giveTurns (if (u.ports.get p).scan = none then (s.groupOf p).toList else []) s u))
     ∧ (sc.user = .withdrawn → endScan p s = s.setPort p { s.ports.get p with scan := none })
     ∧ (sc.user = .audit → endScan p s = auditComparison p sc (s.setPort p { s.ports.get p with scan := none }))
     ∧ (∀ (id : Id32) (seq : Nat) (e : LevelEntry) (es : List LevelEntry), sc.user = .faceCheck id seq →
         sc.levels = e :: es → endScan p s = endFaceCheck p id seq sc.carrier e.level (e.report.getD .noReport)
           (s.setPort p { s.ports.get p with scan := none })))
  ∧ (∀ (s : State) (p : Index) (id : Id32) (seq c l : Nat) (sl : Slot) (rep : LevelReport), s.slot? p c l = some sl →
       (sl.reservation ≠ .outbound id seq .planned → endFaceCheck p id seq c l rep s = s)
       ∧ (sl.reservation = .outbound id seq .planned →
           (rep = .tag sl.tag → endFaceCheck p id seq c l rep s = askExtraction p id seq c l sl s)
           ∧ ∀ (f : Finding) (why : ShortReason),
               ((rep = .absent ∧ f = .missing ∧ why = .missing)
                 ∨ (∃ t, rep = .tag t ∧ t ≠ sl.tag ∧ f = .wrongTag ∧ why = .wrongTag)
                 ∨ ((rep = .noRead ∨ rep = .noReport ∨ rep = .present) ∧ f = .unreadable ∧ why = .wrongTag)) →
               endFaceCheck p id seq c l rep s = makeShort id seq why (handMass p c (sl.recorded : Int) .planned
                 (s.setSlot p c l { sl with condition := .suspect, reservation := .none, finding := some f }))))

/-! ## Put-away (R78 to R80, R94 to R106) -/

/-- R78, R98: the infeed tag read. The declared tag begins a weighing; another tag, no read, or no answer within 1 s rejects
the store with TAG and STORE_REJECTED.

R79, R80: a weighing takes 32 samples of 0 to 1,000 dkg. A saturated one rejects the store with MASS; the 32nd ends the
weighing: a spread above 4 dkg begins another or, after the third, rejects it with UNSTABLE; a mean (rounded half up) of 0 or
above the largest level limit rejects it with MASS; otherwise the mean is its measured mass and placement runs.

R94, R98, R102: a store rejected before its insertion is REJECTED with its reason, its infeed work is over, and STORE_REJECTED
is set, and no other flag. -/
def Obligations.InfeedTagAndWeighing : Prop :=
  (∀ (s : State) (p : Index) (r : StoreRecord), (s.ports.get p).infeed = some .awaitTag → s.stores.get p = some r →
     exec (.infeedTagAnswer p (some r.tag)) s =
       .next (s.setPort p { s.ports.get p with infeed := some (.weighing 0 0 0 1000) })
     ∧ (∀ a : Option Id32, a ≠ some r.tag → exec (.infeedTagAnswer p a) s = .next (raiseEvent .storeRejected
         ((s.setPort p { s.ports.get p with infeed := none }).setStore p (some { r with state := .rejected .tag }))))
     ∧ exec (.infeedTagTimeout p) s = .next (raiseEvent .storeRejected
         ((s.setPort p { s.ports.get p with infeed := none }).setStore p (some { r with state := .rejected .tag }))))
  ∧ (∀ (s : State) (p : Index) (r : StoreRecord) (n sum hi lo v : Nat) (reading : Int),
       (s.ports.get p).infeed = some (.weighing n sum hi lo) → s.stores.get p = some r → v = min reading.toNat 1000 →
       (v = 1000 → exec (.weighingSample p reading) s = .next (giveTurns [] s
         (rejectStore p .mass (s.setStore p (some { r with weighings := r.weighings + 1 })))))
       ∧ (v ≠ 1000 → n ≠ 31 → exec (.weighingSample p reading) s = .next (giveTurns [] s
           (s.setPort p { s.ports.get p with infeed := some (.weighing (n + 1) (sum + v) (max hi v) (min lo v)) })))
       ∧ (v ≠ 1000 → n = 31 → ∀ (s' : State) (mean : Nat),
           s' = s.setStore p (some { r with weighings := r.weighings + 1 }) → mean = (sum + v + 16) / 32 →
           (4 < max hi v - min lo v → r.weighings < 2 → exec (.weighingSample p reading) s = .next (giveTurns [] s
             (s'.setPort p { s.ports.get p with infeed := some (.weighing 0 0 0 1000) })))
           ∧ (4 < max hi v - min lo v → 2 ≤ r.weighings → exec (.weighingSample p reading) s =
               .next (giveTurns [] s (rejectStore p .unstable s')))
           ∧ (max hi v - min lo v ≤ 4 → (mean = 0 ∨ s.largestLimit p < mean) → exec (.weighingSample p reading) s =
               .next (giveTurns [] s (rejectStore p .mass s')))
           ∧ (max hi v - min lo v ≤ 4 → mean ≠ 0 → mean ≤ s.largestLimit p → ∃ r' : StoreRecord,
               exec (.weighingSample p reading) s = .next (giveTurns [] s (runPlacement p r' mean (s.setStore p (some r'))))
               ∧ r' = { r with
                   weighings := r.weighings + 1, measured := some mean
                   corrected := decide (s.station.settings.massTolerance < mean - r.declared
                     ∨ s.station.settings.massTolerance < r.declared - mean) })))
  ∧ (∀ (s : State) (p : Index) (r : StoreRecord) (why : StoreReason) (u : State), s.stores.get p = some r →
       u = (s.setPort p { s.ports.get p with infeed := none }).setStore p (some { r with state := .rejected why }) →
       rejectStore p why s = raiseEvent .storeRejected u
       ∧ (s.link.sampled = true → ∀ e : Event, (rejectStore p why s).flagSet e = (s.flagSet e || e == .storeRejected)))

/-- R98 to R102: the candidates are exactly the free slots whose level limit is at least m. Placement chooses, among those
whose placement query passes, the one with the lowest key (affinity class, trial peak, rotation distance, carrier, level),
reserves it in, adds m to P and makes the store PLACED; without one the store is rejected with BALANCE where some query failed
its gate, else with NO_SLOT.

R100: the affinity class is 0 where a nonzero set id of the store is on the same carrier of some member, in a HELD slot or in
one reserved in by a store record of that set; else 1 for the hint carrier; else 2.

R101, R55: the rotation distance is the smaller of the forward and reverse distances to the carrier's target, from CURRENT's
target while MOVING with CURRENT filled, else from k; with k invalid it is 0. -/
def Obligations.PlacementChoosesSlot : Prop :=
  (∀ (grp : Group) (geo : Geometry) (c ref t : Nat), c < geo.carriers → ref < geo.carriers →
       t = (geo.port + (geo.carriers - c)) % geo.carriers →
       ((∃ m, grp.state = .moving ∧ grp.current = some m ∧ m.target = ref)
         ∨ ((grp.state ≠ .moving ∨ grp.current = none) ∧ grp.k = some ref) →
         grp.distanceTo geo c = min ((t + geo.carriers - ref) % geo.carriers) ((ref + geo.carriers - t) % geo.carriers))
       ∧ (grp.state ≠ .moving ∨ grp.current = none → grp.k = none → grp.distanceTo geo c = 0))
  ∧ (∀ (s : State) (g : Index) (grp : Group) (r : StoreRecord) (c : Nat) (shared : Prop), s.groups.get g = some grp →
       (shared ↔ r.setId ≠ 0#32 ∧ ∃ x ∈ grp.members, ∃ sl ∈ s.carrierSlots x c,
         (sl.content = .held ∧ sl.setId = r.setId)
         ∨ ∃ (q : Index) (tag : Id32) (m : Nat) (ph : Phase) (rec : StoreRecord),
             sl.reservation = .inbound q tag m ph ∧ s.stores.get q = some rec ∧ rec.setId = r.setId) →
       (shared → affinity s g r c = 0)
       ∧ (¬shared → r.hint = some c → affinity s g r c = 1)
       ∧ (¬shared → r.hint ≠ some c → affinity s g r c = 2))
  ∧ ∀ (s : State) (p g : Index) (grp : Group) (cfg : CarouselConfig) (r : StoreRecord) (m : Nat) (cands : List Candidate),
    s.groupOf p = some g → s.groups.get g = some grp → (s.carousels.get p).config = some cfg →
    cands = candidates s g p grp cfg r m →
    (∀ c ∈ cands, ∃ sl, s.slot? p c.carrier c.level = some sl ∧ sl.content = .empty ∧ sl.condition = .clear
      ∧ sl.reservation = .none ∧ m ≤ cfg.levelLimits.getD c.level 0
      ∧ c.answer = placementQuery s g p c.carrier c.level m
      ∧ c.key = [affinity s g r c.carrier, c.answer.passed.getD 0, grp.distanceTo (s.geometry g) c.carrier, c.carrier,
          c.level])
    ∧ (∀ (c l : Nat) (sl : Slot), s.slot? p c l = some sl → sl.content = .empty → sl.condition = .clear →
        sl.reservation = .none → m ≤ cfg.levelLimits.getD l 0 → ∃ d ∈ cands, d.carrier = c ∧ d.level = l)
    ∧ (∀ (c : Candidate) (t : Nat), c ∈ cands → c.answer = .pass t →
        (∀ d ∈ cands, (∃ t', d.answer = .pass t') → d = c ∨ lexLt c.key d.key = true) →
        ∃ sl, s.slot? p c.carrier c.level = some sl ∧ ∃ u : State,
          u = handMass p c.carrier (m : Int) .planned
            (s.setSlot p c.carrier c.level { sl with reservation := .inbound p r.tag m .planned })
          ∧ runPlacement p r m s = ((u.setPort p { s.ports.get p with infeed := none }).setSched { u.sched with
              placedOrder := s.sched.placedOrder ++ [p] }).setStore p (some { r with
              state := .placed, chosen := some (c.carrier, c.level), trialPeak := some t, waited := some 0,
              promoted := false, cond := .pending }))
    ∧ ((∀ c ∈ cands, ∀ t, c.answer ≠ .pass t) → (∃ c ∈ cands, ∃ t, c.answer = .gate t) →
        runPlacement p r m s = rejectStore p .balance s)
    ∧ ((∀ c ∈ cands, c.answer = .limit) → runPlacement p r m s = rejectStore p .noSlot s)

/-- R96, R97: STORE, refused in order: RANGE by field, STATE 0xFF for a carousel without a group, STATE 0xFE for a group
neither IDLE nor MOVING, RANGE 5 for a hint outside the carousel, BUSY for a store not DONE, CONFLICT with the place of a tag
held; else the record opens in WEIGHING and the infeed tag read is asked. -/
def Obligations.StoreOpensRecord : Prop :=
  ∀ (s : State) (q : List Byte) (r : StoreRequest), s.Listens → q.length = 13 → readStore q = r →
    (4 ≤ r.port → exec (.store q) s = .next (s.heard.refusing 0x30#8 .range 0))
    ∧ ∀ p : Index, r.port = p.val →
        (r.tag = 0#32 → exec (.store q) s = .next (s.heard.refusing 0x30#8 .range 1))
        ∧ (r.tag ≠ 0#32 → (r.declared = 0 ∨ 1000 < r.declared) →
            exec (.store q) s = .next (s.heard.refusing 0x30#8 .range 2))
        ∧ (r.tag ≠ 0#32 → 1 ≤ r.declared → r.declared ≤ 1000 → (4 < r.member ∨ (r.member ≠ 0 ∧ r.setId = 0#32)) →
            exec (.store q) s = .next (s.heard.refusing 0x30#8 .range 4))
        ∧ (r.tag ≠ 0#32 → 1 ≤ r.declared → r.declared ≤ 1000 → r.member ≤ 4 → (r.member = 0 ∨ r.setId ≠ 0#32) →
            ((s.carousels.get p).config = none ∨ s.groupOf p = none →
              exec (.store q) s = .next (s.heard.refusing 0x30#8 .state 0xFF))
            ∧ ∀ (g : Index) (grp : Group), (s.carousels.get p).config ≠ none → s.groupOf p = some g →
                s.groups.get g = some grp →
                (grp.state ≠ .idle → grp.state ≠ .moving →
                  exec (.store q) s = .next (s.heard.refusing 0x30#8 .state 0xFE))
                ∧ (grp.state = .idle ∨ grp.state = .moving →
                    (r.hint ≠ 0xFF → s.carriersOf p ≤ r.hint →
                      exec (.store q) s = .next (s.heard.refusing 0x30#8 .range 5))
                    ∧ ((r.hint = 0xFF ∨ r.hint < s.carriersOf p) →
                        (∀ rec, s.stores.get p = some rec → rec.state ≠ .done →
                          exec (.store q) s = .next (s.heard.refusing 0x30#8 .busy 0xFF))
                        ∧ ((∀ rec, s.stores.get p = some rec → rec.state = .done) →
                            (∀ pl, tagPlace s r.tag = some pl →
                              exec (.store q) s = .next (s.heard.refusing 0x30#8 .conflict pl.code))
                            ∧ (tagPlace s r.tag = none →
                                exec (.store q) s = .next (((s.heard.setStore p (some
                                  { state := .weighing, tag := r.tag, declared := r.declared, setId := r.setId,
                                    member := r.member, hint := if r.hint = 0xFF then none else some r.hint,
                                    weighings := 0, measured := none, corrected := false, chosen := none,
                                    trialPeak := none, waited := none, promoted := false, cond := .pending })).setPort p
                                  { s.ports.get p with infeed := some .awaitTag }).replying 0x30#8 []))))))

/-- R32, R105, R106, R95: STORE_WITHDRAW of a port: RANGE 0 for an index above 3, as STORE_QUERY is; NOT_FOUND where its
record is free, STATE where it is INSERTING or DONE; WEIGHING ends as REJECTED(WITHDRAWN) with the infeed work over; PLACED
releases its reservation and takes m from P; REJECTED is freed. The ACK carries the state before. STORE_QUERY answers the
record and frees one that is DONE or REJECTED.

R103 (log 13): a whole second for the PLACED stores of the ports named: each has waited one second more, up to 65,535, and is
promoted once it has waited the store patience, which stays. Every other store stays as it is. -/
def Obligations.StoreEndsAndWaits : Prop :=
  (∀ (s : State) (b : Byte), s.Listens → 4 ≤ b.toNat →
     exec (.storeWithdraw [b]) s = .next (s.heard.refusing 0x31#8 .range 0)
     ∧ exec (.storeQuery [b]) s = .next (s.heard.refusing 0x32#8 .range 0))
  ∧ (∀ (s : State) (p : Index) (b : Byte), s.Listens → b = BitVec.ofNat 8 p.val →
     (s.stores.get p = none → exec (.storeWithdraw [b]) s = .next (s.heard.refusing 0x31#8 .notFound 0xFF)
       ∧ exec (.storeQuery [b]) s = .next (s.heard.replying 0x32#8 (storeBytes none)))
     ∧ ∀ r : StoreRecord, s.stores.get p = some r →
         (r.state = .inserting ∨ r.state = .done →
           exec (.storeWithdraw [b]) s = .next (s.heard.refusing 0x31#8 .state 0xFF))
         ∧ (r.state = .weighing → exec (.storeWithdraw [b]) s = .next ((giveTurns [] s.heard
             ((s.heard.setStore p (some { r with state := .rejected .withdrawn })).setPort p
               { s.ports.get p with infeed := none })).replying 0x31#8 [1#8, 0#8]))
         ∧ (∀ (c l m : Nat) (tag : Id32) (sl : Slot), r.state = .placed → r.chosen = some (c, l) →
             s.slot? p c l = some sl → sl.reservation = .inbound p tag m .planned → ∃ u : State,
               u = handMass p c (-(m : Int)) .planned (s.heard.setSlot p c l { sl with reservation := .none })
               ∧ exec (.storeWithdraw [b]) s = .next ((giveTurns [] s.heard ((u.setSched { u.sched with
                   placedOrder := s.sched.placedOrder.filter (· != p) }).setStore p
                     (some { r with state := .rejected .withdrawn }))).replying 0x31#8 [2#8, 0#8]))
         ∧ (∀ why, r.state = .rejected why → exec (.storeWithdraw [b]) s =
             .next ((giveTurns [] s.heard (s.heard.setStore p none)).replying 0x31#8 [5#8, BitVec.ofNat 8 why.code]))
         ∧ exec (.storeQuery [b]) s = .next ((if r.ended then s.heard.setStore p none else s.heard).replying 0x32#8
             (storeBytes (some r))))
  ∧ (∀ (s : State) (ports : BitVec 4), ∃ sts : Quad (Option StoreRecord),
       exec (.storeTimeTick ports) s = .next (giveTurns [] s { s with stores := sts })
       ∧ ∀ p : Index,
           ((ports.getLsbD p.val = false ∨ ∀ r, s.stores.get p = some r → r.state ≠ .placed) →
             sts.get p = s.stores.get p)
           ∧ ∀ r, s.stores.get p = some r → r.state = .placed → ports.getLsbD p.val = true →
               sts.get p = some { r with
                 waited := some (min (r.waited.getD 0 + 1) 65535)
                 promoted := r.promoted
                   || decide (s.station.settings.storePatience ≤ min (r.waited.getD 0 + 1) 65535) })

/-! ## Orders and the scheduler (R108 to R122) -/

/-- R110, R173: the refusals of ORDER_OPEN in order: RANGE 0 for id 0, RANGE 2 for a count that is not 1 to 8 or not the
number of tags, RANGE line + 2 for a tag 0, FULL, CONFLICT 0xFF for an id in the table, CONFLICT with the later line of a
repeated tag, NOT_FOUND with the first line whose tag is in no slot, UNAVAILABLE with the first whose slot is not stocked or
not in service.

R33, R108, R111: an accepted ORDER_OPEN fills the lowest free entry with a QUEUED order of the next open sequence number and
the priority clamped to 3, one RESERVED line for each tag from its slot, reserves each slot out and takes its mass from P;
then activation is judged and the turns are given. The ACK carries the entry's index, open sequence, state and lane as
judged. -/
def Obligations.OrderOpenReserves : Prop :=
  (∀ (s : State) (q : List Byte) (r : OrderRequest), s.Listens → (∃ n, 1 ≤ n ∧ n ≤ 8 ∧ q.length = 6 + 4 * n) →
     readOrder q = r →
     (r.id = 0#32 → exec (.orderOpen q) s = .next (s.heard.refusing 0x38#8 .range 0))
     ∧ (r.id ≠ 0#32 →
         (r.count ≠ r.tags.length → exec (.orderOpen q) s = .next (s.heard.refusing 0x38#8 .range 2))
         ∧ (r.count = r.tags.length →
             (∀ i, r.tags[i]? = some 0#32 → (∀ j t, j < i → r.tags[j]? = some t → t ≠ 0#32) →
               exec (.orderOpen q) s = .next (s.heard.refusing 0x38#8 .range (i + 3)))
             ∧ ((∀ t ∈ r.tags, t ≠ 0#32) →
                 ((∀ e ∈ s.sched.orders, e ≠ none) →
                   exec (.orderOpen q) s = .next (s.heard.refusing 0x38#8 .full 0xFF))
                 ∧ ((∃ e ∈ s.sched.orders, e = none) →
                     (s.findOrder r.id ≠ none →
                       exec (.orderOpen q) s = .next (s.heard.refusing 0x38#8 .conflict 0xFF))
                     ∧ (s.findOrder r.id = none →
                         (∀ i t, r.tags[i]? = some t → t ∈ r.tags.take i → (r.tags.take i).Nodup →
                           exec (.orderOpen q) s = .next (s.heard.refusing 0x38#8 .conflict (i + 1)))
                         ∧ (r.tags.Nodup →
                             (∀ i t, r.tags[i]? = some t → slotOf s t = none →
                               (∀ j t', j < i → r.tags[j]? = some t' → slotOf s t' ≠ none) →
                               exec (.orderOpen q) s = .next (s.heard.refusing 0x38#8 .notFound (i + 1)))
                             ∧ ((∀ t ∈ r.tags, slotOf s t ≠ none) → ∀ i t, r.tags[i]? = some t →
                                 available s t = false →
                                 (∀ j t', j < i → r.tags[j]? = some t' → available s t' = true) →
                                 exec (.orderOpen q) s =
                                   .next (s.heard.refusing 0x38#8 .unavailable (i + 1))))))))))
  ∧ (∀ (s : State) (q : List Byte) (r : OrderRequest), s.Listens → (∃ n, 1 ≤ n ∧ n ≤ 8 ∧ q.length = 6 + 4 * n) →
       readOrder q = r → r.id ≠ 0#32 → r.count = r.tags.length → (∀ t ∈ r.tags, t ≠ 0#32) → r.tags.Nodup →
       s.findOrder r.id = none → (∃ e ∈ s.sched.orders, e = none) → (∀ t ∈ r.tags, available s t = true) →
       ∃ (i n : Nat) (o : Order) (u v : State),
         s.sched.orders[i]? = some none ∧ (∀ j, j < i → s.sched.orders[j]? ≠ some none)
         ∧ (s.sched.openCounter < 4294967295 → n = s.sched.openCounter + 1)
         ∧ (s.sched.openCounter = 4294967295 → n = 4294967295)
         ∧ o.id = r.id ∧ o.priority = min r.priority 3 ∧ o.state = .queued ∧ o.short = none ∧ o.openSeq = n
         ∧ o.actSeq = none ∧ o.lane = none ∧ o.lines.length = r.tags.length
         ∧ (∀ (j : Nat) (l : Line), o.lines[j]? = some l → l.seq = j + 1 ∧ r.tags[j]? = some l.tag
             ∧ slotOf s l.tag = some (l.carousel, l.carrier, l.level) ∧ l.state = .reserved ∧ l.rejectBound = false
             ∧ ∃ sl, s.slot? l.carousel l.carrier l.level = some sl ∧ l.mass = sl.recorded)
         ∧ u = o.lines.foldl (fun w l => handMass l.carousel l.carrier (-(l.mass : Int)) .planned
             (w.modSlot l.carousel l.carrier l.level fun sl =>
               { sl with reservation := .outbound r.id l.seq .planned }))
             (s.heard.setSched { s.sched with orders := s.sched.orders.set i (some o), openCounter := n })
         ∧ v = judgeActivation u
         ∧ exec (.orderOpen q) s = .next ((giveTurns [] s.heard v).replying 0x38#8 (openedBytes v r.id)))

/-- R112: one activation. With a FREE lane within the lane count and a QUEUED order, the order of lowest priority, then open
sequence, then table index is ACTIVE on the lowest such lane with the next activation number (R108: at its greatest value it
stays), that lane is FILLING for it, and the gate is judged; otherwise nothing changes. Activation judged repeats this until
no lane within the lane count is FREE or no order is QUEUED.

R113, R122: an order is judged. ACTIVE with every line ARRIVED or SHORT it is COMPLETE, its lane COMPLETE and ORDER_COMPLETE
set; CANCELLING with no line in flight it is CANCELLED: its entry is freed where it has no lane, freed with its lane (and
activation judged) where no line is ARRIVED, else held with the lane HELD_CANCELLED. Otherwise nothing changes. -/
def Obligations.OrdersActivateAndComplete : Prop :=
  (∀ s : State,
     ((∀ i : Index, i.val < s.station.settings.laneCount → (s.station.lanes.get i).state ≠ .free) → activateOne s = s)
     ∧ ((∀ o, some o ∈ s.sched.orders → o.state ≠ .queued) → activateOne s = s)
     ∧ ∀ (i : Index) (j n : Nat) (o : Order), i.val < s.station.settings.laneCount → (s.station.lanes.get i).state = .free →
         (∀ h : Index, h.val < i.val → (s.station.lanes.get h).state ≠ .free) →
         s.sched.orders[j]? = some (some o) → o.state = .queued →
         (∀ j' o', s.sched.orders[j']? = some (some o') → o'.state = .queued →
           j' = j ∨ o.priority < o'.priority ∨ (o.priority = o'.priority ∧ (o.openSeq < o'.openSeq
             ∨ (o.openSeq = o'.openSeq ∧ j < j')))) →
         n = min (s.sched.activationCounter + 1) 4294967295 → activateOne s = judgeGate { s with
           sched := { s.sched with
             activationCounter := n
             orders := s.sched.orders.map fun e => e.map fun p =>
               if p.id = o.id then
                 { p with state := .active, actSeq := some n, lane := some i }
               else p }
           station := { s.station with
             lanes := s.station.lanes.set i { state := .filling, order := some o.id, stack := [] } } })
  ∧ (∀ s u : State, judgeActivation s = u →
       (∃ n : Nat, u = Nat.repeat activateOne n s)
       ∧ ((∀ i : Index, i.val < u.station.settings.laneCount → (u.station.lanes.get i).state ≠ .free)
         ∨ ∀ o, some o ∈ u.sched.orders → o.state ≠ .queued))
  ∧ (∀ (s : State) (j : Nat) (o : Order), s.findOrder o.id = some (j, o) →
       (o.state = .active → (∃ l ∈ o.lines, l.state ≠ .arrived ∧ ∀ why, l.state ≠ .short why) → judgeOrder o.id s = s)
       ∧ (o.state ≠ .active → o.state ≠ .cancelling → judgeOrder o.id s = s)
       ∧ (∀ i : Index, o.state = .active → o.lane = some i →
           (∀ l ∈ o.lines, l.state = .arrived ∨ ∃ why, l.state = .short why) →
           judgeOrder o.id s = raiseEvent .orderComplete ((s.modOrder o.id fun p => { p with
             state := .complete, short := some (p.lines.any fun l => l.state.isShort) }).setLaneState i .complete))
       ∧ (o.state = .cancelling → (∃ l ∈ o.lines, l.state = .extracting ∨ l.state = .onShuttle ∨ l.state = .releasing
             ∨ l.state = .inTransit) → judgeOrder o.id s = s)
       ∧ (o.state = .cancelling → (∀ l ∈ o.lines, l.state ≠ .extracting ∧ l.state ≠ .onShuttle ∧ l.state ≠ .releasing
             ∧ l.state ≠ .inTransit) →
           (o.lane = none → judgeOrder o.id s = s.freeOrder o.id)
           ∧ (∀ i : Index, o.lane = some i → (∀ l ∈ o.lines, l.state ≠ .arrived) →
               judgeOrder o.id s = judgeActivation ((s.freeOrder o.id).freeLaneRecord i))
           ∧ (∀ i : Index, o.lane = some i → (∃ l ∈ o.lines, l.state = .arrived) →
               judgeOrder o.id s = (s.modOrder o.id fun p => { p with state := .cancelled }).setLaneState i .heldCancelled)))

/-- R33, R121, R122, R132: ORDER_CANCEL is refused NOT_FOUND for an id in no entry and STATE for an order neither QUEUED nor
ACTIVE. Accepted, each line still in its slot is WITHDRAWN, its slot stocked again and its mass planned again; each line on
its way is reject-bound; a face check in flight for a withdrawn line loses it; the order is CANCELLING, and cancellation and
the gate are judged (R126, log 34: at every cancel).

R132: DIVERTING to an order's lane with the head's line now reject-bound, the destination and the diverter position become R,
and send, the timer and the rest stay; otherwise the diversion stays as it is. -/
def Obligations.OrderCancelled : Prop :=
  (∀ w : State,
     (∀ (i : Index) (e : CollectorItem) (es : List CollectorItem) (l : Line), w.station.diverter = .diverting (.order i) →
       w.station.collector = e :: es → w.findLine e.order e.line = some l → l.rejectBound = true →
       redirect w = w.setStation { w.station with diverter := .diverting .reject, position := .reject })
     ∧ ((∀ i, w.station.diverter ≠ .diverting (.order i)) ∨ w.station.collector = []
         ∨ (∃ e es, w.station.collector = e :: es ∧ ∀ l, w.findLine e.order e.line = some l → l.rejectBound = false) →
         redirect w = w))
  ∧ ∀ (s : State) (q : List Byte), s.Listens → q.length = 4 →
    (s.findOrder (idAt q 0) = none → exec (.orderCancel q) s = .next (s.heard.refusing 0x39#8 .notFound 0xFF))
    ∧ ∀ (j : Nat) (o : Order), s.findOrder (idAt q 0) = some (j, o) →
        (o.state ≠ .queued → o.state ≠ .active →
          exec (.orderCancel q) s = .next (s.heard.refusing 0x39#8 .state 0xFF))
        ∧ (o.state = .queued ∨ o.state = .active → ∃ (u v : State) (ports : Quad Port) (after : OrderState),
            u = o.lines.foldl (fun w l =>
              if l.state = .reserved ∨ l.state = .balanceWait false ∨ l.state = .balanceWait true then
                match w.slot? l.carousel l.carrier l.level with
                | some sl =>
                  if sl.reservation = .outbound o.id l.seq .planned then
                    handMass l.carousel l.carrier (sl.recorded : Int) .planned
                      (w.setSlot l.carousel l.carrier l.level { sl with reservation := .none })
                  else w
                | none => w
              else w) s.heard
            ∧ (∀ p : Index, ((s.ports.get p).scan = none → ports.get p = s.ports.get p)
                ∧ ∀ sc, (s.ports.get p).scan = some sc →
                  ((∃ l ∈ o.lines, l.carousel = p ∧ l.state.inSlot = true ∧ sc.user = .faceCheck o.id l.seq) →
                    ports.get p = { s.ports.get p with scan := some { sc with user := .withdrawn } })
                  ∧ ((∀ l ∈ o.lines, l.carousel = p → l.state.inSlot = true → sc.user ≠ .faceCheck o.id l.seq) →
                    ports.get p = s.ports.get p))
            ∧ v = judgeGate (judgeOrder o.id (redirect (({ u with ports := ports } : State).modOrder o.id fun p => { p with
                state := .cancelling
                lines := p.lines.map fun l =>
                  match l.state with
                  | .reserved | .balanceWait _ => { l with state := .withdrawn }
                  | .extracting | .onShuttle | .releasing | .inTransit => { l with rejectBound := true }
                  | _ => l })))
            ∧ (∀ i o', v.findOrder o.id = some (i, o') → after = o'.state)
            ∧ (v.findOrder o.id = none → after = .cancelled)
            ∧ exec (.orderCancel q) s = .next ((giveTurns [] s.heard v).replying 0x39#8
                [BitVec.ofNat 8 after.code, BitVec.ofNat 8 (o.lines.filter fun l => l.state.inSlot).length]))

/-- R68, R116: no turn is taken for a group that does not exist or is neither IDLE nor MOVING, nor for any in HOLD.

R114, R115: a group's tasks are exactly its PLACED stores, its eligible picks and the steps of its RUNNING audits, with their
carriers, ports and keys: promoted stores, picks (equal numbers by table index, log 35), other stores, audit steps at the
nearest listed carrier. They are ranked by their key, and one is usable whose port is HOME_EMPTY and that does not wait.

R55, R142, R115 (log 20: one offset for both): an audit step's distance is from CURRENT's target while MOVING with CURRENT
filled, else from k, and 0 with k invalid.

R49, R50, R53: a store's pre-evaluation asks the gate for +m, a pick's for minus the recorded mass, and an audit step passes.
A failure puts the task in BALANCE_WAIT, not reconsidered, and sets the flag.

R53, R60, R117, R118: at a promotion point with NEXT empty, the best usable task not at the port that passes its
pre-evaluation is offered for CURRENT with every task at its carrier, which fills CURRENT with the answer of the balance unit;
each better one that failed waits.

R60, R61, R72, R116 (logs 5, 22, 42, 45): after a command a group has as many turns as it has events, those that the command
names and its task changes, in an order that is not fixed, each on the records as the events and the turns before left them;
the events of each turn, the ends of the scans in it among them, make turns due in the next round. Each time a task that left
the group's tasks leaves CURRENT's list and NEXT notes that its task has ended.

R115, R116, R140, R141, R147, R148 (log 45): one task change is a pick or store that joins, leaves, or changes its wait,
reconsidered or promoted mark; a member's audit record that is new or gone, its state changed, a carrier off its list, or its
scan alone begun or ended; and a member shuttle becoming HOME_EMPTY or a member port cleared, where that is not the event the
command names. -/
def Obligations.TurnOffersBestTask : Prop :=
  (∀ (s : State) (g : Index), (s.link.mode = .hold ∨ ∀ grp, s.groups.get g = some grp →
      grp.state ≠ .idle ∧ grp.state ≠ .moving) → turn g s = s)
  ∧ (∀ (s : State) (g : Index),
      ((tasksOf s g).Perm (storeTasks s g ++ pickTasks s g ++ auditTasks s g)
        ∧ ((tasksOf s g).Pairwise fun a b => lexLt b.key a.key = false)
        ∧ usableTasks s g = (tasksOf s g).filter fun t => (s.ports.get t.port).shuttle == .homeEmpty && !t.waiting)
      ∧ (∀ t : TaskItem, t ∈ storeTasks s g ↔ ∃ (i : Nat) (p : Index) (r : StoreRecord) (c l : Nat),
          s.sched.placedOrder[i]? = some p ∧ s.stores.get p = some r ∧ r.state = .placed ∧ r.chosen = some (c, l)
          ∧ s.groupOf p = some g
          ∧ t = { task := .store p, carrier := c, port := p, waiting := r.cond == .balanceWait,
                  key := [if r.promoted = true then 1 else 3, i] })
      ∧ (∀ t : TaskItem, t ∈ pickTasks s g ↔ ∃ (i : Nat) (o : Order) (l : Line),
          s.sched.orders[i]? = some (some o) ∧ l ∈ o.lines ∧ o.state = .active
          ∧ (∀ l' ∈ o.lines, l'.seq < l.seq → l'.state = .onShuttle ∨ l'.state = .releasing ∨ l'.state = .inTransit
              ∨ l'.state = .arrived ∨ ∃ why, l'.state = .short why)
          ∧ (l.state = .reserved ∨ l.state = .balanceWait true) ∧ s.groupOf l.carousel = some g
          ∧ t = { task := .pick o.id l.seq, carrier := l.carrier, port := l.carousel, waiting := false,
                  key := [2, o.priority, o.actSeq.getD 0, i, l.seq] })
      ∧ (∀ (t : TaskItem) (grp : Group), s.groups.get g = some grp → (t ∈ auditTasks s g ↔
          ∃ (x : Index) (a : AuditTask) (c : Nat), x ∈ grp.members ∧ s.audit.tasks.get x = some a ∧ a.state = .running
          ∧ a.scan = none ∧ c ∈ a.list
          ∧ (∀ d ∈ a.list, d = c ∨ grp.distanceTo (s.geometry g) c < grp.distanceTo (s.geometry g) d
              ∨ (grp.distanceTo (s.geometry g) c = grp.distanceTo (s.geometry g) d ∧ c < d))
          ∧ t = { task := .audit x, carrier := c, port := x, waiting := false,
                  key := [4, grp.distanceTo (s.geometry g) c, x.val] })))
  ∧ (∀ (grp : Group) (geo : Geometry) (c ref t : Nat), c < geo.carriers → ref < geo.carriers →
       t = (geo.port + (geo.carriers - c)) % geo.carriers →
       ((∃ m, grp.state = .moving ∧ grp.current = some m ∧ m.target = ref)
         ∨ ((grp.state ≠ .moving ∨ grp.current = none) ∧ grp.k = some ref) →
         grp.distanceTo geo c = min ((t + geo.carriers - ref) % geo.carriers) ((ref + geo.carriers - t) % geo.carriers))
       ∧ (grp.state ≠ .moving ∨ grp.current = none → grp.k = none → grp.distanceTo geo c = 0))
  ∧ (∀ (s : State) (g : Index) (grp : Group) (c : Nat), s.groups.get g = some grp →
      (∀ (p : Index) (r : StoreRecord) (m : Nat), s.stores.get p = some r → r.measured = some m →
        (preEvaluates s g (.store p) c = true ↔ trialPeak (s.geometry g) grp.effective c (m : Int) ≤ grp.params.ld))
      ∧ (∀ (id : Id32) (seq : Nat) (l : Line) (sl : Slot), s.findLine id seq = some l →
          s.slot? l.carousel l.carrier l.level = some sl →
          (preEvaluates s g (.pick id seq) c = true ↔
            trialPeak (s.geometry g) grp.effective c (-(sl.recorded : Int)) ≤ grp.params.ld))
      ∧ ∀ x : Index, preEvaluates s g (.audit x) c = true)
  ∧ (∀ s : State,
      (∀ (id : Id32) (seq : Nat), markWait (.pick id seq) s = raiseEvent .balanceWait (s.setLine id seq (.balanceWait false))
        ∧ ∀ l, s.findLine id seq = some l →
          (markWait (.pick id seq) s).findLine id seq = some { l with state := .balanceWait false })
      ∧ (∀ (p : Index) (r : StoreRecord), s.stores.get p = some r →
          markWait (.store p) s = raiseEvent .balanceWait (s.setStore p (some { r with cond := .balanceWait })))
      ∧ (s.link.sampled = true → ∀ (t : Task) (e : Event),
          (markWait t s).flagSet e = (s.flagSet e || e == .balanceWait)))
  ∧ (∀ (s : State) (g : Index) (grp : Group) (k : Nat) (clear : State),
      s.groups.get g = some grp → grp.k = some k → grp.next = none → grp.current = none →
      clear = s.setGroup g (some { grp with arrivalOpen := false }) →
      (∀ (s' : State) (before after : List TaskItem) (t : TaskItem),
        ((usableTasks s g).filter fun u => u.carrier != (s.geometry g).atPort k) = before ++ t :: after →
        (∀ u ∈ before, preEvaluates s g u.task u.carrier = false) → preEvaluates s g t.task t.carrier = true →
        s' = before.foldl (fun w u => markWait u.task w) clear →
        promotionPoint g s = fillCurrent g t.carrier
          (((tasksOf s' g).filter fun i => i.carrier == t.carrier).map TaskItem.task) s')
      ∧ ∀ ts : List TaskItem, ((usableTasks s g).filter fun u => u.carrier != (s.geometry g).atPort k) = ts →
          (∀ u ∈ ts, preEvaluates s g u.task u.carrier = false) →
          promotionPoint g s = ts.foldl (fun w u => markWait u.task w) clear)
  ∧ (∀ (s : State) (g : Index) (grp : Group) (k c : Nat) (ts : List Task) (a : MoveAnswer),
      s.groups.get g = some grp → grp.k = some k → grp.next = none →
      moveAnswer (s.geometry g) grp k ((s.geometry g).targetOf c) = some a →
      fillCurrent g c ts s = s.setGroup g (some { grp with
        current := some { target := (s.geometry g).targetOf c, carrier := c, dir := a.dir, distance := a.distance,
                          pathMax := a.pathMax, cls := a.cls, phase := .waiting, tasks := ts, holdStop := false } }))
  ∧ (∀ (events : List Index) (before after : State),
      giveTurns events before after = turnRounds 64 (dueTurns events before after) (pruneLists after))
  ∧ (∀ (n : Nat) (gs : List Index) (s : State),
      turnRounds n [] s = s
      ∧ (gs ≠ [] → ∃ (order : List Index) (choices : Nat) (r : State × List Index), order.Perm gs
          ∧ r = order.foldl (fun w g => (pruneLists (turn g w.1),
                w.2 ++ dueTurns (scansEnded w.1 (pruneLists (turn g w.1))) w.1 (pruneLists (turn g w.1))))
              ({ s with choices := choices }, [])
          ∧ turnRounds (n + 1) gs s = turnRounds n r.2 r.1))
  ∧ (∀ s : State, ∃ gs : Quad (Option Group), pruneLists s = { s with groups := gs }
      ∧ ∀ g : Index, gs.get g = (s.groups.get g).map fun grp => { grp with
          current := grp.current.map fun m => { m with
            tasks := m.tasks.filter fun t => (tasksOf s g).any fun i => i.task == t && i.carrier == m.carrier }
          next := grp.next.map fun n => { n with ended := n.ended || !taskStands s g n.task n.carrier } })
  ∧ (∀ (events : List Index) (s t : State) (g : Index), (dueTurns events s t).count g =
      events.count g + taskChanges s t g + if g ∈ events then 0 else ((t.membersOf g).filter fun x =>
        decide (((s.ports.get x).shuttle ≠ .homeEmpty ∧ (t.ports.get x).shuttle = .homeEmpty)
          ∨ ((s.ports.get x).fault ≠ none ∧ (t.ports.get x).fault = none))).length)
  ∧ (∀ (s t : State) (g : Index) (picks : State → List (Task × Bool)) (stores : State → List (Task × Option (TaskCond × Bool)))
      (audits : Index → Nat),
      picks = (fun u => (pickTasks u g).map fun i => (i.task, match i.task with
        | .pick id seq => (u.findLine id seq).any fun l => l.state == .balanceWait true
        | _ => false)) →
      stores = (fun u => (storeTasks u g).map fun i =>
        (i.task, (u.stores.get i.port).map fun r => (r.cond, r.promoted))) →
      (∀ x : Index, match s.audit.tasks.get x, t.audit.tasks.get x with
        | none, none => audits x = 0
        | none, some _ | some _, none => audits x = 1
        | some a, some b =>
          ((a.state ≠ .running ∧ a.state ≠ .heldLog) ∧ (b.state = .running ∨ b.state = .heldLog) → audits x = 1)
          ∧ ((a.state = .running ∨ a.state = .heldLog) ∨ (b.state ≠ .running ∧ b.state ≠ .heldLog) →
              (a.state = b.state → a.list = b.list → audits x = if a.scan = b.scan then 0 else 1)
              ∧ (a.state ≠ b.state ∨ a.list ≠ b.list →
                  audits x = (if a.state = b.state then 0 else 1) + (a.list.length - b.list.length)))) →
      taskChanges s t g = ((picks t).filter fun e => !(picks s).contains e).length
          + ((picks s).filter fun e => !((picks t).map Prod.fst).contains e.1).length
        + (((stores t).filter fun e => !(stores s).contains e).length
          + ((stores s).filter fun e => !((stores t).map Prod.fst).contains e.1).length)
        + ((t.membersOf g).map audits).sum)
  ∧ ∀ (s t : State) (g : Index) (audits : Index → Nat),
      (∀ x : Index, match s.audit.tasks.get x, t.audit.tasks.get x with
        | some a, some b => audits x =
            (a.list.length - b.list.length) + if a.state = .running ∧ b.state = .heldLog then 1 else 0
        | _, _ => audits x = 0) →
      (scansEnded s t).count g = ((t.membersOf g).map audits).sum
        + (s.sched.orders.flatMap fun e => (e.toList.flatMap fun o => o.lines.filter fun l =>
            (l.state == .reserved || l.state == .balanceWait false || l.state == .balanceWait true)
              && s.groupOf l.carousel == some g
              && (t.findLine o.id l.seq).any fun l' => match l'.state with | .short _ => true | _ => false)).length

/-- R117, R118, R119, R71 (log 5): the turn of an IDLE group in NORMAL. Its member ports are tried one after another in an
order that is not fixed. With CURRENT filled the NEXT choice follows, past CURRENT's carrier, and each task at that carrier
joins CURRENT's list (log 47: the carrier that stands at the ports is not left out then); at a promotion point the promotion;
after an arrival and before it the NEXT choice past the carrier at the ports. The turn of a MOVING group with CURRENT filled
is the NEXT choice; without CURRENT it does nothing.

R81 to R83, R117, R143: a port that is ready, with a carrier at it, starts the best usable task of the port at that carrier: a
face check of the line's level with tags, an insertion, or an audit scan of every level; a store whose gate fails waits, and
the next is taken. A scan begins with the reports that the presence lines give, and ends at once where that is all.

R72 (log 42): NEXT is tested at a promotion point; wanted, it enters CURRENT with the other tasks at its carrier and is empty;
where its pre-evaluation fails its task waits; where it fails, NEXT is emptied and the best task is offered.

R61, R119 (log 23: NEXT is kept only for the same task at the same carrier): the NEXT choice writes the best usable task that
passes its pre-evaluation, unless its target is CURRENT's or NEXT holds it already; each better one that failed waits; with
none NEXT stays. -/
def Obligations.TurnStartsPromotesAndChooses : Prop :=
  (∀ (s : State) (g : Index) (grp : Group), s.link.mode = .normal → s.groups.get g = some grp →
     (grp.state = .idle → ∃ (order : List Index) (choices : Nat) (u : State) (started : Bool),
       order.Perm grp.members
       ∧ (u, started) = order.foldl (fun a x => ((portStart g x a.1).1, a.2 || (portStart g x a.1).2))
           ({ s with choices := choices }, false)
       ∧ ∀ new : Group, u.groups.get g = some new →
           (∀ m, new.current = some m → turn g s = nextChoice g m.carrier (joinList g u))
           ∧ (new.current = none → started = false →
               (∀ x ∈ new.members, (u.ports.get x).shuttle ≠ .inserting ∧ (u.ports.get x).shuttle ≠ .extracting
                 ∧ (u.ports.get x).scan = none) → turn g s = promotionPoint g u)
           ∧ (new.current = none →
               (started = true ∨ ∃ x ∈ new.members, (u.ports.get x).shuttle = .inserting
                 ∨ (u.ports.get x).shuttle = .extracting ∨ (u.ports.get x).scan ≠ none) →
               (new.arrivalOpen = false ∨ new.k = none → turn g s = u)
               ∧ ∀ k, new.arrivalOpen = true → new.k = some k →
                   turn g s = nextChoice g ((u.geometry g).atPort k) u))
     ∧ (grp.state = .moving → (grp.current = none → turn g s = s)
         ∧ ∀ m, grp.current = some m → turn g s = nextChoice g m.carrier (joinList g s))
     ∧ ∀ m, grp.current = some m → joinList g s = s.setGroup g (some { grp with current := some { m with
         tasks := m.tasks ++ ((tasksOf s g).filter fun t => t.carrier == m.carrier && !m.tasks.contains t.task).map
           TaskItem.task } }))
  ∧ (∀ (s : State) (g x : Index),
       ((s.ports.get x).shuttle ≠ .homeEmpty ∨ (s.ports.get x).load = true ∨ (s.ports.get x).scan ≠ none
           ∨ s.carrierAt x = none → portStart g x s = (s, false))
       ∧ ∀ (c : Nat) (ts : List TaskItem), (s.ports.get x).shuttle = .homeEmpty → (s.ports.get x).load = false →
           (s.ports.get x).scan = none → s.carrierAt x = some c →
           ((usableTasks s g).filter fun t => t.port == x && t.carrier == c) = ts →
           (ts = [] → portStart g x s = (s, false))
           ∧ ∀ (t : TaskItem) (rest : List TaskItem), ts = t :: rest →
               (∀ (id : Id32) (seq : Nat) (l : Line) (sl : Slot), t.task = .pick id seq → s.findLine id seq = some l →
                 l.carousel = x → l.carrier = c → s.slot? x c l.level = some sl →
                 sl.reservation = .outbound id seq .planned →
                 portStart g x s = (startScan x (.faceCheck id seq) c true [l.level] s, true))
               ∧ (∀ p : Index, t.task = .store p → ∃ (u : State) (began : Bool), askInsertion p s = (u, began)
                   ∧ portStart g x s = if began = true then (u, true) else startFirst rest u)
               ∧ (∀ (a : AuditTask) (cfg : CarouselConfig), t.task = .audit x → s.audit.tasks.get x = some a →
                   (s.carousels.get x).config = some cfg → c ∈ a.list →
                   portStart g x s = (startScan x .audit c (a.check == .tag) (List.range cfg.levels)
                     (s.setTask x (some { a with scan := some c })), true)))
  ∧ (∀ (s : State) (p : Index) (user : ScanUser) (c : Nat) (tags : Bool) (levels : List Nat) (sc : Scan) (u : State),
       sc = { user := user, carrier := c, tags := tags, levels := levels.map fun l =>
         { level := l, report := if (s.ports.get p).presence.getD l false = false then some .absent
             else if tags = true then none else some .present } } →
       u = s.setPort p { s.ports.get p with scan := some sc } →
       ((∃ e ∈ sc.levels, e.report = none) → startScan p user c tags levels s = u)
       ∧ ((∀ e ∈ sc.levels, e.report ≠ none) → startScan p user c tags levels s = endScan p u))
  ∧ (∀ (s u : State) (g : Index) (grp : Group) (n : Target) (wanted : Prop), s.groups.get g = some grp →
       grp.next = some n → u = s.setGroup g (some { grp with arrivalOpen := false, next := none }) →
       (wanted ↔ n.ended = false ∧ grp.k ≠ some n.target ∧ match n.task with
         | .pick id seq => ∃ l, s.findLine id seq = some l ∧ s.groupOf l.carousel = some g ∧ l.carrier = n.carrier
             ∧ (l.state = .reserved ∨ l.state = .balanceWait true) ∧ (s.ports.get l.carousel).shuttle = .homeEmpty
         | .store p => ∃ r, s.stores.get p = some r ∧ s.groupOf p = some g ∧ r.state = .placed
             ∧ r.chosen.map Prod.fst = some n.carrier ∧ r.cond ≠ .balanceWait ∧ (s.ports.get p).shuttle = .homeEmpty
         | .audit x => ∃ a, s.audit.tasks.get x = some a ∧ s.groupOf x = some g ∧ a.state = .running
             ∧ n.carrier ∈ a.list ∧ (s.ports.get x).shuttle = .homeEmpty) →
       (wanted → preEvaluates s g n.task n.carrier = true → promotionPoint g s = fillCurrent g n.carrier
         (n.task :: (((tasksOf u g).filter fun i => i.carrier == n.carrier).map TaskItem.task).filter (· != n.task)) u)
       ∧ (wanted → preEvaluates s g n.task n.carrier = false → promotionPoint g s = promotionPoint g (markWait n.task u))
       ∧ (¬wanted → promotionPoint g s = promotionPoint g u))
  ∧ ∀ (s s' : State) (g : Index) (grp : Group) (past : Nat) (before after : List TaskItem) (t : TaskItem)
      (held : Prop), s.groups.get g = some grp →
      (∀ u ∈ before, preEvaluates s g u.task u.carrier = false) →
      s' = before.foldl (fun w u => markWait u.task w) s →
      (held ↔ grp.k = none ∨ (∃ m, grp.current = some m ∧ m.target = (s.geometry g).targetOf t.carrier)
        ∨ ∃ n, grp.next = some n ∧ n.task = t.task ∧ n.carrier = t.carrier ∧ n.ended = false) →
      (((usableTasks s g).filter fun u => u.carrier != past) = before → nextChoice g past s = s')
      ∧ (((usableTasks s g).filter fun u => u.carrier != past) = before ++ t :: after →
          preEvaluates s g t.task t.carrier = true →
          (held → nextChoice g past s = s')
          ∧ (¬held → nextChoice g past s = s'.setGroup g (some { grp with
              next := some { target := (s.geometry g).targetOf t.carrier, carrier := t.carrier, task := t.task,
                             ended := false } })))

/-! ## The consolidation station (R124 to R137) -/

/-- R125, R126: the merge gate. With a release in progress, a station fault or a paused collector it grants nothing; else it
grants the eligible loaded deck of lowest priority, activation number (table index among equal ones, log 35), line sequence
and port: that port is the release in progress, its shuttle RELEASING with the Release output raised and the transfer timer
running, its line RELEASING. A deck is eligible by the sequence rule or the reject rule, and only at a shuttle that is
HOME_LOADED: one of a FAULTED port is not, whatever load record it holds. -/
def Obligations.MergeGateGrants : Prop :=
  (∀ s : State, (s.station.releasePort ≠ none ∨ s.station.fault ≠ none ∨ s.station.paused = true
      ∨ ∀ p : Index, claimAt s p = none) → judgeGate s = s)
  ∧ (∀ (s : State) (c : Claim), s.station.releasePort = none → s.station.fault = none → s.station.paused = false →
      claimAt s c.port = some c → (∀ (p : Index) (d : Claim), claimAt s p = some d → p = c.port ∨ lexLt c.key d.key = true) →
      judgeGate s = ((s.setStation { s.station with releasePort := some c.port }).setPort c.port
        { s.ports.get c.port with
          shuttle := .releasing, releaseOut := true
          transferTimer := some s.station.settings.transferTimeout }).setLine
            c.load.order c.load.line .releasing)
  ∧ (∀ (s : State) (p : Index), (s.ports.get p).shuttle ≠ .homeLoaded ∨ (s.ports.get p).loadRec = none →
      claimAt s p = none)
  ∧ ∀ (s : State) (p : Index) (lr : LoadRecord) (i : Nat) (o : Order) (l : Line),
      (s.ports.get p).shuttle = .homeLoaded → (s.ports.get p).loadRec = some lr → s.findOrder lr.order = some (i, o) →
      o.line? lr.line = some l →
      (claimAt s p ≠ none ↔
        (o.state = .active ∧ l.rejectBound = false
          ∧ (l.state = .onShuttle ∨ l.state = .reserved ∨ l.state = .extracting ∨ ∃ b, l.state = .balanceWait b)
          ∧ ∀ l' ∈ o.lines, l'.seq < l.seq → l'.state ≠ .reserved ∧ (∀ b, l'.state ≠ .balanceWait b)
              ∧ l'.state ≠ .extracting ∧ l'.state ≠ .onShuttle)
        ∨ (l.rejectBound = true
          ∧ s.station.reject.length + (s.station.collector.filter s.entryRejectBound).length < 8))
      ∧ ∀ c, claimAt s p = some c → c.port = p ∧ c.load = lr
          ∧ c.key = [o.priority, o.actSeq.getD 0, i, l.seq, p.val]

/-- R87, R127, R129, R130, R133: a collector entry completes the release in progress: the Release output falls, the load joins
the tail of the collector, the shuttle is HOME_EMPTY, the line IN_TRANSIT, the collector paused at H, a diversion tested when
it was empty, and the gate judged. The collector pauses at a count of at least H, and a paused one runs again, the gate
judged, at a count of at most L; nothing else changes it. Without a release it is a stray entry: a station fault, or one more
of the count up to 255.

R133: a station fault is taken once: the collector drive stops, send falls, the timer stops, the record holds the kind and the
diversion in flight with its head and destination, and STATION_FAULT is set. The diverter stays as it is, DIVERTING with a
diversion in flight (log 19); the collector, the lanes, the reject list and a release stay. -/
def Obligations.CollectorEntriesAndFaults : Prop :=
  (∀ s : State,
     (s.station.settings.high ≤ s.station.collector.length →
       judgeHigh s = s.setStation { s.station with paused := true })
     ∧ (s.station.collector.length < s.station.settings.high → judgeHigh s = s)
     ∧ (s.station.paused = true → s.station.collector.length ≤ s.station.settings.low →
         judgeLow s = judgeGate (s.setStation { s.station with paused := false }))
     ∧ (s.station.paused = false ∨ s.station.settings.low < s.station.collector.length → judgeLow s = s))
  ∧ (∀ s : State,
     (∀ (p : Index) (lr : LoadRecord), s.station.releasePort = some p → (s.ports.get p).loadRec = some lr →
       ∃ u : State,
         u = judgeHigh (((s.setPort p { s.ports.get p with
             shuttle := .homeEmpty, releaseOut := false, transferTimer := none, loadRec := none }).setLine
               lr.order lr.line .inTransit).setStation
           { s.station with
             releasePort := none
             collector := s.station.collector ++ [{ tag := lr.tag, order := lr.order, line := lr.line }] })
         ∧ u.station.paused = (s.station.paused || decide (s.station.settings.high ≤ s.station.collector.length + 1))
         ∧ exec .collectorEntry s = .next (giveTurns (s.groupOf p).toList s
             (judgeGate (if s.station.collector = [] then testDiversion u else u))))
     ∧ (s.station.releasePort = none → s.station.fault = none →
         exec .collectorEntry s = .next (stationFault .strayEntry s))
     ∧ ∀ f, s.station.releasePort = none → s.station.fault = some f →
         exec .collectorEntry s = .next (s.setStation { s.station with
           fault := some { f with strayCount := min (f.strayCount + 1) 255 } }))
  ∧ (∀ (s : State) (kind : StationFaultKind),
       (s.station.fault ≠ none → stationFault kind s = s)
       ∧ (s.station.fault = none → ∃ d : Option FaultDiversion,
           stationFault kind s = raiseEvent .stationFault (s.setStation { s.station with
             fault := some { kind := kind, diversion := d, lateArrival := none, strayCount := 0 }
             drive := false
             send := false
             diversionTimer := none })
           ∧ ((∀ l, s.station.diverter ≠ .diverting l) → d = none)
           ∧ (∀ (l : Lane) (e : CollectorItem) (es : List CollectorItem), s.station.diverter = .diverting l →
               s.station.collector = e :: es → d = some { tag := e.tag, order := e.order, line := e.line, dest := l })))

/-- R130: the test of the next diversion. Nothing while one is DIVERTING; IDLE with an empty collector; WAITING_ROOM with 8
items in the reject lane; nothing under a station fault (the diverter then keeps its state, log 38); else the head is sent to
R where its line is reject-bound, to its order's lane otherwise, with send raised and the timer started.

R131, R133: a lane entry. For the destination of the diversion in flight it confirms the arrival: send falls, the head leaves
the collector and joins its lane as ARRIVED or the reject list as WITHDRAWN, its order is judged, and the next diversion, L
and the gate are judged. For any other lane, or without a diversion, it is MISROUTE; during a fault the first sets the late
arrival lane. The diversion timer's expiry is DIVERT_TIMEOUT. -/
def Obligations.DiversionsAndLaneEntries : Prop :=
  (∀ s : State,
     (∀ d, s.station.diverter = .diverting d → testDiversion s = s)
     ∧ ((∀ d, s.station.diverter ≠ .diverting d) →
         (s.station.collector = [] → testDiversion s = s.setStation { s.station with diverter := .idle })
         ∧ (s.station.collector ≠ [] → 8 ≤ s.station.reject.length →
             testDiversion s = s.setStation { s.station with diverter := .waitingRoom })
         ∧ (s.station.collector ≠ [] → s.station.reject.length < 8 → s.station.fault ≠ none → testDiversion s = s)
         ∧ ∀ (e : CollectorItem) (es : List CollectorItem) (j : Nat) (o : Order) (l : Line) (d : Lane),
             s.station.collector = e :: es → s.station.reject.length < 8 → s.station.fault = none →
             s.findOrder e.order = some (j, o) → o.line? e.line = some l →
             ((l.rejectBound = true ∧ d = .reject)
               ∨ (l.rejectBound = false ∧ ∃ i, o.lane = some i ∧ d = .order i)) →
             testDiversion s = s.setStation { s.station with
               diverter := .diverting d, position := d, send := true,
               diversionTimer := some s.station.settings.transferTimeout }))
  ∧ (∀ (s : State) (lane : Lane),
       (∀ (e : CollectorItem) (es : List CollectorItem), s.station.fault = none → s.station.diverter = .diverting lane →
         s.station.collector = e :: es → ∃ u : State,
           (∀ i, lane = .order i → u = (s.setStation { s.station with
             diverter := .idle, send := false, diversionTimer := none, collector := es
             lanes := s.station.lanes.set i { s.station.lanes.get i with
               stack := (s.station.lanes.get i).stack ++ [{ tag := e.tag, line := e.line }] } }).setLine
                 e.order e.line .arrived)
           ∧ (lane = .reject → u = (s.setStation { s.station with
             diverter := .idle, send := false, diversionTimer := none, collector := es
             reject := s.station.reject ++ [{ tag := e.tag, order := e.order }] }).setLine e.order e.line .withdrawn)
           ∧ exec (.laneEntry lane) s =
             .next (giveTurns [] s (judgeGate (judgeLow (testDiversion (judgeOrder e.order u))))))
       ∧ (s.station.fault = none → s.station.diverter ≠ .diverting lane →
           exec (.laneEntry lane) s = .next (giveTurns [] s (stationFault (.misroute lane) s)))
       ∧ (∀ f, s.station.fault = some f → exec (.laneEntry lane) s = .next (giveTurns [] s (s.setStation { s.station with
           fault := some { f with lateArrival := some (f.lateArrival.getD lane) } })))
       ∧ (s.station.diversionTimer ≠ none → exec .diversionTimeout s = .next (stationFault .divertTimeout s)))

/-- R136, R35: LANE_RELEASE is refused RANGE for another lane value, STATE 0xFF for a FILLING lane and 0xFE for a FREE one. An
order lane is emptied and FREE, its order's entry freed and activation judged; the reject lane is emptied, the gate judged and
the diverter tested. The ACK carries the number of items. A lane button has the same effect where that would be accepted, and
none else.

R103, R112, R129, R137: SET_STATION is refused RANGE with the first field out of range, else it replaces all six settings,
judges promotion of every PLACED store, activation where the lane count changed, and the collector's count where H or L
changed. -/
def Obligations.LanesAndSettings : Prop :=
  (∀ s : State, s.Listens →
     (∀ b : Byte, b = 0#8 ∨ 5 < b.toNat → exec (.laneRelease [b]) s = .next (s.heard.refusing 0x40#8 .range 0))
     ∧ (∃ u : State, u = s.setStation { s.station with reject := [] }
         ∧ exec (.laneButton .reject) s = .next (giveTurns [] s (testDiversion (judgeGate u)))
         ∧ exec (.laneRelease [5#8]) s = .next ((giveTurns [] s.heard (testDiversion (judgeGate
             (s.heard.setStation { s.station with reject := [] })))).replying 0x40#8
               [BitVec.ofNat 8 s.station.reject.length]))
     ∧ ∀ i : Index,
         ((s.station.lanes.get i).state = .filling →
           exec (.laneRelease [BitVec.ofNat 8 (i.val + 1)]) s = .next (s.heard.refusing 0x40#8 .state 0xFF)
           ∧ exec (.laneButton (.order i)) s = .next s)
         ∧ ((s.station.lanes.get i).state = .free →
             exec (.laneRelease [BitVec.ofNat 8 (i.val + 1)]) s = .next (s.heard.refusing 0x40#8 .state 0xFE)
             ∧ exec (.laneButton (.order i)) s = .next s)
         ∧ ∀ id : Id32, (s.station.lanes.get i).state = .complete ∨ (s.station.lanes.get i).state = .heldCancelled →
             (s.station.lanes.get i).order = some id →
             exec (.laneButton (.order i)) s = .next (giveTurns [] s (judgeActivation
               ((s.freeOrder id).setStation { s.station with
                 lanes := s.station.lanes.set i { state := .free, order := none, stack := [] } })))
             ∧ exec (.laneRelease [BitVec.ofNat 8 (i.val + 1)]) s = .next ((giveTurns [] s.heard (judgeActivation
               ((s.heard.freeOrder id).setStation { s.station with
                 lanes := s.station.lanes.set i { state := .free, order := none, stack := [] } }))).replying 0x40#8
                 [BitVec.ofNat 8 (s.station.lanes.get i).stack.length]))
  ∧ (∀ (s : State) (q : List Byte) (r : Settings), s.Listens → q.length = 7 → readSettings q = r →
       ((r.transferTimeout < 2 ∨ 30 < r.transferTimeout) →
         exec (.setStation q) s = .next (s.heard.refusing 0x41#8 .range 0))
       ∧ (2 ≤ r.transferTimeout → r.transferTimeout ≤ 30 →
           (100 < r.massTolerance → exec (.setStation q) s = .next (s.heard.refusing 0x41#8 .range 1))
           ∧ (r.massTolerance ≤ 100 →
               ((r.storePatience < 10 ∨ 300 < r.storePatience) →
                 exec (.setStation q) s = .next (s.heard.refusing 0x41#8 .range 2))
               ∧ (10 ≤ r.storePatience → r.storePatience ≤ 300 →
                   ((r.laneCount < 1 ∨ 4 < r.laneCount) →
                     exec (.setStation q) s = .next (s.heard.refusing 0x41#8 .range 3))
                   ∧ (1 ≤ r.laneCount → r.laneCount ≤ 4 →
                       ((r.high < 2 ∨ 12 < r.high) → exec (.setStation q) s = .next (s.heard.refusing 0x41#8 .range 4))
                       ∧ (2 ≤ r.high → r.high ≤ 12 →
                           (r.high ≤ r.low → exec (.setStation q) s = .next (s.heard.refusing 0x41#8 .range 5))
                           ∧ (r.low < r.high → ∃ (sts : Quad (Option StoreRecord)) (u v : State),
                               u = { s.heard with station := { s.station with settings := r }, stores := sts }
                               ∧ (∀ p : Index, sts.get p = (s.stores.get p).map fun rec => { rec with
                                   promoted := rec.promoted || (rec.state == .placed
                                     && decide (r.storePatience ≤ rec.waited.getD 0)) })
                               ∧ v = (if s.station.settings.laneCount = r.laneCount then u else judgeActivation u)
                               ∧ exec (.setStation q) s = .next ((giveTurns [] s.heard
                                   (if s.station.settings.high = r.high ∧ s.station.settings.low = r.low then v
                                     else judgeLow (judgeHigh v))).replying 0x41#8 []))))))))

/-! ## The audit unit (R139 to R148) -/

/-- R139, R140: AUDIT_START. RANGE by field (0 the carousel, 1 selection, 3 count, 4 check, and 2 the first carrier of a SPAN,
after the service check), STATE for a carousel not in service, BUSY for one with an open task; else the generation advances
(up to 4,294,967,295) and a RUNNING task of origin HOST lists count carriers of the SPAN, mod C and at most C, or the count
carriers of lowest audit stamp, each once, in rising order of it, the lower index first among equals (log 26).

R143, R148, R157: AUDIT_STOP is refused RANGE 0 for an index above 3, NOT_FOUND without a task and STATE for one that has
ended. An open task of origin HOST is STOPPED with its list kept and its scan in flight discarded, and the ACK carries the
number of carriers left; one of origin AUTO reports its end as not clean besides (`ScanComparedWithRecords` says what that
does). -/
def Obligations.AuditTasksStartAndStop : Prop :=
  (∀ (s : State) (q : List Byte), s.Listens → 4 ≤ byteAt q 0 →
     (q.length = 5 → exec (.auditStart q) s = .next (s.heard.refusing 0x48#8 .range 0))
     ∧ (q.length = 1 → exec (.auditStop q) s = .next (s.heard.refusing 0x49#8 .range 0)))
  ∧ (∀ (s : State) (q : List Byte) (r : AuditRequest) (x : Index), s.Listens → q.length = 5 → readAudit q = r →
     r.carousel = x.val →
     (1 < r.selection → exec (.auditStart q) s = .next (s.heard.refusing 0x48#8 .range 1))
     ∧ (r.selection ≤ 1 →
         (r.count = 0 → exec (.auditStart q) s = .next (s.heard.refusing 0x48#8 .range 3))
         ∧ (1 ≤ r.count →
             (1 < r.check → exec (.auditStart q) s = .next (s.heard.refusing 0x48#8 .range 4))
             ∧ (r.check ≤ 1 →
                 (s.serviceGroup x = none → exec (.auditStart q) s = .next (s.heard.refusing 0x48#8 .state 0xFF))
                 ∧ (s.serviceGroup x ≠ none →
                     (r.selection = 0 → s.carriersOf x ≤ r.first →
                       exec (.auditStart q) s = .next (s.heard.refusing 0x48#8 .range 2))
                     ∧ ((r.selection = 0 → r.first < s.carriersOf x) →
                         (s.taskOpen x = true → exec (.auditStart q) s = .next (s.heard.refusing 0x48#8 .busy 0xFF))
                         ∧ (s.taskOpen x = false → ∃ (n : Nat) (t : AuditTask) (u : State),
                             n = min (s.audit.generation + 1) 4294967295
                             ∧ t.state = .running ∧ t.origin = .host ∧ t.generation = n ∧ t.findings = 0 ∧ t.scan = none
                             ∧ t.check = (if r.check = 0 then .presence else .tag)
                             ∧ t.selection = (if r.selection = 0 then .span r.first r.count else .oldest r.count)
                             ∧ (r.selection = 0 → t.list = (List.range (min r.count (s.carriersOf x))).map fun i =>
                                 (r.first + i) % s.carriersOf x)
                             ∧ (r.selection = 1 → ∀ before : Nat → Nat → Prop,
                                 (∀ c d, before c d ↔
                                   lowestStamp (s.carrierSlots x c) < lowestStamp (s.carrierSlots x d)
                                   ∨ (lowestStamp (s.carrierSlots x c) = lowestStamp (s.carrierSlots x d) ∧ c < d)) →
                                 t.list.length = min r.count (s.carriersOf x) ∧ t.list.Nodup
                                 ∧ (∀ c ∈ t.list, c < s.carriersOf x) ∧ t.list.Pairwise before
                                 ∧ ∀ c ∈ t.list, ∀ d, d < s.carriersOf x → d ∉ t.list → before c d)
                             ∧ u = s.heard.setAudit { s.audit with
                                 generation := n, tasks := s.audit.tasks.set x (some t) }
                             ∧ exec (.auditStart q) s = .next ((giveTurns [] s.heard u).replying 0x48#8
                                 (u32 n ++ [BitVec.ofNat 8 t.list.length])))))))))
  ∧ (∀ (s : State) (x : Index) (b : Byte), s.Listens → b = BitVec.ofNat 8 x.val →
       (s.audit.tasks.get x = none → exec (.auditStop [b]) s = .next (s.heard.refusing 0x49#8 .notFound 0xFF))
       ∧ ∀ t, s.audit.tasks.get x = some t →
           (t.state = .done ∨ t.state = .stopped →
             exec (.auditStop [b]) s = .next (s.heard.refusing 0x49#8 .state 0xFF))
           ∧ (t.state = .running ∨ t.state = .heldLog → t.scan = none → ∃ u : State,
               u = s.heard.setTask x (some { t with state := .stopped })
               ∧ (t.origin = .host → exec (.auditStop [b]) s =
                   .next ((giveTurns [] s.heard u).replying 0x49#8 [BitVec.ofNat 8 t.list.length]))
               ∧ (t.origin = .auto → exec (.auditStop [b]) s =
                   .next ((giveTurns [] s.heard (reportAutoEnd x false u)).replying 0x49#8
                     [BitVec.ofNat 8 t.list.length])))
           ∧ (∀ (c : Nat) (sc : Scan), t.state = .running → t.scan = some c → (s.ports.get x).scan = some sc →
               sc.user = .audit → ∃ u : State,
               u = (s.heard.setPort x { s.ports.get x with scan := none }).setTask x
                 (some { t with state := .stopped, scan := none })
               ∧ (t.origin = .host → exec (.auditStop [b]) s =
                   .next ((giveTurns [] s.heard u).replying 0x49#8 [BitVec.ofNat 8 t.list.length]))
               ∧ (t.origin = .auto → exec (.auditStop [b]) s =
                   .next ((giveTurns [] s.heard (reportAutoEnd x false u)).replying 0x49#8
                     [BitVec.ofNat 8 t.list.length]))))

/-- R147: LOG_READ is refused RANGE 0 to consume more entries than the log holds (or above 32) and RANGE 1 to read more than
8. It removes the consumed entries from the head, returns the entries asked from the new head without removing them, and with
at least one removed every task in HELD_LOG is RUNNING again. -/
def Obligations.LogReadConsumes : Prop :=
  ∀ (s : State) (a b : Byte), s.Listens →
    ((32 < a.toNat ∨ s.audit.log.length < a.toNat) →
      exec (.logRead [a, b]) s = .next (s.heard.refusing 0x4B#8 .range 0))
    ∧ (a.toNat ≤ 32 → a.toNat ≤ s.audit.log.length →
        (8 < b.toNat → exec (.logRead [a, b]) s = .next (s.heard.refusing 0x4B#8 .range 1))
        ∧ (b.toNat ≤ 8 → ∃ (log : List LogEntry) (tasks : Quad (Option AuditTask)),
            log = s.audit.log.drop a.toNat
            ∧ (a = 0#8 → tasks = s.audit.tasks)
            ∧ (a ≠ 0#8 → ∀ x : Index, tasks.get x = (s.audit.tasks.get x).map fun t =>
                if t.state = .heldLog then { t with state := .running } else t)
            ∧ exec (.logRead [a, b]) s = .next ((giveTurns [] s.heard (s.heard.setAudit { s.audit with
                log := log, tasks := tasks })).replying 0x4B#8
                  ([BitVec.ofNat 8 log.length, BitVec.ofNat 8 (min b.toNat log.length)]
                    ++ (log.take b.toNat).flatMap entryBytes))))

/-- R144, R145, R146, R34: the judgements of a scan are taken together or not at all. With less room in the log than
mismatches nothing is taken and the task is HELD_LOG. Else each reserved or blocked slot is skipped, a match clears and stamps
its slot, a mismatch makes it SUSPECT with its kind, the carrier leaves the list, and an empty list ends the task. One entry
is appended for each mismatch, in level order, with the next entry number, the slot, the kind, the recorded tag of a HELD
slot, the tag read in a TAG check, and the task's generation. DISCREPANCY is set with an entry, AUDIT_DONE with the task's
end; every other slot and task stays.

R157: an auto task's end leaves its carousel out of the group's watch and spoils it unless clean (DONE without a finding). The
last to leave discards the watch, and one not spoiled clears BALANCE_SUSPECT and the deviant-move counter. -/
def Obligations.ScanComparedWithRecords : Prop :=
  (∀ (check : Check) (sl : Slot) (r : LevelReport),
    judgeLevel check sl r =
      if sl.reservation ≠ .none ∨ sl.condition = .blocked then .skipped
      else if sl.content = .empty then (if r = .absent then .matching else .mismatch .unexpected)
      else if r = .absent then .mismatch .missing
      else if check = .presence ∨ r = .tag sl.tag then .matching
      else match r with
        | .tag _ => .mismatch .wrongTag
        | _ => .mismatch .unreadable)
  ∧ (∀ (s : State) (x : Index) (sc : Scan) (t : AuditTask) (n : Nat), s.audit.tasks.get x = some t →
      n = ((judgeScan s x t.check sc).filter Judged.isMismatch).length →
      (32 - s.audit.log.length < n → auditComparison x sc s =
        s.setTask x (some { t with scan := none, state := .heldLog }))
      ∧ (n ≤ 32 - s.audit.log.length → (sc.levels.map LevelEntry.level).Nodup →
          ∃ (u : State) (t' : AuditTask) (entries : List LogEntry), auditComparison x sc s = u
          ∧ t' = { t with
              list := t.list.filter (fun c => c != sc.carrier), scan := none, findings := t.findings + n
              state := if (t.list.filter (fun c => c != sc.carrier)) = [] then .done else t.state }
          ∧ u.audit = { s.audit with
              tasks := s.audit.tasks.set x (some t'), log := s.audit.log ++ entries
              entryCounter := if n = 0 then s.audit.entryCounter else min (s.audit.entryCounter + n) 4294967295 }
          ∧ entries.length = n
          ∧ (∀ (i : Nat) (e : LevelEntry) (sl : Slot) (kind : Finding),
              (sc.levels.filterMap fun e =>
                match s.slot? x sc.carrier e.level with
                | some sl =>
                  match judgeLevel t.check sl (e.report.getD .noReport) with
                  | .mismatch kind => some (e, sl, kind)
                  | _ => none
                | none => none)[i]? = some (e, sl, kind) →
              entries[i]? = some
                { number := min (s.audit.entryCounter + i + 1) 4294967295, carousel := x, carrier := sc.carrier,
                  level := e.level, kind := kind, recordedTag := if sl.content = .held then some sl.tag else none
                  readTag := match t.check, e.report with
                    | .tag, some (.tag tag) => some tag
                    | _, _ => none
                  generation := t.generation })
          ∧ (∀ e ∈ sc.levels, ∀ sl, s.slot? x sc.carrier e.level = some sl →
              u.slot? x sc.carrier e.level = some (match judgeLevel t.check sl (e.report.getD .noReport) with
                | .skipped => sl
                | .matching => { sl with condition := .clear, stamp := s.audit.generation }
                | .mismatch kind => { sl with condition := .suspect, finding := some kind }))
          ∧ (∀ (y : Index) (c l : Nat), y ≠ x ∨ c ≠ sc.carrier ∨ l ∉ sc.levels.map LevelEntry.level →
              u.slot? y c l = s.slot? y c l)
          ∧ (s.link.sampled = true → ∀ e : Event, u.flagSet e = (s.flagSet e || (e == .discrepancy && n != 0)
              || (e == .auditDone && t'.state == .done)))
          ∧ u.groups = (if t'.state = .done ∧ t.origin = .auto then (reportAutoEnd x (t'.findings == 0) s).groups
              else s.groups)
          ∧ u.ports = s.ports ∧ u.stores = s.stores ∧ u.sched = s.sched ∧ u.station = s.station
          ∧ u.channels = s.channels))
  ∧ ∀ (s : State) (x : Index) (clean : Bool),
      (s.groupOf x = none → reportAutoEnd x clean s = s)
      ∧ ∀ (g : Index) (grp : Group), s.groupOf x = some g → s.groups.get g = some grp →
          (grp.watch = none → reportAutoEnd x clean s = s)
          ∧ ∀ (w : Watch) (rest : List Index), grp.watch = some w → rest = w.carousels.filter (fun y => y != x) →
              (x ∉ w.carousels → reportAutoEnd x clean s = s)
              ∧ (x ∈ w.carousels →
                  (rest ≠ [] → reportAutoEnd x clean s = s.setGroup g (some { grp with
                    watch := some { carousels := rest, spoiled := w.spoiled || !clean } }))
                  ∧ (rest = [] → w.spoiled = false → clean = true → reportAutoEnd x clean s =
                      s.setGroup g (some { grp with watch := none, suspect := false, deviant := 0 }))
                  ∧ (rest = [] → w.spoiled = true ∨ clean = false → reportAutoEnd x clean s =
                      s.setGroup g (some { grp with watch := none })))

/-! ## What every step keeps -/

/-- R160, R161, R164, R166, R167: in every step the link unit stays sound: the watchdog RUNNING exactly in NORMAL with a code
other than 7, with the timeout of its code; the receiver off exactly while a reply is sent; nothing taken, sent or set before
sampling ends.

R41, R103, R108, R133, R139, R146, R153, R155: in every step each counter stays in its range and the log within its 32
entries. -/
def Obligations.StepKeepsLinkSound : Prop :=
  (∀ s t : State, LinkInv s.link → step s = .next t → LinkInv t.link)
  ∧ (∀ s t : State, CounterInv s → step s = .next t → CounterInv t)

/-- R6, R9, R10, R12, R16, R18, R59, R151: in every step the drive groups stay sound: RUN is high only in REFERENCING or
MOVING, k is valid in IDLE and MOVING and invalid in OFFLINE and FAULTED, the move slots and the settle and stall timers agree
with the state, and the torque engine measures a group whose RUN is high whenever one is. -/
def Obligations.StepKeepsDriveSound : Prop :=
  ∀ s t : State, DriveInv s → step s = .next t → DriveInv t

/-- R76, R77, R81, R87, R126, R127: in every step each port stays sound (FAULTED exactly with a fault record, a load record
exactly with an item on the deck, a job and the transfer timer exactly with a transfer, each output active exactly in its
transfer, no scan beside one), and the release in progress is the one port that is RELEASING. -/
def Obligations.StepKeepsPortsSound : Prop :=
  ∀ s t : State, PortInv s → step s = .next t → PortInv t

/-- R128, R129, R130, R133, R135, R137: in every step the station stays sound: at most 12 entries on the collector and 8 items
in the reject lane, a running collector below H, room kept for the release in progress and for the diversion under way, the
settings in their ranges, send and timer raised exactly while a diversion runs without a fault, the collector drive running
exactly without a fault, and a fault record naming a diversion exactly while the diverter is still DIVERTING (log 19). -/
def Obligations.StepKeepsStationSound : Prop :=
  ∀ s t : State, StationInv s.station → step s = .next t → StationInv t.station

/-- R4, R6, R7, R41, R43: in every step each group's profiles have one value for each offset and change sign half a loop on,
an OFFLINE group's profiles are zero, and the members of a group share one geometry that R4 accepts. -/
def Obligations.StepKeepsProfilesBalanced : Prop :=
  ∀ s t : State, BalanceInv s → step s = .next t → BalanceInv t

/-- R42: in every step the profiles stay what they are defined as: for each group not OFFLINE and each offset k, E is the sum
of lever weight times counted mass over the slots of the members, and P that sum with each PLANNED incoming mass added and
each PLANNED outgoing mass taken away. -/
def Obligations.StepKeepsProfilesDefined : Prop :=
  ∀ s t : State, BalanceInv s → StockSound s → ProfilesDefined s → step s = .next t → ProfilesDefined t

/-- R30 to R36: in every step the stock stays sound and the tag law holds: each slot record of a COMMITTED map is one of the
combinations of R30 with its counted mass, reservations and transfers agree, and no tag is held in two places among the HELD
slots, the open store records, the decks, the collector, the lanes and the reject list. The tag search finds a tag exactly
where one of these holds it. -/
def Obligations.StepKeepsStockAndTagLaw : Prop :=
  (∀ s t : State, BalanceInv s → StockSound s → step s = .next t → StockSound t)
  ∧ (∀ s t : State, BalanceInv s → StockSound s → TagLaw s → step s = .next t → TagLaw t)
  ∧ ∀ (s : State) (tag : Id32), tagPlace s tag = none ↔ tag ∉ s.heldTags

/-- R173: what is written to a request's payload is read back from it, for every value that its fields can carry: no bit of a
field is dropped, in the field order and byte order of R173.

R28, R40, R58, R106, R111, R123, R138, R146, R150, R171, R173, R175: the records that replies carry, field by field in the
order of sections 11.4 to 11.8: multi-byte values little-endian, an absent tag, id, lane, member or finding sent as 0, an
absent carrier, level, offset or port as 0xFF. The spec gives no value for an absent short indicator, sent as 0 (log 39), nor
for the phase, direction, class, distance and path maximum of an absent CURRENT, sent as 0 (log 40). A task's carriers are in
the order of its list (log 26). The release port is that of the release in progress where the station is FAULTED, and absent
where it is not (log 49). Each enumeration of section 11.3 is coded by position. -/
def Obligations.PayloadsLaidOut : Prop :=
  (∀ r : LinkRequest, r.code < 256 → r.mask < 65536 → readLink (writeLink r) = r)
  ∧ (∀ r : CarouselRequest, r.carousel < 256 → r.carriers < 256 → r.bend < 256 → r.port < 256 → r.levels < 256 →
      r.carrierLimit < 65536 → r.pulses < 65536 → (∀ l ∈ r.limits, l < 65536) → readCarousel (writeCarousel r) = r)
  ∧ (∀ r : GroupRequest, r.group < 256 → r.members < 256 → r.lp < 4294967296 → r.ls1 < 4294967296 →
      r.ls2 < 4294967296 → r.ld < 4294967296 → r.friction < 4294967296 → r.fullScale < 4294967296 →
      r.tolerance < 4294967296 → r.stallTime < 256 → r.autoAudit < 256 → readGroup (writeGroup r) = r)
  ∧ (∀ r : ClearRequest, r.target < 256 → r.argument < 256 → readClear (writeClear r) = r)
  ∧ (∀ r : BalanceRequest, r.group < 256 → r.first < 256 → r.count < 256 → readBalance (writeBalance r) = r)
  ∧ (∀ r : MapReadRequest, r.carousel < 256 → r.carrier < 256 → r.level < 256 → r.count < 256 →
      readMapRead (writeMapRead r) = r)
  ∧ (∀ r : SlotRequest, r.carousel < 256 → r.carrier < 256 → r.level < 256 → readSlotName (writeSlotName r) = r)
  ∧ (∀ (carousel : Byte) (ims : List SlotImage), (∀ im ∈ ims, im.carrier < 256 ∧ im.level < 256 ∧ im.content < 256
      ∧ im.member < 256 ∧ im.mass < 65536) → readImages (carousel :: ims.flatMap writeImage) = ims)
  ∧ (∀ r : StoreRequest, r.port < 256 → r.declared < 65536 → r.member < 256 → r.hint < 256 →
      readStore (writeStore r) = r)
  ∧ (∀ r : OrderRequest, r.priority < 256 → r.count < 256 → readOrder (writeOrder r) = r)
  ∧ (∀ r : Settings, r.transferTimeout < 256 → r.massTolerance < 256 → r.storePatience < 65536 → r.laneCount < 256 →
      r.high < 256 → r.low < 256 → readSettings (writeSettings r) = r)
  ∧ (∀ r : AuditRequest, r.carousel < 256 → r.selection < 256 → r.first < 256 → r.count < 256 → r.check < 256 →
      readAudit (writeAudit r) = r)
  ∧ (∀ r : LogRequest, r.consume < 256 → r.read < 256 → readLog (writeLog r) = r)
  ∧ ((∀ n : Nat, u8 n = [BitVec.ofNat 8 n] ∧ u16 n = [BitVec.ofNat 8 n, BitVec.ofNat 8 (n / 256)]
        ∧ u32 n = [BitVec.ofNat 8 n, BitVec.ofNat 8 (n / 256), BitVec.ofNat 8 (n / 65536), BitVec.ofNat 8 (n / 16777216)])
      ∧ (∀ z : Int, i32 z = [BitVec.ofInt 8 z, BitVec.ofInt 8 (z / 256), BitVec.ofInt 8 (z / 65536),
          BitVec.ofInt 8 (z / 16777216)])
      ∧ (∀ b : Id32, id32 b = [b.extractLsb' 0 8, b.extractLsb' 8 8, b.extractLsb' 16 8, b.extractLsb' 24 8])
      ∧ flag true = [1#8] ∧ flag false = [0#8])
  ∧ ([GroupState.offline, .referencing, .idle, .moving, .paused, .faulted].map GroupState.code = [0, 1, 2, 3, 4, 5]
      ∧ [FaultCause.none, .stall, .drive, .position, .feedback, .interlock].map FaultCause.code = [0, 1, 2, 3, 4, 5]
      ∧ [ShuttleState.homeEmpty, .inserting, .extracting, .homeLoaded, .releasing, .faulted].map ShuttleState.code
          = [0, 1, 2, 3, 4, 5]
      ∧ (∀ (p : Index) (c l : Nat) (id : Id32) (n : Nat),
          [none, some (.insert p c l p), some (.extract c l id n), some .release, some .start].map jamCode
            = [0, 1, 2, 3, 4])
      ∧ [Mode.normal, .hold].map Mode.code = [0, 1] ∧ [MapState.absent, .opened, .committed].map MapState.code = [0, 1, 2]
      ∧ [Content.empty, .held].map Content.code = [0, 1]
      ∧ [Condition.clear, .suspect, .blocked].map Condition.code = [0, 1, 2]
      ∧ [Phase.planned, .started].map Phase.code = [0, 1]
      ∧ [Finding.missing, .unexpected, .wrongTag, .unreadable, .insertJam, .extractJam].map Finding.code
          = [1, 2, 3, 4, 5, 6]
      ∧ (∀ why : StoreReason, [StoreState.weighing, .placed, .inserting, .done, .rejected why].map StoreState.code
          = [1, 2, 3, 4, 5])
      ∧ [StoreReason.mass, .unstable, .tag, .noSlot, .balance, .jam, .withdrawn].map StoreReason.code
          = [1, 2, 3, 4, 5, 6, 7]
      ∧ [OrderState.queued, .active, .complete, .cancelling, .cancelled].map OrderState.code = [0, 1, 2, 3, 4]
      ∧ (∀ (b : Bool) (why : ShortReason), [LineState.reserved, .balanceWait b, .extracting, .onShuttle, .releasing,
          .inTransit, .arrived, .short why, .withdrawn].map LineState.code = [0, 1, 2, 3, 4, 5, 6, 7, 8])
      ∧ [LaneState.free, .filling, .complete, .heldCancelled].map LaneState.code = [0, 1, 2, 3]
      ∧ (∀ l : Lane, [Diverter.idle, .waitingRoom, .diverting l].map Diverter.code = [0, 1, 2])
      ∧ [AuditState.running, .heldLog, .done, .stopped].map AuditState.code = [1, 2, 3, 4]
      ∧ [Origin.host, .auto].map Origin.code = [0, 1] ∧ [Check.presence, .tag].map Check.code = [0, 1]
      ∧ (∀ l : Lane, [StationFaultKind.divertTimeout, .misroute l, .strayEntry].map StationFaultKind.code = [1, 2, 3])
      ∧ [Lane.order 0, .order 1, .order 2, .order 3, .reject].map laneNumber = [1, 2, 3, 4, 5])
  ∧ (∀ s : State, statusBytes s =
      u8 s.link.mode.code ++ u16 s.link.flags.toNat ++ u16 s.link.mask.toNat ++ u8 s.link.wdCode
        ++ flag s.link.wdTimer.isSome
        ++ (([0, 1, 2, 3] : List Index).flatMap fun g =>
          match s.groups.get g with
          | none => [0#8, 0#8, 0xFF#8, 0#8, 0#8, 0#8, 0#8, 0#8, 0#8, 0xFF#8, 0xFF#8, 0#8, 0#8, 0#8, 0#8, 0#8, 0xFF#8, 0xFF#8]
          | some grp =>
            u8 1 ++ u8 grp.state.code ++ u8 (grp.k.getD 0xFF) ++ u8 grp.cause.code ++ flag grp.suspect ++ u8 grp.deviant
              ++ u8 grp.revolution
              ++ u8 ((s.channels.get g).run.toNat
                + (match (s.channels.get g).dir with
                  | .forward => 0
                  | .reverse => 2)
                + (match (s.channels.get g).speed with
                  | .creep => 0
                  | .gentle => 4
                  | .normal => 8
                  | .fast => 12))
              ++ u8 (64 * grp.pausePending.toNat + match grp.current with
                | none => 0
                | some m =>
                  1 + (match m.phase with
                    | .waiting => 0
                    | .travel => 2
                    | .settling => 4)
                  + (match m.dir with
                    | .forward => 0
                    | .reverse => 8)
                  + (match m.cls with
                    | .creep => 0
                    | .gentle => 16
                    | .normal => 32
                    | .fast => 48) + 128 * m.holdStop.toNat)
              ++ (match grp.current with
                | some m => u8 m.target ++ u8 m.carrier ++ u8 m.distance ++ u32 m.pathMax
                | none => [0xFF#8, 0xFF#8, 0#8, 0#8, 0#8, 0#8, 0#8])
              ++ (match grp.next with
                | some n => u8 n.target ++ u8 n.carrier
                | none => [0xFF#8, 0xFF#8]))
        ++ (([0, 1, 2, 3] : List Index).flatMap fun p =>
          u8 (s.ports.get p).shuttle.code ++ u8 (jamCode (s.ports.get p).fault)
            ++ match (s.ports.get p).loadRec with
              | some lr => id32 lr.tag
              | none => [0#8, 0#8, 0#8, 0#8])
        ++ u8 (s.sched.orders.filter Option.isSome).length
        ++ flag s.station.fault.isSome ++ u8 s.station.collector.length ++ flag s.station.paused
        ++ (([0, 1, 2, 3] : List Index).flatMap fun i =>
          u8 (s.station.lanes.get i).state.code ++ u8 (s.station.lanes.get i).stack.length)
        ++ u8 s.station.reject.length ++ u32 s.audit.generation ++ u8 s.audit.log.length)
  ∧ (∀ (s : State) (g : Index) (grp : Group) (first count n : Nat), n = min count ((s.geometry g).carriers - first) →
      balanceBytes s g grp first count =
        u8 grp.state.code ++ u8 (s.geometry g).carriers ++ u16 grp.changeNo ++ u32 (peak grp.effective)
          ++ u32 (peak grp.planned) ++ u8 grp.deviant ++ flag grp.suspect
          ++ (match grp.lastCompared with
            | some c => u8 1 ++ u8 c.offset ++ i32 c.measured ++ i32 c.expected
            | none => [0#8, 0xFF#8, 0#8, 0#8, 0#8, 0#8, 0#8, 0#8, 0#8, 0#8])
          ++ u8 n ++ ((List.range n).flatMap fun i =>
            i32 (grp.effective.getD (first + i) 0) ++ i32 (grp.planned.getD (first + i) 0)))
  ∧ ((∀ (c l : Nat) (sl : Slot), imageBytes c l sl =
        u8 c ++ u8 l ++ u8 sl.content.code ++ id32 sl.tag ++ id32 sl.setId ++ u8 sl.member ++ u16 sl.recorded)
      ∧ (∀ f : Option CommitFinding, findingBytes f = match f with
          | some f => u8 f.reason.code ++ u8 f.carrier ++ u8 (f.level.getD 0xFF)
          | none => [0#8, 0xFF#8, 0xFF#8])
      ∧ ∀ (ms : MapState) (c l : Nat) (sl : Slot), slotBytes ms c l sl =
          u8 ms.code ++ imageBytes c l sl ++ u16 sl.counted ++ u8 sl.condition.code
            ++ (match sl.reservation with
              | .none => [0#8, 0#8, 0#8, 0#8, 0#8, 0#8, 0#8, 0#8, 0#8]
              | .inbound p tag m ph => u8 1 ++ u8 ph.code ++ u8 p.val ++ id32 tag ++ u16 m
              | .outbound id seq ph => u8 2 ++ u8 ph.code ++ id32 id ++ u8 seq ++ [0#8, 0#8])
            ++ u32 sl.stamp ++ match sl.finding with
              | some f => u8 f.code
              | none => [0#8])
  ∧ (storeBytes none = [0#8, 0#8, 0#8, 0#8, 0#8, 0#8, 0#8, 0#8, 0#8, 0#8, 0#8, 0#8, 0#8, 0xFF#8, 0#8, 0#8, 0#8, 0#8, 0xFF#8,
        0xFF#8, 0#8, 0#8, 0#8, 0#8, 0#8, 0#8, 0#8, 0#8]
      ∧ ∀ r : StoreRecord, storeBytes (some r) =
          u8 r.state.code
            ++ (match r.state with
              | .rejected why => u8 why.code
              | _ => [0#8])
            ++ id32 r.tag ++ u16 r.declared ++ id32 r.setId ++ u8 r.member ++ u8 (r.hint.getD 0xFF) ++ u8 r.weighings
            ++ u16 (r.measured.getD 0) ++ flag r.corrected
            ++ (match r.chosen with
              | some (c, l) => u8 c ++ u8 l
              | none => [0xFF#8, 0xFF#8])
            ++ u32 (r.trialPeak.getD 0) ++ u16 (r.waited.getD 0) ++ flag r.promoted
            ++ match r.state, r.cond with
              | .placed, .pending => [1#8]
              | .placed, .balanceWait => [2#8]
              | .placed, .reconsidered => [3#8]
              | _, _ => [0#8])
  ∧ ((∀ (i : Nat) (o : Order), orderBytes i o =
        u8 i ++ id32 o.id ++ u8 o.priority ++ u8 o.state.code ++ flag (o.short.getD false) ++ u32 o.openSeq
          ++ u32 (o.actSeq.getD 0)
          ++ (match o.lane with
            | some lane => u8 (lane.val + 1)
            | none => [0#8])
          ++ u8 o.lines.length ++ o.lines.flatMap fun l =>
            u8 l.seq ++ id32 l.tag ++ u8 l.carousel.val ++ u8 l.carrier ++ u8 l.level ++ u16 l.mass ++ u8 l.state.code
              ++ u8 ((match l.state with
                | .short .missing => 1
                | .short .wrongTag => 2
                | .short .jam => 3
                | .balanceWait true => 8
                | _ => 0) + 4 * l.rejectBound.toNat))
      ∧ ∀ (s : State) (i : Nat) (o : Order), s.findOrder o.id = some (i, o) → openedBytes s o.id =
          u8 i ++ u32 o.openSeq ++ u8 o.state.code ++ match o.lane with
            | some lane => u8 (lane.val + 1)
            | none => [0#8])
  ∧ ((∀ st : Station, stationBytes st =
        flag st.fault.isSome
          ++ (match st.fault with
            | none => [0#8, 0#8, 0#8, 0#8, 0#8, 0#8, 0#8, 0#8, 0#8, 0#8, 0#8, 0#8, 0#8, 0#8, 0#8]
            | some f =>
              u8 f.kind.code
                ++ (match f.diversion with
                  | some d => u8 1 ++ id32 d.tag ++ id32 d.order ++ u8 d.line ++ u8 (laneNumber d.dest)
                  | none => [0#8, 0#8, 0#8, 0#8, 0#8, 0#8, 0#8, 0#8, 0#8, 0#8, 0#8])
                ++ (match f.kind with
                  | .misroute l => u8 (laneNumber l)
                  | _ => [0#8])
                ++ (match f.lateArrival with
                  | some l => u8 (laneNumber l)
                  | none => [0#8])
                ++ u8 f.strayCount)
          ++ flag st.paused ++ u8 st.diverter.code
          ++ (match st.diverter with
            | .diverting d => u8 (laneNumber d)
            | _ => [0#8])
          ++ (match st.fault, st.releasePort with
            | some _, some p => u8 p.val
            | _, _ => [0xFF#8])
          ++ u8 st.collector.length ++ (st.collector.flatMap fun e => id32 e.tag ++ id32 e.order ++ u8 e.line)
          ++ u8 st.settings.transferTimeout ++ u8 st.settings.massTolerance ++ u16 st.settings.storePatience
          ++ u8 st.settings.laneCount ++ u8 st.settings.high ++ u8 st.settings.low)
      ∧ (∀ r : LaneRecord, laneBytes r =
          u8 r.state.code ++ (match r.order with
              | some id => id32 id
              | none => [0#8, 0#8, 0#8, 0#8])
            ++ u8 r.stack.length ++ r.stack.flatMap fun e => id32 e.tag ++ u8 e.line)
      ∧ ∀ l : List RejectItem, rejectBytes l = u8 l.length ++ l.flatMap fun e => id32 e.tag ++ id32 e.order)
  ∧ (taskBytes none = [0#8, 0#8, 0#8, 0#8, 0#8, 0#8, 0#8, 0#8, 0#8, 0#8, 0#8, 0#8, 0xFF#8, 0#8]
      ∧ (∀ t : AuditTask, taskBytes (some t) =
          u8 t.state.code ++ u8 t.origin.code ++ u8 t.check.code
            ++ (match t.selection with
              | .span first count => u8 0 ++ u8 first ++ u8 count
              | .oldest count => u8 1 ++ [0xFF#8] ++ u8 count)
            ++ u32 t.generation ++ u16 t.findings ++ u8 (t.scan.getD 0xFF) ++ u8 t.list.length ++ t.list.flatMap u8)
      ∧ ∀ e : LogEntry, entryBytes e =
          u32 e.number ++ u8 e.carousel.val ++ u8 e.carrier ++ u8 e.level ++ u8 e.kind.code
            ++ (match e.recordedTag with
              | some tag => id32 tag
              | none => [0#8, 0#8, 0#8, 0#8])
            ++ (match e.readTag with
              | some tag => id32 tag
              | none => [0#8, 0#8, 0#8, 0#8])
            ++ u32 e.generation)
end

