-- ==== Sys2Proof/Laws/State.lean ====
section
/-! SUPPORT. What each update of the state leaves in each field: one lemma for each field of each update, so that no proof
unfolds a record update. -/

namespace Sys2Proof

-- One theorem after the other: many at once want more memory than a build may take.
set_option Elab.async false

namespace Quad

variable {α β : Type}

@[simp] theorem get_set_same (q : Quad α) (i : Index) (v : α) : (q.set i v).get i = v := by
  match i with
  | 0 => rfl
  | 1 => rfl
  | 2 => rfl
  | 3 => rfl

theorem get_set_ne (q : Quad α) {i j : Index} (v : α) (h : j ≠ i) : (q.set i v).get j = q.get j := by
  match i, j with
  | 0, 0 => exact absurd rfl h
  | 1, 1 => exact absurd rfl h
  | 2, 2 => exact absurd rfl h
  | 3, 3 => exact absurd rfl h
  | 0, 1 => rfl
  | 0, 2 => rfl
  | 0, 3 => rfl
  | 1, 0 => rfl
  | 1, 2 => rfl
  | 1, 3 => rfl
  | 2, 0 => rfl
  | 2, 1 => rfl
  | 2, 3 => rfl
  | 3, 0 => rfl
  | 3, 1 => rfl
  | 3, 2 => rfl

theorem get_set (q : Quad α) (i j : Index) (v : α) : (q.set i v).get j = if j = i then v else q.get j := by
  by_cases h : j = i
  · subst h; simp
  · simp [h, get_set_ne q v h]

@[simp] theorem set_get (q : Quad α) (i : Index) : q.set i (q.get i) = q := by
  match i with
  | 0 => rfl
  | 1 => rfl
  | 2 => rfl
  | 3 => rfl

theorem set_eq_self {q : Quad α} {i : Index} {v : α} (h : q.get i = v) : q.set i v = q := by rw [← h, set_get]

@[simp] theorem set_set (q : Quad α) (i : Index) (v w : α) : (q.set i v).set i w = q.set i w := by
  match i with
  | 0 => rfl
  | 1 => rfl
  | 2 => rfl
  | 3 => rfl

@[simp] theorem get_map (f : α → β) (q : Quad α) (i : Index) : (q.map f).get i = f (q.get i) := by
  match i with
  | 0 => rfl
  | 1 => rfl
  | 2 => rfl
  | 3 => rfl

@[simp] theorem map_set (f : α → β) (q : Quad α) (i : Index) (v : α) : (q.set i v).map f = (q.map f).set i (f v) := by
  match i with
  | 0 => rfl
  | 1 => rfl
  | 2 => rfl
  | 3 => rfl

@[simp] theorem get_fill (v : α) (i : Index) : (Quad.fill v).get i = v := by
  match i with
  | 0 => rfl
  | 1 => rfl
  | 2 => rfl
  | 3 => rfl

/-- Four things are equal when each is. -/
theorem ext_get {q r : Quad α} (h : ∀ i, q.get i = r.get i) : q = r := by
  have h0 := h 0
  have h1 := h 1
  have h2 := h 2
  have h3 := h 3
  cases q; cases r; simp_all [Quad.get]

end Quad

namespace Machine

variable (s : State)

/-! ### setLink -/

@[simp] theorem setLink_link (l : Link) : (s.setLink l).link = l := rfl
@[simp] theorem setLink_carousels (l : Link) : (s.setLink l).carousels = s.carousels := rfl
@[simp] theorem setLink_channels (l : Link) : (s.setLink l).channels = s.channels := rfl
@[simp] theorem setLink_groups (l : Link) : (s.setLink l).groups = s.groups := rfl
@[simp] theorem setLink_startSlot (l : Link) : (s.setLink l).startSlot = s.startSlot := rfl
@[simp] theorem setLink_ports (l : Link) : (s.setLink l).ports = s.ports := rfl
@[simp] theorem setLink_stores (l : Link) : (s.setLink l).stores = s.stores := rfl
@[simp] theorem setLink_sched (l : Link) : (s.setLink l).sched = s.sched := rfl
@[simp] theorem setLink_station (l : Link) : (s.setLink l).station = s.station := rfl
@[simp] theorem setLink_audit (l : Link) : (s.setLink l).audit = s.audit := rfl
@[simp] theorem setLink_choices (l : Link) : (s.setLink l).choices = s.choices := rfl
@[simp] theorem setLink_pending (l : Link) : (s.setLink l).pending = s.pending := rfl

/-! ### setReceiver -/

@[simp] theorem setReceiver_link (r : Receiver) : (s.setReceiver r).link = { s.link with receiver := r } := rfl
@[simp] theorem setReceiver_carousels (r : Receiver) : (s.setReceiver r).carousels = s.carousels := rfl
@[simp] theorem setReceiver_channels (r : Receiver) : (s.setReceiver r).channels = s.channels := rfl
@[simp] theorem setReceiver_groups (r : Receiver) : (s.setReceiver r).groups = s.groups := rfl
@[simp] theorem setReceiver_startSlot (r : Receiver) : (s.setReceiver r).startSlot = s.startSlot := rfl
@[simp] theorem setReceiver_ports (r : Receiver) : (s.setReceiver r).ports = s.ports := rfl
@[simp] theorem setReceiver_stores (r : Receiver) : (s.setReceiver r).stores = s.stores := rfl
@[simp] theorem setReceiver_sched (r : Receiver) : (s.setReceiver r).sched = s.sched := rfl
@[simp] theorem setReceiver_station (r : Receiver) : (s.setReceiver r).station = s.station := rfl
@[simp] theorem setReceiver_audit (r : Receiver) : (s.setReceiver r).audit = s.audit := rfl
@[simp] theorem setReceiver_choices (r : Receiver) : (s.setReceiver r).choices = s.choices := rfl
@[simp] theorem setReceiver_pending (r : Receiver) : (s.setReceiver r).pending = s.pending := rfl

/-! ### setCarousel -/

@[simp] theorem setCarousel_link (x : Index) (c : Carousel) : (s.setCarousel x c).link = s.link := rfl
@[simp] theorem setCarousel_carousels (x : Index) (c : Carousel) : (s.setCarousel x c).carousels = s.carousels.set x c := rfl
@[simp] theorem setCarousel_channels (x : Index) (c : Carousel) : (s.setCarousel x c).channels = s.channels := rfl
@[simp] theorem setCarousel_groups (x : Index) (c : Carousel) : (s.setCarousel x c).groups = s.groups := rfl
@[simp] theorem setCarousel_startSlot (x : Index) (c : Carousel) : (s.setCarousel x c).startSlot = s.startSlot := rfl
@[simp] theorem setCarousel_ports (x : Index) (c : Carousel) : (s.setCarousel x c).ports = s.ports := rfl
@[simp] theorem setCarousel_stores (x : Index) (c : Carousel) : (s.setCarousel x c).stores = s.stores := rfl
@[simp] theorem setCarousel_sched (x : Index) (c : Carousel) : (s.setCarousel x c).sched = s.sched := rfl
@[simp] theorem setCarousel_station (x : Index) (c : Carousel) : (s.setCarousel x c).station = s.station := rfl
@[simp] theorem setCarousel_audit (x : Index) (c : Carousel) : (s.setCarousel x c).audit = s.audit := rfl
@[simp] theorem setCarousel_choices (x : Index) (c : Carousel) : (s.setCarousel x c).choices = s.choices := rfl
@[simp] theorem setCarousel_pending (x : Index) (c : Carousel) : (s.setCarousel x c).pending = s.pending := rfl

/-! ### setChannel -/

@[simp] theorem setChannel_link (g : Index) (c : Channel) : (s.setChannel g c).link = s.link := rfl
@[simp] theorem setChannel_carousels (g : Index) (c : Channel) : (s.setChannel g c).carousels = s.carousels := rfl
@[simp] theorem setChannel_channels (g : Index) (c : Channel) : (s.setChannel g c).channels = s.channels.set g c := rfl
@[simp] theorem setChannel_groups (g : Index) (c : Channel) : (s.setChannel g c).groups = s.groups := rfl
@[simp] theorem setChannel_startSlot (g : Index) (c : Channel) : (s.setChannel g c).startSlot = s.startSlot := rfl
@[simp] theorem setChannel_ports (g : Index) (c : Channel) : (s.setChannel g c).ports = s.ports := rfl
@[simp] theorem setChannel_stores (g : Index) (c : Channel) : (s.setChannel g c).stores = s.stores := rfl
@[simp] theorem setChannel_sched (g : Index) (c : Channel) : (s.setChannel g c).sched = s.sched := rfl
@[simp] theorem setChannel_station (g : Index) (c : Channel) : (s.setChannel g c).station = s.station := rfl
@[simp] theorem setChannel_audit (g : Index) (c : Channel) : (s.setChannel g c).audit = s.audit := rfl
@[simp] theorem setChannel_choices (g : Index) (c : Channel) : (s.setChannel g c).choices = s.choices := rfl
@[simp] theorem setChannel_pending (g : Index) (c : Channel) : (s.setChannel g c).pending = s.pending := rfl

/-! ### setGroup -/

@[simp] theorem setGroup_link (g : Index) (o : Option Group) : (s.setGroup g o).link = s.link := rfl
@[simp] theorem setGroup_carousels (g : Index) (o : Option Group) : (s.setGroup g o).carousels = s.carousels := rfl
@[simp] theorem setGroup_channels (g : Index) (o : Option Group) : (s.setGroup g o).channels = s.channels := rfl
@[simp] theorem setGroup_groups (g : Index) (o : Option Group) : (s.setGroup g o).groups = s.groups.set g o := rfl
@[simp] theorem setGroup_startSlot (g : Index) (o : Option Group) : (s.setGroup g o).startSlot = s.startSlot := rfl
@[simp] theorem setGroup_ports (g : Index) (o : Option Group) : (s.setGroup g o).ports = s.ports := rfl
@[simp] theorem setGroup_stores (g : Index) (o : Option Group) : (s.setGroup g o).stores = s.stores := rfl
@[simp] theorem setGroup_sched (g : Index) (o : Option Group) : (s.setGroup g o).sched = s.sched := rfl
@[simp] theorem setGroup_station (g : Index) (o : Option Group) : (s.setGroup g o).station = s.station := rfl
@[simp] theorem setGroup_audit (g : Index) (o : Option Group) : (s.setGroup g o).audit = s.audit := rfl
@[simp] theorem setGroup_choices (g : Index) (o : Option Group) : (s.setGroup g o).choices = s.choices := rfl
@[simp] theorem setGroup_pending (g : Index) (o : Option Group) : (s.setGroup g o).pending = s.pending := rfl

/-! ### setPort -/

@[simp] theorem setPort_link (p : Index) (q : Port) : (s.setPort p q).link = s.link := rfl
@[simp] theorem setPort_carousels (p : Index) (q : Port) : (s.setPort p q).carousels = s.carousels := rfl
@[simp] theorem setPort_channels (p : Index) (q : Port) : (s.setPort p q).channels = s.channels := rfl
@[simp] theorem setPort_groups (p : Index) (q : Port) : (s.setPort p q).groups = s.groups := rfl
@[simp] theorem setPort_startSlot (p : Index) (q : Port) : (s.setPort p q).startSlot = s.startSlot := rfl
@[simp] theorem setPort_ports (p : Index) (q : Port) : (s.setPort p q).ports = s.ports.set p q := rfl
@[simp] theorem setPort_stores (p : Index) (q : Port) : (s.setPort p q).stores = s.stores := rfl
@[simp] theorem setPort_sched (p : Index) (q : Port) : (s.setPort p q).sched = s.sched := rfl
@[simp] theorem setPort_station (p : Index) (q : Port) : (s.setPort p q).station = s.station := rfl
@[simp] theorem setPort_audit (p : Index) (q : Port) : (s.setPort p q).audit = s.audit := rfl
@[simp] theorem setPort_choices (p : Index) (q : Port) : (s.setPort p q).choices = s.choices := rfl
@[simp] theorem setPort_pending (p : Index) (q : Port) : (s.setPort p q).pending = s.pending := rfl

/-! ### setStore -/

@[simp] theorem setStore_link (p : Index) (r : Option StoreRecord) : (s.setStore p r).link = s.link := rfl
@[simp] theorem setStore_carousels (p : Index) (r : Option StoreRecord) : (s.setStore p r).carousels = s.carousels := rfl
@[simp] theorem setStore_channels (p : Index) (r : Option StoreRecord) : (s.setStore p r).channels = s.channels := rfl
@[simp] theorem setStore_groups (p : Index) (r : Option StoreRecord) : (s.setStore p r).groups = s.groups := rfl
@[simp] theorem setStore_startSlot (p : Index) (r : Option StoreRecord) : (s.setStore p r).startSlot = s.startSlot := rfl
@[simp] theorem setStore_ports (p : Index) (r : Option StoreRecord) : (s.setStore p r).ports = s.ports := rfl
@[simp] theorem setStore_stores (p : Index) (r : Option StoreRecord) : (s.setStore p r).stores = s.stores.set p r := rfl
@[simp] theorem setStore_sched (p : Index) (r : Option StoreRecord) : (s.setStore p r).sched = s.sched := rfl
@[simp] theorem setStore_station (p : Index) (r : Option StoreRecord) : (s.setStore p r).station = s.station := rfl
@[simp] theorem setStore_audit (p : Index) (r : Option StoreRecord) : (s.setStore p r).audit = s.audit := rfl
@[simp] theorem setStore_choices (p : Index) (r : Option StoreRecord) : (s.setStore p r).choices = s.choices := rfl
@[simp] theorem setStore_pending (p : Index) (r : Option StoreRecord) : (s.setStore p r).pending = s.pending := rfl

/-! ### setSched -/

@[simp] theorem setSched_link (c : Scheduler) : (s.setSched c).link = s.link := rfl
@[simp] theorem setSched_carousels (c : Scheduler) : (s.setSched c).carousels = s.carousels := rfl
@[simp] theorem setSched_channels (c : Scheduler) : (s.setSched c).channels = s.channels := rfl
@[simp] theorem setSched_groups (c : Scheduler) : (s.setSched c).groups = s.groups := rfl
@[simp] theorem setSched_startSlot (c : Scheduler) : (s.setSched c).startSlot = s.startSlot := rfl
@[simp] theorem setSched_ports (c : Scheduler) : (s.setSched c).ports = s.ports := rfl
@[simp] theorem setSched_stores (c : Scheduler) : (s.setSched c).stores = s.stores := rfl
@[simp] theorem setSched_sched (c : Scheduler) : (s.setSched c).sched = c := rfl
@[simp] theorem setSched_station (c : Scheduler) : (s.setSched c).station = s.station := rfl
@[simp] theorem setSched_audit (c : Scheduler) : (s.setSched c).audit = s.audit := rfl
@[simp] theorem setSched_choices (c : Scheduler) : (s.setSched c).choices = s.choices := rfl
@[simp] theorem setSched_pending (c : Scheduler) : (s.setSched c).pending = s.pending := rfl

/-! ### setStation -/

@[simp] theorem setStation_link (t : Station) : (s.setStation t).link = s.link := rfl
@[simp] theorem setStation_carousels (t : Station) : (s.setStation t).carousels = s.carousels := rfl
@[simp] theorem setStation_channels (t : Station) : (s.setStation t).channels = s.channels := rfl
@[simp] theorem setStation_groups (t : Station) : (s.setStation t).groups = s.groups := rfl
@[simp] theorem setStation_startSlot (t : Station) : (s.setStation t).startSlot = s.startSlot := rfl
@[simp] theorem setStation_ports (t : Station) : (s.setStation t).ports = s.ports := rfl
@[simp] theorem setStation_stores (t : Station) : (s.setStation t).stores = s.stores := rfl
@[simp] theorem setStation_sched (t : Station) : (s.setStation t).sched = s.sched := rfl
@[simp] theorem setStation_station (t : Station) : (s.setStation t).station = t := rfl
@[simp] theorem setStation_audit (t : Station) : (s.setStation t).audit = s.audit := rfl
@[simp] theorem setStation_choices (t : Station) : (s.setStation t).choices = s.choices := rfl
@[simp] theorem setStation_pending (t : Station) : (s.setStation t).pending = s.pending := rfl

/-! ### setAudit -/

@[simp] theorem setAudit_link (a : Audit) : (s.setAudit a).link = s.link := rfl
@[simp] theorem setAudit_carousels (a : Audit) : (s.setAudit a).carousels = s.carousels := rfl
@[simp] theorem setAudit_channels (a : Audit) : (s.setAudit a).channels = s.channels := rfl
@[simp] theorem setAudit_groups (a : Audit) : (s.setAudit a).groups = s.groups := rfl
@[simp] theorem setAudit_startSlot (a : Audit) : (s.setAudit a).startSlot = s.startSlot := rfl
@[simp] theorem setAudit_ports (a : Audit) : (s.setAudit a).ports = s.ports := rfl
@[simp] theorem setAudit_stores (a : Audit) : (s.setAudit a).stores = s.stores := rfl
@[simp] theorem setAudit_sched (a : Audit) : (s.setAudit a).sched = s.sched := rfl
@[simp] theorem setAudit_station (a : Audit) : (s.setAudit a).station = s.station := rfl
@[simp] theorem setAudit_audit (a : Audit) : (s.setAudit a).audit = a := rfl
@[simp] theorem setAudit_choices (a : Audit) : (s.setAudit a).choices = s.choices := rfl
@[simp] theorem setAudit_pending (a : Audit) : (s.setAudit a).pending = s.pending := rfl

/-! ### setTask -/

@[simp] theorem setTask_link (x : Index) (t : Option AuditTask) : (s.setTask x t).link = s.link := rfl
@[simp] theorem setTask_carousels (x : Index) (t : Option AuditTask) : (s.setTask x t).carousels = s.carousels := rfl
@[simp] theorem setTask_channels (x : Index) (t : Option AuditTask) : (s.setTask x t).channels = s.channels := rfl
@[simp] theorem setTask_groups (x : Index) (t : Option AuditTask) : (s.setTask x t).groups = s.groups := rfl
@[simp] theorem setTask_startSlot (x : Index) (t : Option AuditTask) : (s.setTask x t).startSlot = s.startSlot := rfl
@[simp] theorem setTask_ports (x : Index) (t : Option AuditTask) : (s.setTask x t).ports = s.ports := rfl
@[simp] theorem setTask_stores (x : Index) (t : Option AuditTask) : (s.setTask x t).stores = s.stores := rfl
@[simp] theorem setTask_sched (x : Index) (t : Option AuditTask) : (s.setTask x t).sched = s.sched := rfl
@[simp] theorem setTask_station (x : Index) (t : Option AuditTask) : (s.setTask x t).station = s.station := rfl
@[simp] theorem setTask_audit (x : Index) (t : Option AuditTask) : (s.setTask x t).audit = { s.audit with tasks := s.audit.tasks.set x t } := rfl
@[simp] theorem setTask_choices (x : Index) (t : Option AuditTask) : (s.setTask x t).choices = s.choices := rfl
@[simp] theorem setTask_pending (x : Index) (t : Option AuditTask) : (s.setTask x t).pending = s.pending := rfl

/-! ### setMap -/

@[simp] theorem setMap_link (x : Index) (m : SlotMap) : (s.setMap x m).link = s.link := rfl
@[simp] theorem setMap_carousels (x : Index) (m : SlotMap) : (s.setMap x m).carousels = s.carousels.set x { s.carousels.get x with map := m } := rfl
@[simp] theorem setMap_channels (x : Index) (m : SlotMap) : (s.setMap x m).channels = s.channels := rfl
@[simp] theorem setMap_groups (x : Index) (m : SlotMap) : (s.setMap x m).groups = s.groups := rfl
@[simp] theorem setMap_startSlot (x : Index) (m : SlotMap) : (s.setMap x m).startSlot = s.startSlot := rfl
@[simp] theorem setMap_ports (x : Index) (m : SlotMap) : (s.setMap x m).ports = s.ports := rfl
@[simp] theorem setMap_stores (x : Index) (m : SlotMap) : (s.setMap x m).stores = s.stores := rfl
@[simp] theorem setMap_sched (x : Index) (m : SlotMap) : (s.setMap x m).sched = s.sched := rfl
@[simp] theorem setMap_station (x : Index) (m : SlotMap) : (s.setMap x m).station = s.station := rfl
@[simp] theorem setMap_audit (x : Index) (m : SlotMap) : (s.setMap x m).audit = s.audit := rfl
@[simp] theorem setMap_choices (x : Index) (m : SlotMap) : (s.setMap x m).choices = s.choices := rfl
@[simp] theorem setMap_pending (x : Index) (m : SlotMap) : (s.setMap x m).pending = s.pending := rfl

/-! ### mapOrders -/

@[simp] theorem mapOrders_link (f : Order → Order) : (s.mapOrders f).link = s.link := rfl
@[simp] theorem mapOrders_carousels (f : Order → Order) : (s.mapOrders f).carousels = s.carousels := rfl
@[simp] theorem mapOrders_channels (f : Order → Order) : (s.mapOrders f).channels = s.channels := rfl
@[simp] theorem mapOrders_groups (f : Order → Order) : (s.mapOrders f).groups = s.groups := rfl
@[simp] theorem mapOrders_startSlot (f : Order → Order) : (s.mapOrders f).startSlot = s.startSlot := rfl
@[simp] theorem mapOrders_ports (f : Order → Order) : (s.mapOrders f).ports = s.ports := rfl
@[simp] theorem mapOrders_stores (f : Order → Order) : (s.mapOrders f).stores = s.stores := rfl
@[simp] theorem mapOrders_sched (f : Order → Order) : (s.mapOrders f).sched = { s.sched with orders := s.sched.orders.map fun e => e.map f } := rfl
@[simp] theorem mapOrders_station (f : Order → Order) : (s.mapOrders f).station = s.station := rfl
@[simp] theorem mapOrders_audit (f : Order → Order) : (s.mapOrders f).audit = s.audit := rfl
@[simp] theorem mapOrders_choices (f : Order → Order) : (s.mapOrders f).choices = s.choices := rfl
@[simp] theorem mapOrders_pending (f : Order → Order) : (s.mapOrders f).pending = s.pending := rfl

/-! ### Events and choices -/

@[simp] theorem raiseEvent_link (e : Event) : (raiseEvent e s).link = { s.link with flags := if s.link.sampled then setFlag e s.link.flags else s.link.flags } := rfl
@[simp] theorem raiseEvent_carousels (e : Event) : (raiseEvent e s).carousels = s.carousels := rfl
@[simp] theorem raiseEvent_channels (e : Event) : (raiseEvent e s).channels = s.channels := rfl
@[simp] theorem raiseEvent_groups (e : Event) : (raiseEvent e s).groups = s.groups := rfl
@[simp] theorem raiseEvent_startSlot (e : Event) : (raiseEvent e s).startSlot = s.startSlot := rfl
@[simp] theorem raiseEvent_ports (e : Event) : (raiseEvent e s).ports = s.ports := rfl
@[simp] theorem raiseEvent_stores (e : Event) : (raiseEvent e s).stores = s.stores := rfl
@[simp] theorem raiseEvent_sched (e : Event) : (raiseEvent e s).sched = s.sched := rfl
@[simp] theorem raiseEvent_station (e : Event) : (raiseEvent e s).station = s.station := rfl
@[simp] theorem raiseEvent_audit (e : Event) : (raiseEvent e s).audit = s.audit := rfl
@[simp] theorem raiseEvent_choices (e : Event) : (raiseEvent e s).choices = s.choices := rfl
@[simp] theorem raiseEvent_pending (e : Event) : (raiseEvent e s).pending = s.pending := rfl

@[simp] theorem spendChoices_link {α : Type} (as : List α) : (spendChoices as s).link = s.link := rfl
@[simp] theorem spendChoices_carousels {α : Type} (as : List α) : (spendChoices as s).carousels = s.carousels := rfl
@[simp] theorem spendChoices_channels {α : Type} (as : List α) : (spendChoices as s).channels = s.channels := rfl
@[simp] theorem spendChoices_groups {α : Type} (as : List α) : (spendChoices as s).groups = s.groups := rfl
@[simp] theorem spendChoices_startSlot {α : Type} (as : List α) : (spendChoices as s).startSlot = s.startSlot := rfl
@[simp] theorem spendChoices_ports {α : Type} (as : List α) : (spendChoices as s).ports = s.ports := rfl
@[simp] theorem spendChoices_stores {α : Type} (as : List α) : (spendChoices as s).stores = s.stores := rfl
@[simp] theorem spendChoices_sched {α : Type} (as : List α) : (spendChoices as s).sched = s.sched := rfl
@[simp] theorem spendChoices_station {α : Type} (as : List α) : (spendChoices as s).station = s.station := rfl
@[simp] theorem spendChoices_audit {α : Type} (as : List α) : (spendChoices as s).audit = s.audit := rfl
@[simp] theorem spendChoices_choices {α : Type} (as : List α) : (spendChoices as s).choices = s.choices + (as.length - 1) := rfl
@[simp] theorem spendChoices_pending {α : Type} (as : List α) : (spendChoices as s).pending = s.pending := rfl

/-! ### modGroup -/

@[simp] theorem modGroup_link (g : Index) (f : Group → Group) : (s.modGroup g f).link = s.link := by
  unfold State.modGroup; split <;> rfl
@[simp] theorem modGroup_carousels (g : Index) (f : Group → Group) : (s.modGroup g f).carousels = s.carousels := by
  unfold State.modGroup; split <;> rfl
@[simp] theorem modGroup_channels (g : Index) (f : Group → Group) : (s.modGroup g f).channels = s.channels := by
  unfold State.modGroup; split <;> rfl
@[simp] theorem modGroup_startSlot (g : Index) (f : Group → Group) : (s.modGroup g f).startSlot = s.startSlot := by
  unfold State.modGroup; split <;> rfl
@[simp] theorem modGroup_ports (g : Index) (f : Group → Group) : (s.modGroup g f).ports = s.ports := by
  unfold State.modGroup; split <;> rfl
@[simp] theorem modGroup_stores (g : Index) (f : Group → Group) : (s.modGroup g f).stores = s.stores := by
  unfold State.modGroup; split <;> rfl
@[simp] theorem modGroup_sched (g : Index) (f : Group → Group) : (s.modGroup g f).sched = s.sched := by
  unfold State.modGroup; split <;> rfl
@[simp] theorem modGroup_station (g : Index) (f : Group → Group) : (s.modGroup g f).station = s.station := by
  unfold State.modGroup; split <;> rfl
@[simp] theorem modGroup_audit (g : Index) (f : Group → Group) : (s.modGroup g f).audit = s.audit := by
  unfold State.modGroup; split <;> rfl
@[simp] theorem modGroup_choices (g : Index) (f : Group → Group) : (s.modGroup g f).choices = s.choices := by
  unfold State.modGroup; split <;> rfl
@[simp] theorem modGroup_pending (g : Index) (f : Group → Group) : (s.modGroup g f).pending = s.pending := by
  unfold State.modGroup; split <;> rfl

/-! ### modPort -/

@[simp] theorem modPort_link (p : Index) (f : Port → Port) : (s.modPort p f).link = s.link := rfl
@[simp] theorem modPort_carousels (p : Index) (f : Port → Port) : (s.modPort p f).carousels = s.carousels := rfl
@[simp] theorem modPort_channels (p : Index) (f : Port → Port) : (s.modPort p f).channels = s.channels := rfl
@[simp] theorem modPort_groups (p : Index) (f : Port → Port) : (s.modPort p f).groups = s.groups := rfl
@[simp] theorem modPort_startSlot (p : Index) (f : Port → Port) : (s.modPort p f).startSlot = s.startSlot := rfl
@[simp] theorem modPort_stores (p : Index) (f : Port → Port) : (s.modPort p f).stores = s.stores := rfl
@[simp] theorem modPort_sched (p : Index) (f : Port → Port) : (s.modPort p f).sched = s.sched := rfl
@[simp] theorem modPort_station (p : Index) (f : Port → Port) : (s.modPort p f).station = s.station := rfl
@[simp] theorem modPort_audit (p : Index) (f : Port → Port) : (s.modPort p f).audit = s.audit := rfl
@[simp] theorem modPort_choices (p : Index) (f : Port → Port) : (s.modPort p f).choices = s.choices := rfl
@[simp] theorem modPort_pending (p : Index) (f : Port → Port) : (s.modPort p f).pending = s.pending := rfl

/-! ### modChannel -/

@[simp] theorem modChannel_link (g : Index) (f : Channel → Channel) : (s.modChannel g f).link = s.link := rfl
@[simp] theorem modChannel_carousels (g : Index) (f : Channel → Channel) : (s.modChannel g f).carousels = s.carousels := rfl
@[simp] theorem modChannel_groups (g : Index) (f : Channel → Channel) : (s.modChannel g f).groups = s.groups := rfl
@[simp] theorem modChannel_startSlot (g : Index) (f : Channel → Channel) : (s.modChannel g f).startSlot = s.startSlot := rfl
@[simp] theorem modChannel_ports (g : Index) (f : Channel → Channel) : (s.modChannel g f).ports = s.ports := rfl
@[simp] theorem modChannel_stores (g : Index) (f : Channel → Channel) : (s.modChannel g f).stores = s.stores := rfl
@[simp] theorem modChannel_sched (g : Index) (f : Channel → Channel) : (s.modChannel g f).sched = s.sched := rfl
@[simp] theorem modChannel_station (g : Index) (f : Channel → Channel) : (s.modChannel g f).station = s.station := rfl
@[simp] theorem modChannel_audit (g : Index) (f : Channel → Channel) : (s.modChannel g f).audit = s.audit := rfl
@[simp] theorem modChannel_choices (g : Index) (f : Channel → Channel) : (s.modChannel g f).choices = s.choices := rfl
@[simp] theorem modChannel_pending (g : Index) (f : Channel → Channel) : (s.modChannel g f).pending = s.pending := rfl

/-! ### modStore -/

@[simp] theorem modStore_link (p : Index) (f : StoreRecord → StoreRecord) : (s.modStore p f).link = s.link := by
  unfold State.modStore; split <;> rfl
@[simp] theorem modStore_carousels (p : Index) (f : StoreRecord → StoreRecord) : (s.modStore p f).carousels = s.carousels := by
  unfold State.modStore; split <;> rfl
@[simp] theorem modStore_channels (p : Index) (f : StoreRecord → StoreRecord) : (s.modStore p f).channels = s.channels := by
  unfold State.modStore; split <;> rfl
@[simp] theorem modStore_groups (p : Index) (f : StoreRecord → StoreRecord) : (s.modStore p f).groups = s.groups := by
  unfold State.modStore; split <;> rfl
@[simp] theorem modStore_startSlot (p : Index) (f : StoreRecord → StoreRecord) : (s.modStore p f).startSlot = s.startSlot := by
  unfold State.modStore; split <;> rfl
@[simp] theorem modStore_ports (p : Index) (f : StoreRecord → StoreRecord) : (s.modStore p f).ports = s.ports := by
  unfold State.modStore; split <;> rfl
@[simp] theorem modStore_sched (p : Index) (f : StoreRecord → StoreRecord) : (s.modStore p f).sched = s.sched := by
  unfold State.modStore; split <;> rfl
@[simp] theorem modStore_station (p : Index) (f : StoreRecord → StoreRecord) : (s.modStore p f).station = s.station := by
  unfold State.modStore; split <;> rfl
@[simp] theorem modStore_audit (p : Index) (f : StoreRecord → StoreRecord) : (s.modStore p f).audit = s.audit := by
  unfold State.modStore; split <;> rfl
@[simp] theorem modStore_choices (p : Index) (f : StoreRecord → StoreRecord) : (s.modStore p f).choices = s.choices := by
  unfold State.modStore; split <;> rfl
@[simp] theorem modStore_pending (p : Index) (f : StoreRecord → StoreRecord) : (s.modStore p f).pending = s.pending := by
  unfold State.modStore; split <;> rfl

/-! ### modTask -/

@[simp] theorem modTask_link (x : Index) (f : AuditTask → AuditTask) : (s.modTask x f).link = s.link := by
  unfold State.modTask; split <;> rfl
@[simp] theorem modTask_carousels (x : Index) (f : AuditTask → AuditTask) : (s.modTask x f).carousels = s.carousels := by
  unfold State.modTask; split <;> rfl
@[simp] theorem modTask_channels (x : Index) (f : AuditTask → AuditTask) : (s.modTask x f).channels = s.channels := by
  unfold State.modTask; split <;> rfl
@[simp] theorem modTask_groups (x : Index) (f : AuditTask → AuditTask) : (s.modTask x f).groups = s.groups := by
  unfold State.modTask; split <;> rfl
@[simp] theorem modTask_startSlot (x : Index) (f : AuditTask → AuditTask) : (s.modTask x f).startSlot = s.startSlot := by
  unfold State.modTask; split <;> rfl
@[simp] theorem modTask_ports (x : Index) (f : AuditTask → AuditTask) : (s.modTask x f).ports = s.ports := by
  unfold State.modTask; split <;> rfl
@[simp] theorem modTask_stores (x : Index) (f : AuditTask → AuditTask) : (s.modTask x f).stores = s.stores := by
  unfold State.modTask; split <;> rfl
@[simp] theorem modTask_sched (x : Index) (f : AuditTask → AuditTask) : (s.modTask x f).sched = s.sched := by
  unfold State.modTask; split <;> rfl
@[simp] theorem modTask_station (x : Index) (f : AuditTask → AuditTask) : (s.modTask x f).station = s.station := by
  unfold State.modTask; split <;> rfl
@[simp] theorem modTask_choices (x : Index) (f : AuditTask → AuditTask) : (s.modTask x f).choices = s.choices := by
  unfold State.modTask; split <;> rfl
@[simp] theorem modTask_pending (x : Index) (f : AuditTask → AuditTask) : (s.modTask x f).pending = s.pending := by
  unfold State.modTask; split <;> rfl

/-! ### modSlot -/

@[simp] theorem modSlot_link (x : Index) (c l : Nat) (f : Slot → Slot) : (s.modSlot x c l f).link = s.link := by
  unfold State.modSlot; split <;> rfl
@[simp] theorem modSlot_channels (x : Index) (c l : Nat) (f : Slot → Slot) : (s.modSlot x c l f).channels = s.channels := by
  unfold State.modSlot; split <;> rfl
@[simp] theorem modSlot_groups (x : Index) (c l : Nat) (f : Slot → Slot) : (s.modSlot x c l f).groups = s.groups := by
  unfold State.modSlot; split <;> rfl
@[simp] theorem modSlot_startSlot (x : Index) (c l : Nat) (f : Slot → Slot) : (s.modSlot x c l f).startSlot = s.startSlot := by
  unfold State.modSlot; split <;> rfl
@[simp] theorem modSlot_ports (x : Index) (c l : Nat) (f : Slot → Slot) : (s.modSlot x c l f).ports = s.ports := by
  unfold State.modSlot; split <;> rfl
@[simp] theorem modSlot_stores (x : Index) (c l : Nat) (f : Slot → Slot) : (s.modSlot x c l f).stores = s.stores := by
  unfold State.modSlot; split <;> rfl
@[simp] theorem modSlot_sched (x : Index) (c l : Nat) (f : Slot → Slot) : (s.modSlot x c l f).sched = s.sched := by
  unfold State.modSlot; split <;> rfl
@[simp] theorem modSlot_station (x : Index) (c l : Nat) (f : Slot → Slot) : (s.modSlot x c l f).station = s.station := by
  unfold State.modSlot; split <;> rfl
@[simp] theorem modSlot_audit (x : Index) (c l : Nat) (f : Slot → Slot) : (s.modSlot x c l f).audit = s.audit := by
  unfold State.modSlot; split <;> rfl
@[simp] theorem modSlot_choices (x : Index) (c l : Nat) (f : Slot → Slot) : (s.modSlot x c l f).choices = s.choices := by
  unfold State.modSlot; split <;> rfl
@[simp] theorem modSlot_pending (x : Index) (c l : Nat) (f : Slot → Slot) : (s.modSlot x c l f).pending = s.pending := by
  unfold State.modSlot; split <;> rfl

/-! ### setSlot -/

@[simp] theorem setSlot_link (x : Index) (c l : Nat) (sl : Slot) : (s.setSlot x c l sl).link = s.link := rfl
@[simp] theorem setSlot_channels (x : Index) (c l : Nat) (sl : Slot) : (s.setSlot x c l sl).channels = s.channels := rfl
@[simp] theorem setSlot_groups (x : Index) (c l : Nat) (sl : Slot) : (s.setSlot x c l sl).groups = s.groups := rfl
@[simp] theorem setSlot_startSlot (x : Index) (c l : Nat) (sl : Slot) : (s.setSlot x c l sl).startSlot = s.startSlot := rfl
@[simp] theorem setSlot_ports (x : Index) (c l : Nat) (sl : Slot) : (s.setSlot x c l sl).ports = s.ports := rfl
@[simp] theorem setSlot_stores (x : Index) (c l : Nat) (sl : Slot) : (s.setSlot x c l sl).stores = s.stores := rfl
@[simp] theorem setSlot_sched (x : Index) (c l : Nat) (sl : Slot) : (s.setSlot x c l sl).sched = s.sched := rfl
@[simp] theorem setSlot_station (x : Index) (c l : Nat) (sl : Slot) : (s.setSlot x c l sl).station = s.station := rfl
@[simp] theorem setSlot_audit (x : Index) (c l : Nat) (sl : Slot) : (s.setSlot x c l sl).audit = s.audit := rfl
@[simp] theorem setSlot_choices (x : Index) (c l : Nat) (sl : Slot) : (s.setSlot x c l sl).choices = s.choices := rfl
@[simp] theorem setSlot_pending (x : Index) (c l : Nat) (sl : Slot) : (s.setSlot x c l sl).pending = s.pending := rfl

/-! ### modOrder -/

@[simp] theorem modOrder_link (id : Id32) (f : Order → Order) : (s.modOrder id f).link = s.link := rfl
@[simp] theorem modOrder_carousels (id : Id32) (f : Order → Order) : (s.modOrder id f).carousels = s.carousels := rfl
@[simp] theorem modOrder_channels (id : Id32) (f : Order → Order) : (s.modOrder id f).channels = s.channels := rfl
@[simp] theorem modOrder_groups (id : Id32) (f : Order → Order) : (s.modOrder id f).groups = s.groups := rfl
@[simp] theorem modOrder_startSlot (id : Id32) (f : Order → Order) : (s.modOrder id f).startSlot = s.startSlot := rfl
@[simp] theorem modOrder_ports (id : Id32) (f : Order → Order) : (s.modOrder id f).ports = s.ports := rfl
@[simp] theorem modOrder_stores (id : Id32) (f : Order → Order) : (s.modOrder id f).stores = s.stores := rfl
@[simp] theorem modOrder_station (id : Id32) (f : Order → Order) : (s.modOrder id f).station = s.station := rfl
@[simp] theorem modOrder_audit (id : Id32) (f : Order → Order) : (s.modOrder id f).audit = s.audit := rfl
@[simp] theorem modOrder_choices (id : Id32) (f : Order → Order) : (s.modOrder id f).choices = s.choices := rfl
@[simp] theorem modOrder_pending (id : Id32) (f : Order → Order) : (s.modOrder id f).pending = s.pending := rfl

/-! ### modLine -/

@[simp] theorem modLine_link (id : Id32) (seq : Nat) (f : Line → Line) : (s.modLine id seq f).link = s.link := rfl
@[simp] theorem modLine_carousels (id : Id32) (seq : Nat) (f : Line → Line) : (s.modLine id seq f).carousels = s.carousels := rfl
@[simp] theorem modLine_channels (id : Id32) (seq : Nat) (f : Line → Line) : (s.modLine id seq f).channels = s.channels := rfl
@[simp] theorem modLine_groups (id : Id32) (seq : Nat) (f : Line → Line) : (s.modLine id seq f).groups = s.groups := rfl
@[simp] theorem modLine_startSlot (id : Id32) (seq : Nat) (f : Line → Line) : (s.modLine id seq f).startSlot = s.startSlot := rfl
@[simp] theorem modLine_ports (id : Id32) (seq : Nat) (f : Line → Line) : (s.modLine id seq f).ports = s.ports := rfl
@[simp] theorem modLine_stores (id : Id32) (seq : Nat) (f : Line → Line) : (s.modLine id seq f).stores = s.stores := rfl
@[simp] theorem modLine_station (id : Id32) (seq : Nat) (f : Line → Line) : (s.modLine id seq f).station = s.station := rfl
@[simp] theorem modLine_audit (id : Id32) (seq : Nat) (f : Line → Line) : (s.modLine id seq f).audit = s.audit := rfl
@[simp] theorem modLine_choices (id : Id32) (seq : Nat) (f : Line → Line) : (s.modLine id seq f).choices = s.choices := rfl
@[simp] theorem modLine_pending (id : Id32) (seq : Nat) (f : Line → Line) : (s.modLine id seq f).pending = s.pending := rfl

/-! ### setLine -/

@[simp] theorem setLine_link (id : Id32) (seq : Nat) (st : LineState) : (s.setLine id seq st).link = s.link := rfl
@[simp] theorem setLine_carousels (id : Id32) (seq : Nat) (st : LineState) : (s.setLine id seq st).carousels = s.carousels := rfl
@[simp] theorem setLine_channels (id : Id32) (seq : Nat) (st : LineState) : (s.setLine id seq st).channels = s.channels := rfl
@[simp] theorem setLine_groups (id : Id32) (seq : Nat) (st : LineState) : (s.setLine id seq st).groups = s.groups := rfl
@[simp] theorem setLine_startSlot (id : Id32) (seq : Nat) (st : LineState) : (s.setLine id seq st).startSlot = s.startSlot := rfl
@[simp] theorem setLine_ports (id : Id32) (seq : Nat) (st : LineState) : (s.setLine id seq st).ports = s.ports := rfl
@[simp] theorem setLine_stores (id : Id32) (seq : Nat) (st : LineState) : (s.setLine id seq st).stores = s.stores := rfl
@[simp] theorem setLine_station (id : Id32) (seq : Nat) (st : LineState) : (s.setLine id seq st).station = s.station := rfl
@[simp] theorem setLine_audit (id : Id32) (seq : Nat) (st : LineState) : (s.setLine id seq st).audit = s.audit := rfl
@[simp] theorem setLine_choices (id : Id32) (seq : Nat) (st : LineState) : (s.setLine id seq st).choices = s.choices := rfl
@[simp] theorem setLine_pending (id : Id32) (seq : Nat) (st : LineState) : (s.setLine id seq st).pending = s.pending := rfl

/-! ### freeOrder -/

@[simp] theorem freeOrder_link (id : Id32) : (s.freeOrder id).link = s.link := rfl
@[simp] theorem freeOrder_carousels (id : Id32) : (s.freeOrder id).carousels = s.carousels := rfl
@[simp] theorem freeOrder_channels (id : Id32) : (s.freeOrder id).channels = s.channels := rfl
@[simp] theorem freeOrder_groups (id : Id32) : (s.freeOrder id).groups = s.groups := rfl
@[simp] theorem freeOrder_startSlot (id : Id32) : (s.freeOrder id).startSlot = s.startSlot := rfl
@[simp] theorem freeOrder_ports (id : Id32) : (s.freeOrder id).ports = s.ports := rfl
@[simp] theorem freeOrder_stores (id : Id32) : (s.freeOrder id).stores = s.stores := rfl
@[simp] theorem freeOrder_station (id : Id32) : (s.freeOrder id).station = s.station := rfl
@[simp] theorem freeOrder_audit (id : Id32) : (s.freeOrder id).audit = s.audit := rfl
@[simp] theorem freeOrder_choices (id : Id32) : (s.freeOrder id).choices = s.choices := rfl
@[simp] theorem freeOrder_pending (id : Id32) : (s.freeOrder id).pending = s.pending := rfl

/-! ### setLaneState -/

@[simp] theorem setLaneState_link (i : Index) (st : LaneState) : (s.setLaneState i st).link = s.link := rfl
@[simp] theorem setLaneState_carousels (i : Index) (st : LaneState) : (s.setLaneState i st).carousels = s.carousels := rfl
@[simp] theorem setLaneState_channels (i : Index) (st : LaneState) : (s.setLaneState i st).channels = s.channels := rfl
@[simp] theorem setLaneState_groups (i : Index) (st : LaneState) : (s.setLaneState i st).groups = s.groups := rfl
@[simp] theorem setLaneState_startSlot (i : Index) (st : LaneState) : (s.setLaneState i st).startSlot = s.startSlot := rfl
@[simp] theorem setLaneState_ports (i : Index) (st : LaneState) : (s.setLaneState i st).ports = s.ports := rfl
@[simp] theorem setLaneState_stores (i : Index) (st : LaneState) : (s.setLaneState i st).stores = s.stores := rfl
@[simp] theorem setLaneState_sched (i : Index) (st : LaneState) : (s.setLaneState i st).sched = s.sched := rfl
@[simp] theorem setLaneState_audit (i : Index) (st : LaneState) : (s.setLaneState i st).audit = s.audit := rfl
@[simp] theorem setLaneState_choices (i : Index) (st : LaneState) : (s.setLaneState i st).choices = s.choices := rfl
@[simp] theorem setLaneState_pending (i : Index) (st : LaneState) : (s.setLaneState i st).pending = s.pending := rfl

/-! ### freeLaneRecord -/

@[simp] theorem freeLaneRecord_link (i : Index) : (s.freeLaneRecord i).link = s.link := rfl
@[simp] theorem freeLaneRecord_carousels (i : Index) : (s.freeLaneRecord i).carousels = s.carousels := rfl
@[simp] theorem freeLaneRecord_channels (i : Index) : (s.freeLaneRecord i).channels = s.channels := rfl
@[simp] theorem freeLaneRecord_groups (i : Index) : (s.freeLaneRecord i).groups = s.groups := rfl
@[simp] theorem freeLaneRecord_startSlot (i : Index) : (s.freeLaneRecord i).startSlot = s.startSlot := rfl
@[simp] theorem freeLaneRecord_ports (i : Index) : (s.freeLaneRecord i).ports = s.ports := rfl
@[simp] theorem freeLaneRecord_stores (i : Index) : (s.freeLaneRecord i).stores = s.stores := rfl
@[simp] theorem freeLaneRecord_sched (i : Index) : (s.freeLaneRecord i).sched = s.sched := rfl
@[simp] theorem freeLaneRecord_audit (i : Index) : (s.freeLaneRecord i).audit = s.audit := rfl
@[simp] theorem freeLaneRecord_choices (i : Index) : (s.freeLaneRecord i).choices = s.choices := rfl
@[simp] theorem freeLaneRecord_pending (i : Index) : (s.freeLaneRecord i).pending = s.pending := rfl

/-! ### What the mod updates write -/

@[simp] theorem modPort_ports (p : Index) (f : Port → Port) : (s.modPort p f).ports = s.ports.set p (f (s.ports.get p)) :=
  rfl

@[simp] theorem modChannel_channels (g : Index) (f : Channel → Channel) :
    (s.modChannel g f).channels = s.channels.set g (f (s.channels.get g)) := rfl

@[simp] theorem modGroup_groups (g : Index) (f : Group → Group) :
    (s.modGroup g f).groups = s.groups.set g ((s.groups.get g).map f) := by
  unfold State.modGroup
  cases h : s.groups.get g with
  | none => exact (Quad.set_eq_self h).symm
  | some grp => rfl

@[simp] theorem modStore_stores (p : Index) (f : StoreRecord → StoreRecord) :
    (s.modStore p f).stores = s.stores.set p ((s.stores.get p).map f) := by
  unfold State.modStore
  cases h : s.stores.get p with
  | none => exact (Quad.set_eq_self h).symm
  | some r => rfl

@[simp] theorem modTask_audit (x : Index) (f : AuditTask → AuditTask) :
    (s.modTask x f).audit = { s.audit with tasks := s.audit.tasks.set x ((s.audit.tasks.get x).map f) } := by
  unfold State.modTask
  cases h : s.audit.tasks.get x with
  | none => simp only [Option.map_none]; rw [Quad.set_eq_self h]
  | some t => rfl

@[simp] theorem setSlot_carousels (x : Index) (c l : Nat) (sl : Slot) :
    (s.setSlot x c l sl).carousels
      = s.carousels.set x { s.carousels.get x with map := (s.carousels.get x).map.setSlot c l sl } := rfl

end Machine

end Sys2Proof
end

