-- ==== Sys2Proof/Laws/Frames.lean ====
section
/-! SUPPORT. What a frame does once it is heard, once for every request: the state it is judged in, the link unit's checks, the
owner's checks, and the reply. -/

namespace Sys2Proof.Machine

open Sys2Proof

-- One theorem after the other: many at once want more memory than a build may take.
set_option Elab.async false

variable {s : State}

@[simp] theorem Link.heard_address (l : Link) : l.heard.address = l.address := rfl
@[simp] theorem Link.heard_baud (l : Link) : l.heard.baud = l.baud := rfl
@[simp] theorem Link.heard_sampled (l : Link) : l.heard.sampled = l.sampled := rfl
@[simp] theorem Link.heard_receiver (l : Link) : l.heard.receiver = .hunt := rfl
@[simp] theorem Link.heard_mode (l : Link) : l.heard.mode = l.mode := rfl
@[simp] theorem Link.heard_flags (l : Link) : l.heard.flags = l.flags := rfl
@[simp] theorem Link.heard_mask (l : Link) : l.heard.mask = l.mask := rfl
@[simp] theorem Link.heard_wdCode (l : Link) : l.heard.wdCode = l.wdCode := rfl

@[simp] theorem heard_link : s.heard.link = s.link.heard := rfl
@[simp] theorem heard_carousels : s.heard.carousels = s.carousels := rfl
@[simp] theorem heard_channels : s.heard.channels = s.channels := rfl
@[simp] theorem heard_groups : s.heard.groups = s.groups := rfl
@[simp] theorem heard_startSlot : s.heard.startSlot = s.startSlot := rfl
@[simp] theorem heard_ports : s.heard.ports = s.ports := rfl
@[simp] theorem heard_stores : s.heard.stores = s.stores := rfl
@[simp] theorem heard_sched : s.heard.sched = s.sched := rfl
@[simp] theorem heard_station : s.heard.station = s.station := rfl
@[simp] theorem heard_audit : s.heard.audit = s.audit := rfl
@[simp] theorem heard_choices : s.heard.choices = s.choices := rfl
@[simp] theorem heard_pending : s.heard.pending = s.pending := rfl

@[simp] theorem heard_groupOf (x : Index) : s.heard.groupOf x = s.groupOf x := rfl
@[simp] theorem heard_serviceGroup (x : Index) : s.heard.serviceGroup x = s.serviceGroup x := rfl
@[simp] theorem heard_membersOf (g : Index) : s.heard.membersOf g = s.membersOf g := rfl
@[simp] theorem heard_geometryOf (x : Index) : s.heard.geometryOf x = s.geometryOf x := rfl
@[simp] theorem heard_geometry (g : Index) : s.heard.geometry g = s.geometry g := rfl
@[simp] theorem heard_slot (x : Index) (c l : Nat) : s.heard.slot? x c l = s.slot? x c l := rfl
@[simp] theorem heard_findOrder (id : Id32) : s.heard.findOrder id = s.findOrder id := rfl
@[simp] theorem heard_findLine (id : Id32) (seq : Nat) : s.heard.findLine id seq = s.findLine id seq := rfl
@[simp] theorem heard_places (t : Id32) : places s.heard t = places s t := rfl

/-- A frame of at most 200 payload bytes heard by a listening part acts on the heard state. -/
theorem hearFrame_of_listens (h : s.Listens) {n : Nat} (hn : n ≤ 200) (act : State → State) :
    hearFrame n act s = act s.heard := by
  obtain ⟨hr, hw⟩ := h
  unfold hearFrame
  split
  · rename_i h; exact absurd h hr
  · have hc : ¬Config.payloadCap < n := Nat.not_lt.mpr hn
    simp only [hw, Bool.false_eq_true, if_false, if_neg hc]
    congr 1
    unfold takeValidFrame dropWaiting Link.restartWatchdog State.heard Link.heard
    cases hrep : s.link.reply with
    | none => simp only [State.setLink]; split <;> simp_all
    | sending r => simp only [State.setLink]; split <;> simp_all
    | waiting r =>
      have hk : r.kind ≠ resetAllKind := by
        simpa [Link.resetWaits, hrep] using hw
      simp only [endReply, if_neg hk, State.setLink]
      split <;> simp_all

/-- A frame of more than 200 payload bytes is discarded: a waiting reply is dropped, and the watchdog is not restarted. -/
theorem hearFrame_of_long (h : s.Listens) {n : Nat} (hn : 200 < n) (act : State → State) :
    hearFrame n act s = (dropWaiting s).setReceiver .hunt := by
  obtain ⟨hr, hw⟩ := h
  unfold hearFrame
  split
  · rename_i h; exact absurd h hr
  · simp [hw, Config.payloadCap, hn]

theorem takeRequest_of_listens (h : s.Listens) (r : Request) {p : List Byte} (hp : p.length ≤ 200) :
    takeRequest r p s = answer r.kind (r.serve p s.heard) := hearFrame_of_listens h hp _

/-- A request of the right length with its unused bits zero reaches its owner. -/
theorem serve_run (r : Request) {p : List Byte} (hl : r.lenOk p.length = true) (hu : r.unused p = none) (s : State) :
    r.serve p s = r.run p s := by
  simp [Request.serve, hl, hu]

theorem serve_format (r : Request) {p : List Byte} (hl : r.lenOk p.length = false) (s : State) :
    r.serve p s = refuse s .format p.length := by
  simp [Request.serve, hl]

theorem serve_unused (r : Request) {p : List Byte} {n : Nat} (hl : r.lenOk p.length = true) (hu : r.unused p = some n)
    (s : State) : r.serve p s = refuse s .range n := by
  simp [Request.serve, hl, hu]

theorem broadcast_of_listens (h : s.Listens) (r : Request) {p : List Byte} {act : State → State}
    (hp : p.length ≤ 200) (hb : r.broadcast = some act) (hl : r.lenOk p.length = true) (hu : r.unused p = none) :
    takeBroadcast r p s = act s.heard := by
  unfold takeBroadcast
  rw [hearFrame_of_listens h hp]
  simp [hb, hl, hu]

/-- Checks that all hold let the body run. -/
theorem checked_pass {cs : List (Bool × Reason × Nat)} (h : ∀ c ∈ cs, c.1 = true) (b : State × Answer) :
    checked s cs b = b := by
  have hf : firstFailure cs = none := by
    induction cs with
    | nil => rfl
    | cons c cs ih =>
      obtain ⟨ok, reason, detail⟩ := c
      have h0 := h (ok, reason, detail) (List.mem_cons_self ..)
      simp only at h0
      subst h0
      exact ih fun c hc => h c (List.mem_cons_of_mem _ hc)
  simp [checked, hf]

/-- The first check that fails is the answer, and nothing changes. -/
theorem checked_fail (cs : List (Bool × Reason × Nat)) {reason : Reason} {detail : Nat}
    (h : firstFailure cs = some (.nak reason detail)) (b : State × Answer) : checked s cs b = refuse s reason detail := by
  simp [checked, h, refuse]

theorem firstFailure_append (as bs : List (Bool × Reason × Nat)) :
    firstFailure (as ++ bs) = (firstFailure as).orElse fun _ => firstFailure bs := by
  induction as with
  | nil => rfl
  | cons a as ih =>
    obtain ⟨ok, reason, detail⟩ := a
    cases ok <;> simp [firstFailure, ih]

/-- An answer is a state with a reply waiting. -/
theorem answer_ack (kind : Byte) (s : State) (data : List Byte) : answer kind (s, .ack data) = s.replying kind data := rfl

theorem answer_accept (kind : Byte) (s : State) : answer kind (accept s) = s.replying kind [] := rfl

theorem answer_refuse (kind : Byte) (s : State) (reason : Reason) (detail : Nat) :
    answer kind (refuse s reason detail) = s.refusing kind reason detail := rfl

/-! ## The lengths of the requests (R173) -/

@[simp] theorem identRequest_lenOk (n : Nat) : identRequest.lenOk n = (n == 0) := rfl
@[simp] theorem statusRequest_lenOk (n : Nat) : statusRequest.lenOk n = (n == 0) := rfl
@[simp] theorem setLinkRequest_lenOk (n : Nat) : setLinkRequest.lenOk n = (n == 3) := rfl
@[simp] theorem ackEventsRequest_lenOk (n : Nat) : ackEventsRequest.lenOk n = (n == 2) := rfl
@[simp] theorem resumeRequest_lenOk (n : Nat) : resumeRequest.lenOk n = (n == 0) := rfl
@[simp] theorem resetAllRequest_lenOk (n : Nat) : resetAllRequest.lenOk n = (n == 0) := rfl
@[simp] theorem setCarouselRequest_lenOk (n : Nat) : setCarouselRequest.lenOk n = (n == 21) := rfl
@[simp] theorem setGroupRequest_lenOk (n : Nat) : setGroupRequest.lenOk n = (n == 32) := rfl
@[simp] theorem commissionRequest_lenOk (n : Nat) : commissionRequest.lenOk n = (n == 1) := rfl
@[simp] theorem pauseRequest_lenOk (n : Nat) : pauseRequest.lenOk n = (n == 1) := rfl
@[simp] theorem continueRequest_lenOk (n : Nat) : continueRequest.lenOk n = (n == 1) := rfl
@[simp] theorem clearFaultRequest_lenOk (n : Nat) : clearFaultRequest.lenOk n = (n == 2) := rfl
@[simp] theorem resetGroupRequest_lenOk (n : Nat) : resetGroupRequest.lenOk n = (n == 1) := rfl
@[simp] theorem balanceReadRequest_lenOk (n : Nat) : balanceReadRequest.lenOk n = (n == 3) := rfl
@[simp] theorem mapBeginRequest_lenOk (n : Nat) : mapBeginRequest.lenOk n = (n == 1) := rfl
@[simp] theorem mapCommitRequest_lenOk (n : Nat) : mapCommitRequest.lenOk n = (n == 1) := rfl
@[simp] theorem mapReadRequest_lenOk (n : Nat) : mapReadRequest.lenOk n = (n == 4) := rfl
@[simp] theorem slotQueryRequest_lenOk (n : Nat) : slotQueryRequest.lenOk n = (n == 3) := rfl
@[simp] theorem slotResolveRequest_lenOk (n : Nat) : slotResolveRequest.lenOk n = (n == 15) := rfl
@[simp] theorem storeRequest_lenOk (n : Nat) : storeRequest.lenOk n = (n == 13) := rfl
@[simp] theorem storeWithdrawRequest_lenOk (n : Nat) : storeWithdrawRequest.lenOk n = (n == 1) := rfl
@[simp] theorem storeQueryRequest_lenOk (n : Nat) : storeQueryRequest.lenOk n = (n == 1) := rfl
@[simp] theorem orderCancelRequest_lenOk (n : Nat) : orderCancelRequest.lenOk n = (n == 4) := rfl
@[simp] theorem orderQueryRequest_lenOk (n : Nat) : orderQueryRequest.lenOk n = (n == 4) := rfl
@[simp] theorem laneReleaseRequest_lenOk (n : Nat) : laneReleaseRequest.lenOk n = (n == 1) := rfl
@[simp] theorem setStationRequest_lenOk (n : Nat) : setStationRequest.lenOk n = (n == 7) := rfl
@[simp] theorem stationQueryRequest_lenOk (n : Nat) : stationQueryRequest.lenOk n = (n == 1) := rfl
@[simp] theorem auditStartRequest_lenOk (n : Nat) : auditStartRequest.lenOk n = (n == 5) := rfl
@[simp] theorem auditStopRequest_lenOk (n : Nat) : auditStopRequest.lenOk n = (n == 1) := rfl
@[simp] theorem auditQueryRequest_lenOk (n : Nat) : auditQueryRequest.lenOk n = (n == 1) := rfl
@[simp] theorem logReadRequest_lenOk (n : Nat) : logReadRequest.lenOk n = (n == 2) := rfl
@[simp] theorem mapPutRequest_lenOk (n : Nat) : mapPutRequest.lenOk n = mapPutLen n := rfl
@[simp] theorem orderOpenRequest_lenOk (n : Nat) : orderOpenRequest.lenOk n = orderOpenLen n := rfl

end Sys2Proof.Machine
end

