-- ==== Sys2Proof/Laws/Ops.lean ====
section
/-! SUPPORT. What each shared operation can do, said once: ranking, free order, counters, the RUN line with the measurement engine
that follows it, and discarding scans. A proof cites these and unfolds no operation. -/

namespace Sys2Proof.Machine

open Sys2Proof

-- One theorem after the other: many at once want more memory than a build may take.
set_option Elab.async false

/-! ## Ranking by a key -/

theorem lexLt_irrefl (a : List Nat) : lexLt a a = false := by
  induction a with
  | nil => rfl
  | cons x xs ih => simp [lexLt, ih]

/-- A key not below a second, which is not below a third, is not below the third. -/
theorem lexLt_false_trans : ∀ {a b c : List Nat}, lexLt a b = false → lexLt b c = false → lexLt a c = false
  | [], [], _, _, h => h
  | [], _ :: _, _, h, _ => by simp [lexLt] at h
  | _ :: _, _, [], _, _ => by simp [lexLt]
  | _ :: _, [], _ :: _, _, h => by simp [lexLt] at h
  | x :: xs, y :: ys, z :: zs, h₁, h₂ => by
    have ih := @lexLt_false_trans xs ys zs
    simp only [lexLt] at *
    grind

theorem lexLt_asymm {a b : List Nat} (h : lexLt a b = true) : lexLt b a = false := by
  by_contra hc
  rw [Bool.not_eq_false] at hc
  induction a generalizing b with
  | nil => cases b <;> simp [lexLt] at h hc
  | cons x xs ih =>
    cases b with
    | nil => simp [lexLt] at h
    | cons y ys => simp only [lexLt] at h hc; grind

@[simp] theorem bestBy_eq_none {α : Type} (key : α → List Nat) (as : List α) : bestBy key as = none ↔ as = [] := by
  cases as with
  | nil => simp [bestBy]
  | cons a as => simp only [bestBy]; split <;> (try split) <;> simp

/-- The best item is one of the list, and none of the list has a lower key. -/
theorem bestBy_spec {α : Type} {key : α → List Nat} {as : List α} {b : α} (h : bestBy key as = some b) :
    b ∈ as ∧ ∀ a ∈ as, lexLt (key a) (key b) = false := by
  induction as generalizing b with
  | nil => simp [bestBy] at h
  | cons a as ih =>
    simp only [bestBy] at h
    split at h
    · rename_i hn
      rw [bestBy_eq_none] at hn
      cases h
      subst hn
      simp [lexLt_irrefl]
    · rename_i c hc
      obtain ⟨hm, hl⟩ := ih hc
      split at h
      · rename_i hlt
        cases h
        refine ⟨List.mem_cons_of_mem _ hm, fun d hd => ?_⟩
        rcases List.mem_cons.mp hd with rfl | hd
        · exact lexLt_asymm hlt
        · exact hl d hd
      · rename_i hlt
        cases h
        refine ⟨List.mem_cons_self, fun d hd => ?_⟩
        rcases List.mem_cons.mp hd with rfl | hd
        · exact lexLt_irrefl _
        · exact lexLt_false_trans (hl d hd) (by simpa using hlt)

theorem insertRanked_perm {α : Type} (key : α → List Nat) (a : α) (as : List α) :
    (insertRanked key a as).Perm (a :: as) := by
  induction as with
  | nil => exact .refl _
  | cons b bs ih =>
    simp only [insertRanked]
    split
    · exact .refl _
    · exact (ih.cons b).trans (.swap a b bs)

theorem insertRanked_sorted {α : Type} {key : α → List Nat} {as : List α} (a : α)
    (h : as.Pairwise fun b c => lexLt (key c) (key b) = false) :
    (insertRanked key a as).Pairwise fun b c => lexLt (key c) (key b) = false := by
  induction as with
  | nil => simp [insertRanked]
  | cons b bs ih =>
    obtain ⟨hb, hs⟩ := List.pairwise_cons.mp h
    simp only [insertRanked]
    split
    · rename_i hlt
      refine List.pairwise_cons.mpr ⟨fun c hc => ?_, h⟩
      rcases List.mem_cons.mp hc with rfl | hc
      · exact lexLt_asymm hlt
      · exact lexLt_false_trans (hb c hc) (lexLt_asymm hlt)
    · rename_i hlt
      refine List.pairwise_cons.mpr ⟨fun c hc => ?_, ih hs⟩
      rcases List.mem_cons.mp ((insertRanked_perm key a bs).mem_iff.mp hc) with rfl | hc
      · simpa using hlt
      · exact hb c hc

/-- A ranked list holds the same items. -/
theorem rank_perm {α : Type} (key : α → List Nat) (as : List α) : (rank key as).Perm as := by
  suffices h : ∀ acc : List α, (as.foldl (fun acc a => insertRanked key a acc) acc).Perm (acc ++ as) by
    simpa [rank] using h []
  induction as with
  | nil => intro acc; simp
  | cons a as ih =>
    intro acc
    exact (ih _).trans (((insertRanked_perm key a acc).append_right as).trans (List.perm_middle.symm))

/-- A ranked list rises by the key. -/
theorem rank_sorted {α : Type} (key : α → List Nat) (as : List α) :
    (rank key as).Pairwise fun a b => lexLt (key b) (key a) = false := by
  suffices h : ∀ acc : List α, acc.Pairwise (fun a b => lexLt (key b) (key a) = false) →
      (as.foldl (fun acc a => insertRanked key a acc) acc).Pairwise fun a b => lexLt (key b) (key a) = false from
    h [] .nil
  induction as with
  | nil => exact fun _ h => h
  | cons a as ih => exact fun acc h => ih _ (insertRanked_sorted a h)

/-- An item stands at position `i` of a numbered list exactly where it stands `i - n` places into the list. -/
theorem mem_numbered {α : Type} {n i : Nat} {a : α} {as : List α} :
    (i, a) ∈ numbered n as ↔ n ≤ i ∧ as[i - n]? = some a := by
  induction as generalizing n with
  | nil => simp [numbered]
  | cons b bs ih =>
    simp only [numbered, List.mem_cons, Prod.mk.injEq, ih]
    rcases Nat.lt_trichotomy i n with h | rfl | h
    · constructor
      · rintro (⟨rfl, -⟩ | ⟨h', -⟩) <;> omega
      · rintro ⟨h', -⟩; omega
    · simp [eq_comm]
    · obtain ⟨k, rfl⟩ : ∃ k, i = n + 1 + k := ⟨i - n - 1, by omega⟩
      have h₁ : n + 1 + k - n = k + 1 := by omega
      have h₂ : n + 1 + k - (n + 1) = k := by omega
      have h₃ : n + 1 + k ≠ n := by omega
      have h₄ : n ≤ n + 1 + k := by omega
      rw [h₁, h₂]
      simp only [h₃, h₄, false_and, false_or, true_and, Nat.le_add_right, List.getElem?_cons_succ]

/-! ## Free order -/

theorem insertAt_perm {α : Type} (a : α) (n : Nat) (bs : List α) : (insertAt a n bs).Perm (a :: bs) := by
  induction bs generalizing n with
  | nil => cases n <;> exact .refl _
  | cons b bs ih =>
    cases n with
    | zero => exact .refl _
    | succ n => exact ((ih n).cons b).trans (.swap a b bs)

/-- Whatever `Config.portOrder` is, a free order holds the same items, each as often. -/
theorem freeOrder_perm {α : Type} [DecidableEq α] (n : Nat) (as : List α) : (freeOrder n as).Perm as := by
  induction as generalizing n with
  | nil => exact .refl _
  | cons a as ih =>
    unfold freeOrder
    split
    · exact .refl _
    · exact (insertAt_perm a _ _).trans ((ih (n + 1)).cons a)

/-! ## Counters and offsets -/

theorem countUp_le (n : Nat) : countUp n ≤ Config.counterMax := by
  unfold countUp; split <;> omega

theorem countUp_of_lt {n : Nat} (h : n < Config.counterMax) : countUp n = n + 1 := if_pos h

theorem countUp_max : countUp Config.counterMax = Config.counterMax := if_neg (Nat.lt_irrefl _)

theorem subMod_lt (a b : Nat) {c : Nat} (h : 0 < c) : subMod a b c < c := Nat.mod_lt _ h

/-- The offset is the number below C that, added to b, gives a again, counted round. -/
theorem subMod_add (a b : Nat) {c : Nat} (h : 0 < c) : (subMod a b c + b) % c = a % c := by
  have hb := Nat.mod_lt b h
  have hd := Nat.mod_add_div b c
  have : a + (c - b % c) + b = a + c + c * (b / c) := by omega
  rw [subMod, Nat.mod_add_mod, this, Nat.add_mul_mod_self_left, Nat.add_mod_right]

/-! ## One component changed -/

/-- Changing a group changes that group's record and nothing else. -/
theorem modGroup_eq (s : State) (g : Index) (f : Group → Group) :
    s.modGroup g f = { s with groups := s.groups.set g ((s.groups.get g).map f) } := by
  unfold State.modGroup
  split
  · rename_i h; rw [h]; rfl
  · rename_i h; rw [h, Option.map_none, Quad.set_eq_self h]

/-- Changing an audit task changes the audit block alone. -/
theorem modTask_eq (s : State) (x : Index) (f : AuditTask → AuditTask) :
    s.modTask x f = s.setAudit (s.modTask x f).audit := by
  unfold State.modTask
  split <;> rfl

/-! ## The RUN line and what hangs on it -/

/-- The next driving group has RUN high. -/
theorem run_of_nextDriving {s : State} {last g : Index} (h : s.nextDriving last = some g) :
    (s.channels.get g).run = true := by
  simpa using List.find?_some h

/-- A visit begins, or ends, in the measurement engine alone. -/
theorem beginVisit_spec (s : State) :
    beginVisit s = s.setAudit { s.audit with engine := match s.nextDriving s.audit.engine.last with
      | some g => { measuring := some g, last := g }
      | none => { s.audit.engine with measuring := none } } := by
  unfold beginVisit; split <;> simp_all

/-- Following RUN changes the measurement engine alone, and leaves it measuring a group only where that group's RUN is high. -/
theorem followRun_spec (s : State) :
    ∃ e, followRun s = s.setAudit { s.audit with engine := e } ∧
      ∀ g, e.measuring = some g → (s.channels.get g).run = true := by
  unfold followRun
  split
  · rename_i g hg
    split
    · rename_i hr
      exact ⟨s.audit.engine, rfl, fun g' h => by rw [hg] at h; cases h; exact hr⟩
    · refine ⟨_, beginVisit_spec s, fun g' h => ?_⟩
      split at h
      · rename_i hn; cases h; exact run_of_nextDriving hn
      · cases h
  · refine ⟨_, beginVisit_spec s, fun g' h => ?_⟩
    split at h
    · rename_i hn; cases h; exact run_of_nextDriving hn
    · cases h

/-- What following RUN does to the engine depends on the RUN lines and on the engine alone. -/
theorem followRun_engine {s t : State} (hc : t.channels = s.channels) (he : t.audit.engine = s.audit.engine) :
    (followRun t).audit.engine = (followRun s).audit.engine := by
  have hn : ∀ last, t.nextDriving last = s.nextDriving last := fun last => by unfold State.nextDriving; rw [hc]
  have hb : (beginVisit t).audit.engine = (beginVisit s).audit.engine := by
    rw [beginVisit_spec, beginVisit_spec, he, hn]; rfl
  unfold followRun
  rw [he, hc]
  split
  · split
    · exact he
    · exact hb
  · exact hb

/-- Following RUN changes the engine alone, so that it may be taken before or after a change of the groups. -/
theorem followRun_groups (s : State) (gs : Quad (Option Group)) :
    followRun { s with groups := gs } = { followRun s with groups := gs } := by
  obtain ⟨e, he, -⟩ := followRun_spec s
  obtain ⟨e', he', -⟩ := followRun_spec { s with groups := gs }
  have h := followRun_engine (s := s) (t := { s with groups := gs }) rfl rfl
  rw [he, he'] at h
  rw [he, he', show e' = e from h]
  rfl

/-- RUN falls at one channel: SPEED returns to 0 and the stall timer stops. -/
theorem lowerRun_eq (g : Index) (s : State) :
    lowerRun g s =
      { s with channels := s.channels.set g { s.channels.get g with run := false, speed := .creep },
               groups := s.groups.set g ((s.groups.get g).map fun grp => { grp with stallTimer := none }) } := by
  rw [lowerRun, modGroup_eq]
  rfl

/-- RUN falls at one channel: SPEED returns to 0, the stall timer stops, and the engine follows. -/
theorem dropRun_spec (g : Index) (s : State) :
    dropRun g s =
      { followRun (s.setChannel g { s.channels.get g with run := false, speed := .creep }) with
        groups := s.groups.set g ((s.groups.get g).map fun grp => { grp with stallTimer := none }) } := by
  rw [dropRun, lowerRun_eq]
  exact followRun_groups (s.setChannel g _) _

/-- DIR and SPEED are set and RUN rises at one channel: the stall timer starts at the group's bound, the torque monitor's last
sample and invalid count are cleared, and the engine follows. -/
theorem raiseRun_spec (g : Index) (dir : Direction) (speed : SpeedClass) (s : State) :
    raiseRun g dir speed s =
      { followRun (s.setChannel g { s.channels.get g with run := true, dir := dir, speed := speed }) with
        groups := s.groups.set g ((s.groups.get g).map fun grp =>
          { grp with stallTimer := some grp.params.stallTime, lastSample := none, invalidCount := 0 }) } := by
  rw [raiseRun, modGroup_eq]
  exact followRun_groups (s.setChannel g _) _

/-! ## Scans in flight -/

/-- Discarding a port's scan leaves that port without one and changes, beyond it, at most the audit task of that carousel. -/
theorem discardScan_spec (p : Index) (s : State) :
    ∃ a, discardScan p s =
      { s with ports := s.ports.set p { s.ports.get p with scan := none }, audit := a } := by
  unfold discardScan
  split
  · dsimp only
    split
    · exact ⟨_, modTask_eq _ _ _⟩
    · exact ⟨_, rfl⟩
    · exact ⟨_, rfl⟩
  · rename_i h
    refine ⟨s.audit, ?_⟩
    rw [Quad.set_eq_self]
    rw [← h]

/-- After its scan is discarded a port has none. -/
@[simp] theorem discardScan_scan (p : Index) (s : State) : ((discardScan p s).ports.get p).scan = none := by
  obtain ⟨a, h⟩ := discardScan_spec p s
  rw [h]; simp

end Sys2Proof.Machine
end

