-- ==== Sys2Proof/Laws/PerInstr.lean ====
section
/-! SUPPORT. One statement about every command as syntax: a well-formed request is a frame that the line can carry. -/

namespace Sys2Proof.Laws.Wf

open Sys2Proof Sys2Proof.Machine

-- One theorem after the other: many at once want more memory than a build may take.
set_option Elab.async false

/-- A well-formed command that is an addressed request has a kind of section 11.3 and at most 200 payload bytes (R161, R173). -/
def Statement (i : Instr) : Prop :=
  i.wf = true → ∀ (kind : Byte) (p : List Byte), addressedRequest i = some (kind, p) →
    kind.toNat ∈ kindCodes ∧ p.length ≤ 200

/-- A command with a payload bound and a request kind meets the statement. -/
theorem of_request {i : Instr} {k : Byte} {q : List Byte} (hk : k.toNat ∈ kindCodes) (hp : i.wf = true → payloadOk q = true)
    (h : ∀ kind p, addressedRequest i = some (kind, p) → kind = k ∧ p = q) : Statement i := by
  intro hw kind p hr
  obtain ⟨rfl, rfl⟩ := h kind p hr
  exact ⟨hk, of_decide_eq_true (hp hw)⟩

/-- A command that is no addressed request meets it. -/
theorem of_event {i : Instr} (h : addressedRequest i = none) : Statement i := by
  intro _ kind p hr
  simp [h] at hr

theorem powerOn : Statement .powerOn := of_event rfl

theorem addressSampling (as1 as0 br1 br0 : Bool) (conversions : List (BitVec 10)) : Statement (.addressSampling as1 as0 br1 br0 conversions) := of_event rfl

theorem portRestJudgement (port : Index) (home extended load : Bool) : Statement (.portRestJudgement port home extended load) := of_event rfl

theorem frameGapTimeout : Statement .frameGapTimeout := of_event rfl

theorem invalidFrame (bytes : List LineByte) : Statement (.invalidFrame bytes) := of_event rfl

theorem frameNotAddressed (addr kind : Byte) (payload : List Byte) : Statement (.frameNotAddressed addr kind payload) := of_event rfl

theorem unknownKind (kind : Byte) (payload : List Byte) : Statement (.unknownKind kind payload) := of_event rfl

theorem replySend : Statement .replySend := of_event rfl

theorem replyDrop (byte : Byte) : Statement (.replyDrop byte) := of_event rfl

theorem replyComplete : Statement .replyComplete := of_event rfl

theorem ident (payload : List Byte) : Statement (.ident payload) :=
  of_request (k := 0x01#8) (q := payload) (by decide) (by simp [Instr.wf]) (by simp [addressedRequest, eq_comm])

theorem status (payload : List Byte) : Statement (.status payload) :=
  of_request (k := 0x02#8) (q := payload) (by decide) (by simp [Instr.wf]) (by simp [addressedRequest, eq_comm])

theorem setLink (payload : List Byte) : Statement (.setLink payload) :=
  of_request (k := 0x03#8) (q := payload) (by decide) (by simp [Instr.wf]) (by simp [addressedRequest, eq_comm])

theorem ackEvents (payload : List Byte) : Statement (.ackEvents payload) :=
  of_request (k := 0x04#8) (q := payload) (by decide) (by simp [Instr.wf]) (by simp [addressedRequest, eq_comm])

theorem resume (broadcast : Bool) (payload : List Byte) : Statement (.resume broadcast payload) := by
  cases broadcast
  · exact of_request (k := 0x05#8) (q := payload) (by decide) (by simp [Instr.wf]) (by simp [addressedRequest, eq_comm])
  · exact of_event rfl

theorem resetAll (payload : List Byte) : Statement (.resetAll payload) :=
  of_request (k := 0x06#8) (q := payload) (by decide) (by simp [Instr.wf]) (by simp [addressedRequest, eq_comm])

theorem setCarousel (payload : List Byte) : Statement (.setCarousel payload) :=
  of_request (k := 0x10#8) (q := payload) (by decide) (by simp [Instr.wf]) (by simp [addressedRequest, eq_comm])

theorem setGroup (payload : List Byte) : Statement (.setGroup payload) :=
  of_request (k := 0x11#8) (q := payload) (by decide) (by simp [Instr.wf]) (by simp [addressedRequest, eq_comm])

theorem commission (payload : List Byte) : Statement (.commission payload) :=
  of_request (k := 0x12#8) (q := payload) (by decide) (by simp [Instr.wf]) (by simp [addressedRequest, eq_comm])

theorem pause (broadcast : Bool) (payload : List Byte) : Statement (.pause broadcast payload) := by
  cases broadcast
  · exact of_request (k := 0x13#8) (q := payload) (by decide) (by simp [Instr.wf]) (by simp [addressedRequest, eq_comm])
  · exact of_event rfl

theorem cont (broadcast : Bool) (payload : List Byte) : Statement (.cont broadcast payload) := by
  cases broadcast
  · exact of_request (k := 0x14#8) (q := payload) (by decide) (by simp [Instr.wf]) (by simp [addressedRequest, eq_comm])
  · exact of_event rfl

theorem clearFaultGroup (payload : List Byte) : Statement (.clearFaultGroup payload) :=
  of_request (k := 0x15#8) (q := payload) (by decide) (by simp +contextual [Instr.wf]) (by simp [addressedRequest, eq_comm])

theorem clearFaultBalance (payload : List Byte) : Statement (.clearFaultBalance payload) :=
  of_request (k := 0x15#8) (q := payload) (by decide) (by simp +contextual [Instr.wf]) (by simp [addressedRequest, eq_comm])

theorem clearFaultPort (payload : List Byte) : Statement (.clearFaultPort payload) :=
  of_request (k := 0x15#8) (q := payload) (by decide) (by simp +contextual [Instr.wf]) (by simp [addressedRequest, eq_comm])

theorem clearFaultStation (payload : List Byte) : Statement (.clearFaultStation payload) :=
  of_request (k := 0x15#8) (q := payload) (by decide) (by simp +contextual [Instr.wf]) (by simp [addressedRequest, eq_comm])

theorem resetGroup (payload : List Byte) : Statement (.resetGroup payload) :=
  of_request (k := 0x16#8) (q := payload) (by decide) (by simp [Instr.wf]) (by simp [addressedRequest, eq_comm])

theorem balanceRead (payload : List Byte) : Statement (.balanceRead payload) :=
  of_request (k := 0x17#8) (q := payload) (by decide) (by simp [Instr.wf]) (by simp [addressedRequest, eq_comm])

theorem mapBegin (payload : List Byte) : Statement (.mapBegin payload) :=
  of_request (k := 0x20#8) (q := payload) (by decide) (by simp [Instr.wf]) (by simp [addressedRequest, eq_comm])

theorem mapPut (payload : List Byte) : Statement (.mapPut payload) :=
  of_request (k := 0x21#8) (q := payload) (by decide) (by simp [Instr.wf]) (by simp [addressedRequest, eq_comm])

theorem mapCommit (payload : List Byte) : Statement (.mapCommit payload) :=
  of_request (k := 0x22#8) (q := payload) (by decide) (by simp [Instr.wf]) (by simp [addressedRequest, eq_comm])

theorem mapRead (payload : List Byte) : Statement (.mapRead payload) :=
  of_request (k := 0x23#8) (q := payload) (by decide) (by simp [Instr.wf]) (by simp [addressedRequest, eq_comm])

theorem slotQuery (payload : List Byte) : Statement (.slotQuery payload) :=
  of_request (k := 0x24#8) (q := payload) (by decide) (by simp [Instr.wf]) (by simp [addressedRequest, eq_comm])

theorem slotResolve (payload : List Byte) : Statement (.slotResolve payload) :=
  of_request (k := 0x25#8) (q := payload) (by decide) (by simp [Instr.wf]) (by simp [addressedRequest, eq_comm])

theorem store (payload : List Byte) : Statement (.store payload) :=
  of_request (k := 0x30#8) (q := payload) (by decide) (by simp [Instr.wf]) (by simp [addressedRequest, eq_comm])

theorem storeWithdraw (payload : List Byte) : Statement (.storeWithdraw payload) :=
  of_request (k := 0x31#8) (q := payload) (by decide) (by simp [Instr.wf]) (by simp [addressedRequest, eq_comm])

theorem storeQuery (payload : List Byte) : Statement (.storeQuery payload) :=
  of_request (k := 0x32#8) (q := payload) (by decide) (by simp [Instr.wf]) (by simp [addressedRequest, eq_comm])

theorem orderOpen (payload : List Byte) : Statement (.orderOpen payload) :=
  of_request (k := 0x38#8) (q := payload) (by decide) (by simp [Instr.wf]) (by simp [addressedRequest, eq_comm])

theorem orderCancel (payload : List Byte) : Statement (.orderCancel payload) :=
  of_request (k := 0x39#8) (q := payload) (by decide) (by simp [Instr.wf]) (by simp [addressedRequest, eq_comm])

theorem orderQuery (payload : List Byte) : Statement (.orderQuery payload) :=
  of_request (k := 0x3A#8) (q := payload) (by decide) (by simp [Instr.wf]) (by simp [addressedRequest, eq_comm])

theorem laneRelease (payload : List Byte) : Statement (.laneRelease payload) :=
  of_request (k := 0x40#8) (q := payload) (by decide) (by simp [Instr.wf]) (by simp [addressedRequest, eq_comm])

theorem setStation (payload : List Byte) : Statement (.setStation payload) :=
  of_request (k := 0x41#8) (q := payload) (by decide) (by simp [Instr.wf]) (by simp [addressedRequest, eq_comm])

theorem stationQuery (payload : List Byte) : Statement (.stationQuery payload) :=
  of_request (k := 0x42#8) (q := payload) (by decide) (by simp [Instr.wf]) (by simp [addressedRequest, eq_comm])

theorem auditStart (payload : List Byte) : Statement (.auditStart payload) :=
  of_request (k := 0x48#8) (q := payload) (by decide) (by simp [Instr.wf]) (by simp [addressedRequest, eq_comm])

theorem auditStop (payload : List Byte) : Statement (.auditStop payload) :=
  of_request (k := 0x49#8) (q := payload) (by decide) (by simp [Instr.wf]) (by simp [addressedRequest, eq_comm])

theorem auditQuery (payload : List Byte) : Statement (.auditQuery payload) :=
  of_request (k := 0x4A#8) (q := payload) (by decide) (by simp [Instr.wf]) (by simp [addressedRequest, eq_comm])

theorem logRead (payload : List Byte) : Statement (.logRead payload) :=
  of_request (k := 0x4B#8) (q := payload) (by decide) (by simp [Instr.wf]) (by simp [addressedRequest, eq_comm])

theorem watchdogExpiry : Statement .watchdogExpiry := of_event rfl

theorem startSlot (group : Index) : Statement (.startSlot group) := of_event rfl

theorem carrierMark (group : Index) (home : Bool) : Statement (.carrierMark group home) := of_event rfl

theorem encoderPulse (group : Index) (forward : Bool) : Statement (.encoderPulse group forward) := of_event rfl

theorem settleTimerExpiry (group : Index) : Statement (.settleTimerExpiry group) := of_event rfl

theorem referencingSettled (group : Index) : Statement (.referencingSettled group) := of_event rfl

theorem stallTimerExpiry (group : Index) : Statement (.stallTimerExpiry group) := of_event rfl

theorem driveFault (group : Index) (active : Bool) : Statement (.driveFault group active) := of_event rfl

theorem torqueMeasurement (high period : Nat) : Statement (.torqueMeasurement high period) := of_event rfl

theorem torqueVisitTimeout : Statement .torqueVisitTimeout := of_event rfl

theorem shuttleInputChange (port : Index) (input : PortInput) (active : Bool) : Statement (.shuttleInputChange port input active) := of_event rfl

theorem insertionComplete (port : Index) (input : PortInput) (active : Bool) : Statement (.insertionComplete port input active) := of_event rfl

theorem extractionComplete (port : Index) (input : PortInput) (active : Bool) : Statement (.extractionComplete port input active) := of_event rfl

theorem infeedTagAnswer (port : Index) (answer : Option Id32) : Statement (.infeedTagAnswer port answer) := of_event rfl

theorem infeedTagTimeout (port : Index) : Statement (.infeedTagTimeout port) := of_event rfl

theorem weighingSample (port : Index) (reading : Int) : Statement (.weighingSample port reading) := of_event rfl

theorem faceTagAnswer (port : Index) (level : Fin 6) (answer : Option Id32) : Statement (.faceTagAnswer port level answer) := of_event rfl

theorem scanTimeout (port : Index) : Statement (.scanTimeout port) := of_event rfl

theorem transferTimerExpiry (port : Index) : Statement (.transferTimerExpiry port) := of_event rfl

theorem storeTimeTick (ports : BitVec 4) : Statement (.storeTimeTick ports) := of_event rfl

theorem collectorEntry : Statement .collectorEntry := of_event rfl

theorem laneEntry (lane : Lane) : Statement (.laneEntry lane) := of_event rfl

theorem diversionTimeout : Statement .diversionTimeout := of_event rfl

theorem laneButton (lane : Lane) : Statement (.laneButton lane) := of_event rfl

end Sys2Proof.Laws.Wf
end

