-- ==== Sys2Proof/Laws/Turns.lean ====
section
/-! SUPPORT. What the scheduler's turns, and every operation below them, leave as it was: `turnCore` blanks out what a turn can
change, and each operation keeps it. A proof about a command that ends in `giveTurns` cites `turnCore_giveTurns` and unfolds no
turn. -/

namespace Sys2Proof.Machine

open Sys2Proof

-- One theorem after the other: many at once want more memory than a build may take.
set_option Elab.async false

variable (s : State)

/-! ## Updates -/

@[simp] theorem turnCore_raiseEvent (e : Event) : (raiseEvent e s).turnCore = s.turnCore := rfl

@[simp] theorem turnCore_spendChoices {α : Type} (as : List α) : (spendChoices as s).turnCore = s.turnCore := rfl

theorem turnCore_setCarousel (x : Index) (c : Carousel) (h : c.turnCore = (s.carousels.get x).turnCore) :
    (s.setCarousel x c).turnCore = s.turnCore := by
  simp only [State.turnCore, setCarousel_link, setCarousel_carousels, setCarousel_channels, setCarousel_groups,
    setCarousel_startSlot, setCarousel_ports, setCarousel_sched, setCarousel_station, setCarousel_audit,
    setCarousel_pending, Quad.map_set]
  rw [Quad.set_eq_self (by rw [Quad.get_map, h])]

theorem turnCore_setPort (p : Index) (q : Port) (h : q.turnCore = (s.ports.get p).turnCore) :
    (s.setPort p q).turnCore = s.turnCore := by
  simp only [State.turnCore, setPort_link, setPort_carousels, setPort_channels, setPort_groups, setPort_startSlot,
    setPort_ports, setPort_sched, setPort_station, setPort_audit, setPort_pending, Quad.map_set]
  rw [Quad.set_eq_self (by rw [Quad.get_map, h])]

theorem turnCore_setGroup (g : Index) (o : Option Group)
    (h : o.map Group.turnCore = (s.groups.get g).map Group.turnCore) : (s.setGroup g o).turnCore = s.turnCore := by
  simp only [State.turnCore, setGroup_link, setGroup_carousels, setGroup_channels, setGroup_groups, setGroup_startSlot,
    setGroup_ports, setGroup_sched, setGroup_station, setGroup_audit, setGroup_pending, Quad.map_set]
  rw [Quad.set_eq_self (by rw [Quad.get_map, h])]

theorem turnCore_modGroup (g : Index) (f : Group → Group) (h : ∀ grp, (f grp).turnCore = grp.turnCore) :
    (s.modGroup g f).turnCore = s.turnCore := by
  unfold State.modGroup
  split
  · rename_i grp hg
    exact turnCore_setGroup s g _ (by rw [hg]; simp [h])
  · rfl

theorem turnCore_modPort (p : Index) (f : Port → Port) (h : ∀ q, (f q).turnCore = q.turnCore) :
    (s.modPort p f).turnCore = s.turnCore := turnCore_setPort s p _ (h _)

@[simp] theorem turnCore_setSlot (x : Index) (c l : Nat) (sl : Slot) : (s.setSlot x c l sl).turnCore = s.turnCore :=
  turnCore_setCarousel s x _ rfl

@[simp] theorem turnCore_modSlot (x : Index) (c l : Nat) (f : Slot → Slot) :
    (s.modSlot x c l f).turnCore = s.turnCore := by
  unfold State.modSlot; split
  · exact turnCore_setSlot ..
  · rfl

@[simp] theorem turnCore_setStore (p : Index) (r : Option StoreRecord) : (s.setStore p r).turnCore = s.turnCore := rfl

@[simp] theorem turnCore_modStore (p : Index) (f : StoreRecord → StoreRecord) :
    (s.modStore p f).turnCore = s.turnCore := by
  unfold State.modStore; split <;> rfl

theorem turnCore_setSched (c : Scheduler) (h : c.openCounter = s.sched.openCounter) :
    (s.setSched c).turnCore = s.turnCore := by
  simp only [State.turnCore, setSched_sched, h]; rfl

@[simp] theorem turnCore_mapOrders (f : Order → Order) : (s.mapOrders f).turnCore = s.turnCore :=
  turnCore_setSched s _ rfl

@[simp] theorem turnCore_modOrder (id : Id32) (f : Order → Order) : (s.modOrder id f).turnCore = s.turnCore :=
  turnCore_mapOrders ..

@[simp] theorem turnCore_setLine (id : Id32) (seq : Nat) (st : LineState) : (s.setLine id seq st).turnCore = s.turnCore :=
  turnCore_modOrder ..

@[simp] theorem turnCore_freeOrder (id : Id32) : (s.freeOrder id).turnCore = s.turnCore := turnCore_setSched s _ rfl

@[simp] theorem turnCore_modTask (x : Index) (f : AuditTask → AuditTask) : (s.modTask x f).turnCore = s.turnCore := by
  unfold State.modTask; split <;> rfl

@[simp] theorem turnCore_setTask (x : Index) (t : Option AuditTask) : (s.setTask x t).turnCore = s.turnCore := rfl

theorem turnCore_setAudit (a : Audit) (h : a.engine = s.audit.engine) : (s.setAudit a).turnCore = s.turnCore := by
  simp only [State.turnCore, setAudit_audit, h]; rfl

@[simp] theorem turnCore_freeLaneRecord (i : Index) : (s.freeLaneRecord i).turnCore = s.turnCore := rfl

@[simp] theorem turnCore_setLaneState (i : Index) (st : LaneState) : (s.setLaneState i st).turnCore = s.turnCore := rfl

/-- A fold of operations that each keep the core keeps it. -/
theorem turnCore_foldl {α : Type} (f : State → α → State) (h : ∀ s a, (f s a).turnCore = s.turnCore) (as : List α)
    (s : State) : (as.foldl f s).turnCore = s.turnCore := by
  induction as generalizing s with
  | nil => rfl
  | cons a as ih => rw [List.foldl_cons, ih, h]

/-! ## The balance unit -/

@[simp] theorem turnCore_reconsider (g : Index) : (reconsider g s).turnCore = s.turnCore := by
  unfold reconsider
  rw [turnCore_foldl _ (fun s p => turnCore_modStore s p _)]
  exact turnCore_mapOrders ..

@[simp] theorem turnCore_handMass (x : Index) (c : Nat) (dm : Int) (w : Named) :
    (handMass x c dm w s).turnCore = s.turnCore := by
  unfold handMass
  split
  · rfl
  · split
    · rfl
    · have h : ∀ g, (s.modGroup g fun grp => grp.addMass (s.geometry g) c dm w).turnCore = s.turnCore :=
        fun g => turnCore_modGroup s g _ fun grp => rfl
      simp only
      split
      · rw [turnCore_reconsider, h]
      · exact h _

@[simp] theorem turnCore_noteStart (p : Index) : (noteStart p s).turnCore = s.turnCore := by
  unfold noteStart
  split
  · exact turnCore_modGroup s _ _ fun _ => rfl
  · rfl

@[simp] theorem turnCore_markWait (t : Task) : (markWait t s).turnCore = s.turnCore := by
  unfold markWait
  cases t <;> simp

@[simp] theorem turnCore_failGate (g p : Index) (t : Task) : (failGate g p t s).turnCore = s.turnCore := by
  unfold failGate reconsiderTask
  split <;> cases t <;> simp

/-! ## The station and the order table -/

@[simp] theorem turnCore_grant (c : Claim) : (grant c s).turnCore = s.turnCore := by
  unfold grant
  simp only [turnCore_setLine]
  exact Eq.trans (turnCore_modPort _ _ _ fun q => rfl) rfl

@[simp] theorem turnCore_judgeGate : (judgeGate s).turnCore = s.turnCore := by
  unfold judgeGate; split <;> simp

@[simp] theorem turnCore_activateOne : (activateOne s).turnCore = s.turnCore := by
  unfold activateOne
  split
  · rename_i i _ o _ _
    simp only [turnCore_judgeGate]
    have h : ∀ (s : State) (st : Station), st = { s.station with lanes := st.lanes } →
        (s.setStation st).turnCore = s.turnCore := by
      intro s st hst
      simp only [State.turnCore, setStation_station]
      rw [hst]; rfl
    refine Eq.trans (h _ _ rfl) (Eq.trans (turnCore_modOrder _ _ _) (turnCore_setSched _ _ rfl))
  · rfl

@[simp] theorem turnCore_judgeActivation : (judgeActivation s).turnCore = s.turnCore := by
  unfold judgeActivation; simp

@[simp] theorem turnCore_completeOrder (o : Order) : (completeOrder o s).turnCore = s.turnCore := by
  unfold completeOrder
  simp only [turnCore_raiseEvent]
  split <;> simp

@[simp] theorem turnCore_cancelOrder (o : Order) : (cancelOrder o s).turnCore = s.turnCore := by
  unfold cancelOrder
  split
  · simp
  · split <;> simp

@[simp] theorem turnCore_judgeOrder (id : Id32) : (judgeOrder id s).turnCore = s.turnCore := by
  unfold judgeOrder
  split
  · rfl
  · split
    · split <;> simp
    · split <;> simp
    · rfl

@[simp] theorem turnCore_makeShort (id : Id32) (seq : Nat) (why : ShortReason) :
    (makeShort id seq why s).turnCore = s.turnCore := by
  unfold makeShort; simp

/-! ## Audits -/

@[simp] theorem turnCore_reportAutoEnd (x : Index) (clean : Bool) : (reportAutoEnd x clean s).turnCore = s.turnCore := by
  unfold reportAutoEnd
  split
  · refine turnCore_modGroup _ _ _ fun grp => ?_
    unfold Group.leaveWatch
    split
    · rfl
    · split
      · simp only
        split
        · split <;> rfl
        · rfl
      · rfl
  · rfl

@[simp] theorem turnCore_takeJudgement (x : Index) (c gen : Nat) (k : Check) (j : Judged) :
    (takeJudgement x c gen k s j).turnCore = s.turnCore := by
  unfold takeJudgement
  split
  · rfl
  · simp
  · split
    · rfl
    · simp only
      exact Eq.trans (turnCore_setAudit _ _ rfl) (turnCore_setSlot ..)

@[simp] theorem turnCore_auditComparison (x : Index) (sc : Scan) : (auditComparison x sc s).turnCore = s.turnCore := by
  unfold auditComparison
  split
  · rfl
  · rename_i t ht
    simp only
    split
    · simp
    · have h : ((judgeScan s x t.check sc).foldl (takeJudgement x sc.carrier t.generation t.check) s).turnCore
          = s.turnCore := turnCore_foldl _ (fun s j => turnCore_takeJudgement s ..) _ _
      split <;> split <;> (try split) <;> simp [h]

/-! ## Ports -/

@[simp] theorem turnCore_beginInsertion (p : Index) (c l m : Nat) : (beginInsertion p c l m s).turnCore = s.turnCore := by
  unfold beginInsertion
  refine Eq.trans (turnCore_modPort _ _ _ fun q => rfl) (Eq.trans (turnCore_setSched _ _ rfl) ?_)
  simp

@[simp] theorem turnCore_askInsertion (p : Index) : (askInsertion p s).1.turnCore = s.turnCore := by
  unfold askInsertion
  split
  · split <;> simp
  · rfl

@[simp] theorem turnCore_beginExtraction (p : Index) (id : Id32) (seq c l m : Nat) :
    (beginExtraction p id seq c l m s).turnCore = s.turnCore := by
  unfold beginExtraction
  refine Eq.trans (turnCore_modPort _ _ _ fun q => rfl) ?_
  simp

@[simp] theorem turnCore_askExtraction (p : Index) (id : Id32) (seq c l : Nat) (sl : Slot) :
    (askExtraction p id seq c l sl s).turnCore = s.turnCore := by
  unfold askExtraction
  split
  · rfl
  · split
    · split <;> simp
    · rfl

@[simp] theorem turnCore_endFaceCheck (p : Index) (id : Id32) (seq c l : Nat) (rep : LevelReport) :
    (endFaceCheck p id seq c l rep s).turnCore = s.turnCore := by
  unfold endFaceCheck
  split
  · rfl
  · split
    · split <;> simp
    · rfl

@[simp] theorem turnCore_endScan (p : Index) : (endScan p s).turnCore = s.turnCore := by
  unfold endScan
  split
  · rfl
  · rename_i sc hsc
    have h : (s.modPort p fun port => { port with scan := none }).turnCore = s.turnCore :=
      turnCore_modPort _ _ _ fun q => rfl
    simp only
    split
    · simp [h]
    · simp [h]
    · split <;> simp [h]

@[simp] theorem turnCore_startScan (p : Index) (u : ScanUser) (c : Nat) (tags : Bool) (ls : List Nat) :
    (startScan p u c tags ls s).turnCore = s.turnCore := by
  unfold startScan
  simp only
  split
  · rw [turnCore_endScan]; exact turnCore_modPort _ _ _ fun q => rfl
  · exact turnCore_modPort _ _ _ fun q => rfl

@[simp] theorem turnCore_askFaceCheck (id : Id32) (seq : Nat) : (askFaceCheck id seq s).1.turnCore = s.turnCore := by
  unfold askFaceCheck
  split
  · rfl
  · split
    · rfl
    · split <;> simp

@[simp] theorem turnCore_askAuditScan (x : Index) : (askAuditScan x s).1.turnCore = s.turnCore := by
  unfold askAuditScan
  split
  · split <;> simp
  · rfl

/-! ## The scheduler -/

@[simp] theorem turnCore_pruneList (g : Index) : (pruneList s g).turnCore = s.turnCore := by
  exact turnCore_modGroup _ _ _ fun grp => rfl

@[simp] theorem turnCore_pruneLists : (pruneLists s).turnCore = s.turnCore :=
  turnCore_foldl _ (fun s g => turnCore_pruneList s g) _ _

@[simp] theorem turnCore_joinList (g : Index) : (joinList g s).turnCore = s.turnCore := by
  unfold joinList
  split
  · split
    · exact turnCore_modGroup _ _ _ fun grp => rfl
    · rfl
  · rfl

@[simp] theorem turnCore_firstPassing (g : Index) (ts : List TaskItem) (s : State) :
    (firstPassing g ts s).2.turnCore = s.turnCore := by
  induction ts generalizing s with
  | nil => rfl
  | cons t ts ih =>
    unfold firstPassing
    split
    · rfl
    · rw [ih, turnCore_markWait]

@[simp] theorem turnCore_fillCurrent (g : Index) (c : Nat) (ts : List Task) :
    (fillCurrent g c ts s).turnCore = s.turnCore := by
  unfold fillCurrent
  split
  · rfl
  · simp only
    split
    · rfl
    · split
      · rfl
      · exact turnCore_modGroup _ _ _ fun grp => rfl

@[simp] theorem turnCore_writeNext (g : Index) (t : TaskItem) : (writeNext g t s).turnCore = s.turnCore := by
  have h : ∀ n : Option Target, (s.modGroup g fun grp => { grp with next := n }).turnCore = s.turnCore :=
    fun n => turnCore_modGroup s g _ fun _ => rfl
  unfold writeNext
  repeat' split
  all_goals first | rfl | (simp only; split <;> first | rfl | exact h _)

@[simp] theorem turnCore_nextChoice (g : Index) (c : Nat) : (nextChoice g c s).turnCore = s.turnCore := by
  unfold nextChoice
  split
  · rename_i t s' h
    rw [turnCore_writeNext, ← turnCore_firstPassing g ((usableTasks s g).filter fun t => t.carrier != c) s, h]
  · rename_i s' h
    rw [← turnCore_firstPassing g ((usableTasks s g).filter fun t => t.carrier != c) s, h]

@[simp] theorem turnCore_startFirst (ts : List TaskItem) (s : State) : (startFirst ts s).1.turnCore = s.turnCore := by
  induction ts generalizing s with
  | nil => rfl
  | cons t ts ih =>
    unfold startFirst
    simp only
    cases t.task <;> simp only <;> split <;> simp [ih]

@[simp] theorem turnCore_portStart (g x : Index) : (portStart g x s).1.turnCore = s.turnCore := by
  unfold portStart
  split
  · split <;> simp
  · rfl

@[simp] theorem turnCore_portStarts (g : Index) (xs : List Index) (s : State) :
    (portStarts g xs s).1.turnCore = s.turnCore := by
  induction xs generalizing s with
  | nil => rfl
  | cons x xs ih => unfold portStarts; simp [ih]

@[simp] theorem turnCore_clearNext (g : Index) : (clearNext g s).turnCore = s.turnCore :=
  turnCore_modGroup _ _ _ fun _ => rfl

@[simp] theorem turnCore_offerBest (g : Index) : (offerBest g s).turnCore = s.turnCore := by
  have key : ∀ ts : List TaskItem,
      (match firstPassing g ts s with
        | (some t, s) => fillCurrent g t.carrier (tasksAt s g t.carrier) s
        | (none, s) => s).turnCore = s.turnCore := by
    intro ts
    have h := turnCore_firstPassing g ts s
    split <;> rename_i heq <;> rw [heq] at h
    · rw [turnCore_fillCurrent]; exact h
    · exact h
  exact key _

@[simp] theorem turnCore_promotionPoint (g : Index) : (promotionPoint g s).turnCore = s.turnCore := by
  have h : (s.modGroup g fun grp => { grp with arrivalOpen := false }).turnCore = s.turnCore :=
    turnCore_modGroup _ _ _ fun _ => rfl
  unfold promotionPoint
  simp only
  split
  · exact h
  · split
    · simp [h]
    · split
      · split <;> simp [h]
      · simp [h]

@[simp] theorem turnCore_idleTurn (g : Index) : (idleTurn g s).turnCore = s.turnCore := by
  unfold idleTurn
  simp only
  split
  · simp
  · split
    · simp
    · split
      · simp
      · split
        · split <;> simp
        · simp

@[simp] theorem turnCore_movingTurn (g : Index) : (movingTurn g s).turnCore = s.turnCore := by
  unfold movingTurn
  split
  · rfl
  · split <;> simp

@[simp] theorem turnCore_turn (g : Index) : (turn g s).turnCore = s.turnCore := by
  unfold turn
  split
  · split <;> simp
  · rfl

@[simp] theorem turnCore_takeTurns (gs : List Index) : (takeTurns gs s).1.turnCore = s.turnCore := by
  have hf : ∀ (gs : List Index) (w : State × List Index), (gs.foldl giveTurn w).1.turnCore = w.1.turnCore := by
    intro gs
    induction gs with
    | nil => exact fun _ => rfl
    | cons g gs ih =>
      intro w
      rw [List.foldl_cons, ih]
      exact (turnCore_pruneLists _).trans (turnCore_turn _ g)
  unfold takeTurns
  rw [hf, turnCore_spendChoices]

@[simp] theorem turnCore_turnRounds (n : Nat) (gs : List Index) (s : State) :
    (turnRounds n gs s).turnCore = s.turnCore := by
  induction n generalizing gs s with
  | zero => rfl
  | succ n ih =>
    unfold turnRounds
    split
    · rfl
    · rw [ih, turnCore_takeTurns]

/-- The scheduler's turns leave the core of the state as it was. -/
@[simp] theorem turnCore_giveTurns (events : List Index) (before after : State) :
    (giveTurns events before after).turnCore = after.turnCore := by
  unfold giveTurns; simp

end Sys2Proof.Machine
end

