-- ==== Sys2Proof/Laws/TurnClosed.lean ====
section
/-! SUPPORT. The induction over the scheduler's turns, packaged once. A property of states that is closed under the small changes
of `TurnClosed` is kept by every shared operation below a turn, by the turns, and by `giveTurns`; a proof that a command keeps an
invariant shows the closure and cites these lemmas. -/

namespace Sys2Proof.Machine

open Sys2Proof

-- One theorem after the other: many at once want more memory than a build may take.
set_option Elab.async false

/-! ## What the shared operations leave in single fields -/

variable (s : State)

theorem modGroup_some {g : Index} {f : Group → Group} {grp : Group} (h : s.groups.get g = some grp) :
    s.modGroup g f = s.setGroup g (some (f grp)) := by
  unfold State.modGroup; rw [h]

theorem modGroup_none {g : Index} {f : Group → Group} (h : s.groups.get g = none) : s.modGroup g f = s := by
  unfold State.modGroup; rw [h]

theorem setGroup_self {g : Index} {o : Option Group} (h : s.groups.get g = o) : s.setGroup g o = s := by
  unfold State.setGroup; rw [Quad.set_eq_self h]

@[simp] theorem setGroup_setGroup (g : Index) (a b : Option Group) : (s.setGroup g a).setGroup g b = s.setGroup g b := by
  simp [State.setGroup]

theorem foldl_field {α β : Type} (p : State → β) (f : State → α → State) (h : ∀ s a, p (f s a) = p s) (as : List α)
    (s : State) : p (as.foldl f s) = p s := by
  induction as generalizing s with
  | nil => rfl
  | cons a as ih => rw [List.foldl_cons, ih, h]

@[simp] theorem reconsider_ports (g : Index) : (reconsider g s).ports = s.ports := by
  unfold reconsider
  exact Eq.trans (foldl_field State.ports _ (fun s p => modStore_ports s p _) _ _) rfl

@[simp] theorem handMass_ports (x : Index) (c : Nat) (dm : Int) (w : Named) : (handMass x c dm w s).ports = s.ports := by
  unfold handMass
  split
  · rfl
  · split
    · rfl
    · simp only
      split <;> simp

@[simp] theorem noteStart_ports (p : Index) : (noteStart p s).ports = s.ports := by
  unfold noteStart; split <;> simp

@[simp] theorem markWait_groups (t : Task) : (markWait t s).groups = s.groups := by
  unfold markWait; cases t <;> simp

@[simp] theorem firstPassing_groups (g : Index) (ts : List TaskItem) (s : State) :
    (firstPassing g ts s).2.groups = s.groups := by
  induction ts generalizing s with
  | nil => rfl
  | cons t ts ih =>
    unfold firstPassing
    split
    · rfl
    · rw [ih, markWait_groups]

/-- Equal cores mean the same members, parameters, state, offset and pending pause in every group. -/
theorem group_of_turnCore {s t : State} (h : t.turnCore = s.turnCore) {g : Index} {b : Group}
    (hb : t.groups.get g = some b) : ∃ a, s.groups.get g = some a ∧ b.turnCore = a.turnCore := by
  have hg := congrArg (fun u : State => u.groups.get g) h
  simp only [State.turnCore, Quad.get_map, hb, Option.map_some] at hg
  cases ha : s.groups.get g with
  | none => rw [ha] at hg; cases hg
  | some a => rw [ha] at hg; exact ⟨a, rfl, by simpa using hg⟩

theorem state_of_turnCore {a b : Group} (h : b.turnCore = a.turnCore) : b.state = a.state :=
  show b.turnCore.state = a.turnCore.state by rw [h]

/-! ## The closure -/

/-- A property that every small change of a turn keeps. -/
structure TurnClosed (P : State → Prop) : Prop where
  event : ∀ s e, P s → P (raiseEvent e s)
  spent : ∀ s n, P s → P { s with choices := n }
  slot : ∀ s x c l sl, P s → P (s.setSlot x c l sl)
  store : ∀ s p r r', s.stores.get p = some r → r'.waited = r.waited → P s → P (s.setStore p (some r'))
  orders : ∀ s os, P s → P (s.setSched { s.sched with orders := os })
  placed : ∀ s ps, P s → P (s.setSched { s.sched with placedOrder := ps })
  activated : ∀ s, P s → P (s.setSched { s.sched with activationCounter := countUp s.sched.activationCounter })
  lanes : ∀ s ls, P s → P (s.setStation { s.station with lanes := ls })
  granted : ∀ s p lr, s.station.releasePort = none → s.station.fault = none → s.station.paused = false →
    (s.ports.get p).shuttle = .homeLoaded → (s.ports.get p).loadRec = some lr → P s →
    P ((s.setStation { s.station with releasePort := some p }).modPort p fun port =>
      { port with shuttle := .releasing, releaseOut := true, transferTimer := some s.station.settings.transferTimeout })
  mass : ∀ s g x c dm w, s.serviceGroup x = some g → P s →
    P (s.modGroup g fun grp => grp.addMass (s.geometry g) c dm w)
  inserted : ∀ s p j t, (s.ports.get p).ready = true → P s →
    P (s.modPort p fun port => { port with shuttle := .inserting, insertOut := true, job := some j, transferTimer := some t })
  extracted : ∀ s p j t, (s.ports.get p).ready = true → P s →
    P (s.modPort p fun port =>
      { port with shuttle := .extracting, extractOut := true, job := some j, transferTimer := some t })
  scanned : ∀ s p sc, (s.ports.get p).ready = true → P s → P (s.modPort p fun port => { port with scan := some sc })
  unscanned : ∀ s p, P s → P (s.modPort p fun port => { port with scan := none })
  tasks : ∀ s ts, P s → P (s.setAudit { s.audit with tasks := ts })
  logged : ∀ s e, s.audit.log.length < 32 → P s →
    P (s.setAudit { s.audit with log := s.audit.log ++ [e], entryCounter := countUp s.audit.entryCounter })
  watched : ∀ s g x clean, P s → P (s.modGroup g fun grp => grp.leaveWatch x clean)
  moveTasks : ∀ s g grp m ts, s.groups.get g = some grp → grp.current = some m → P s →
    P (s.setGroup g (some { grp with current := some { m with tasks := ts } }))
  filled : ∀ s g grp m n, s.groups.get g = some grp → grp.state = .idle → grp.current = none → m.phase = .waiting →
    (n = none ∨ n = grp.next) → P s → P (s.setGroup g (some { grp with current := some m, next := n }))
  nextSet : ∀ s g grp n, s.groups.get g = some grp → (grp.state = .idle ∨ grp.state = .moving) → P s →
    P (s.setGroup g (some { grp with next := n }))
  nextEnded : ∀ s g grp n b, s.groups.get g = some grp → grp.next = some n → P s →
    P (s.setGroup g (some { grp with next := some { n with ended := b } }))
  arrival : ∀ s g grp b, s.groups.get g = some grp → P s → P (s.setGroup g (some { grp with arrivalOpen := b }))
  started : ∀ s g grp b, s.groups.get g = some grp → P s → P (s.setGroup g (some { grp with startedHere := b }))

namespace TurnClosed

variable {P : State → Prop} (h : TurnClosed P)
include h

/-! ### Single records -/

theorem modSlot {s : State} (x : Index) (c l : Nat) (f : Slot → Slot) (hs : P s) : P (s.modSlot x c l f) := by
  unfold State.modSlot
  split
  · exact h.slot _ _ _ _ _ hs
  · exact hs

theorem modStore {s : State} (p : Index) (f : StoreRecord → StoreRecord) (hf : ∀ r, (f r).waited = r.waited) (hs : P s) :
    P (s.modStore p f) := by
  unfold State.modStore
  split
  · exact h.store _ _ _ _ ‹_› (hf _) hs
  · exact hs

theorem modTask {s : State} (x : Index) (f : AuditTask → AuditTask) (hs : P s) : P (s.modTask x f) := by
  unfold State.modTask
  split
  · exact h.tasks _ _ hs
  · exact hs

theorem setTask {s : State} (x : Index) (t : Option AuditTask) (hs : P s) : P (s.setTask x t) := h.tasks _ _ hs

theorem mapOrders {s : State} (f : Order → Order) (hs : P s) : P (s.mapOrders f) := h.orders _ _ hs

theorem modOrder {s : State} (id : Id32) (f : Order → Order) (hs : P s) : P (s.modOrder id f) := h.orders _ _ hs

theorem setLine {s : State} (id : Id32) (seq : Nat) (st : LineState) (hs : P s) : P (s.setLine id seq st) :=
  h.orders _ _ hs

theorem freeOrder {s : State} (id : Id32) (hs : P s) : P (s.freeOrder id) := h.orders _ _ hs

theorem setLaneState {s : State} (i : Index) (st : LaneState) (hs : P s) : P (s.setLaneState i st) := h.lanes _ _ hs

theorem freeLaneRecord {s : State} (i : Index) (hs : P s) : P (s.freeLaneRecord i) := h.lanes _ _ hs

theorem spendChoices {s : State} {α : Type} (as : List α) (hs : P s) : P (Machine.spendChoices as s) := h.spent _ _ hs

omit h in
theorem foldl {α : Type} (f : State → α → State) (hf : ∀ s a, P s → P (f s a)) (as : List α) (s : State) (hs : P s) :
    P (as.foldl f s) := by
  induction as generalizing s with
  | nil => exact hs
  | cons a as ih => exact ih _ (hf _ _ hs)

/-! ### The balance unit -/

theorem reconsider {s : State} (g : Index) (hs : P s) : P (reconsider g s) := by
  unfold Machine.reconsider
  refine foldl _ (fun s p hs => h.modStore p _ (fun r => ?_) hs) _ _ (h.mapOrders _ hs)
  unfold reconsiderStore; split <;> rfl

theorem handMass {s : State} (x : Index) (c : Nat) (dm : Int) (w : Named) (hs : P s) : P (handMass x c dm w s) := by
  unfold Machine.handMass
  split
  · exact hs
  · split
    · exact hs
    · rename_i g hg
      have h1 := h.mass s g x c dm w hg hs
      simp only
      split
      · exact h.reconsider _ h1
      · exact h1

theorem markWait {s : State} (t : Task) (hs : P s) : P (markWait t s) := by
  unfold Machine.markWait
  refine h.event _ _ ?_
  cases t with
  | pick id seq => exact h.setLine _ _ _ hs
  | store p => exact h.modStore _ _ (fun _ => rfl) hs
  | audit _ => exact hs

theorem noteStart {s : State} (p : Index) (hs : P s) : P (noteStart p s) := by
  unfold Machine.noteStart
  split
  · unfold State.modGroup
    split
    · exact h.started _ _ _ _ ‹_› hs
    · exact hs
  · exact hs

theorem failGate {s : State} (g p : Index) (t : Task) (hs : P s) : P (failGate g p t s) := by
  unfold Machine.failGate
  split
  · unfold Machine.reconsiderTask
    cases t with
    | pick id seq => exact h.setLine _ _ _ (h.markWait _ hs)
    | store p =>
      refine h.modStore _ _ (fun r => ?_) (h.markWait _ hs)
      unfold reconsiderStore; split <;> rfl
    | audit _ => exact h.markWait _ hs
  · exact h.markWait _ hs

/-! ### The merge gate and the order table -/

theorem judgeGate {s : State} (hs : P s) : P (judgeGate s) := by
  unfold Machine.judgeGate
  split
  · rename_i c hc
    have hcond : s.station.releasePort = none ∧ s.station.fault = none ∧ s.station.paused = false := by
      unfold gateChoice at hc
      split at hc
      · rename_i hb; simpa [and_assoc] using hb
      · cases hc
    have hclaim : ∃ lr, (s.ports.get c.port).shuttle = .homeLoaded ∧ (s.ports.get c.port).loadRec = some lr := by
      have best : ∀ (l : List Claim) (c : Claim), bestBy Claim.key l = some c → c ∈ l := by
        intro l
        induction l with
        | nil => intro c hc; cases hc
        | cons a as ih =>
          intro c hc
          unfold bestBy at hc
          split at hc
          · cases hc; exact List.mem_cons_self
          · rename_i b hb
            split at hc
            · cases hc; exact List.mem_cons_of_mem _ (ih _ hb)
            · cases hc; exact List.mem_cons_self
      unfold gateChoice at hc
      split at hc
      · have hm := best _ _ hc
        simp only [List.mem_filterMap] at hm
        obtain ⟨p, _, hp⟩ := hm
        unfold claimAt at hp
        split at hp
        · rename_i lr hsh hlr
          split at hp
          · split at hp
            · split at hp
              · cases hp; exact ⟨lr, hsh, hlr⟩
              · cases hp
            · cases hp
          · cases hp
        · cases hp
      · cases hc
    obtain ⟨lr, h1, h2⟩ := hclaim
    exact h.setLine _ _ _ (h.granted s c.port lr hcond.1 hcond.2.1 hcond.2.2 h1 h2 hs)
  · exact hs

theorem activateOne {s : State} (hs : P s) : P (activateOne s) := by
  unfold Machine.activateOne
  split
  · exact h.judgeGate (h.lanes _ _ (h.modOrder _ _ (h.activated _ hs)))
  · exact hs

theorem judgeActivation {s : State} (hs : P s) : P (judgeActivation s) :=
  h.activateOne (h.activateOne (h.activateOne (h.activateOne hs)))

theorem completeOrder {s : State} (o : Order) (hs : P s) : P (completeOrder o s) := by
  unfold Machine.completeOrder
  refine h.event _ _ ?_
  split
  · exact h.setLaneState _ _ (h.modOrder _ _ hs)
  · exact h.modOrder _ _ hs

theorem cancelOrder {s : State} (o : Order) (hs : P s) : P (cancelOrder o s) := by
  unfold Machine.cancelOrder
  split
  · exact h.freeOrder _ hs
  · split
    · exact h.setLaneState _ _ (h.modOrder _ _ hs)
    · exact h.judgeActivation (h.freeLaneRecord _ (h.freeOrder _ hs))

theorem judgeOrder {s : State} (id : Id32) (hs : P s) : P (judgeOrder id s) := by
  unfold Machine.judgeOrder
  split
  · exact hs
  · split
    · split
      · exact h.completeOrder _ hs
      · exact hs
    · split
      · exact hs
      · exact h.cancelOrder _ hs
    · exact hs

theorem makeShort {s : State} (id : Id32) (seq : Nat) (why : ShortReason) (hs : P s) : P (makeShort id seq why s) :=
  h.judgeGate (h.judgeOrder _ (h.event _ _ (h.setLine _ _ _ hs)))

/-! ### Audits -/

theorem reportAutoEnd {s : State} (x : Index) (clean : Bool) (hs : P s) : P (reportAutoEnd x clean s) := by
  unfold Machine.reportAutoEnd
  split
  · exact h.watched _ _ _ _ hs
  · exact hs

omit h in
theorem log_takeJudgement {s : State} (x : Index) (c gen : Nat) (k : Check) (j : Judged) :
    (takeJudgement x c gen k s j).audit.log.length ≤ s.audit.log.length + (if j.isMismatch then 1 else 0) := by
  unfold takeJudgement Judged.isMismatch
  split <;> rename_i hv
  · simp
  · simp
  · split <;> simp [hv]

theorem takeJudgement {s : State} (x : Index) (c gen : Nat) (k : Check) (j : Judged)
    (hl : s.audit.log.length + (if j.isMismatch then 1 else 0) ≤ 32) (hs : P s) : P (takeJudgement x c gen k s j) := by
  unfold Machine.takeJudgement
  unfold Judged.isMismatch at hl
  split <;> rename_i hv <;> simp only [hv, if_true] at hl
  · exact hs
  · exact h.modSlot _ _ _ _ hs
  · split
    · exact hs
    · exact h.logged (s.setSlot _ _ _ _) _ (by simpa using hl) (h.slot _ _ _ _ _ hs)

theorem takeJudgements (x : Index) (c gen : Nat) (k : Check) (js : List Judged) (s : State)
    (hl : s.audit.log.length + (js.filter Judged.isMismatch).length ≤ 32) (hs : P s) :
    P (js.foldl (Machine.takeJudgement x c gen k) s) := by
  induction js generalizing s with
  | nil => exact hs
  | cons j js ih =>
    have hj := log_takeJudgement (s := s) x c gen k j
    rw [List.filter_cons] at hl
    refine ih _ ?_ (h.takeJudgement x c gen k j ?_ hs)
    · split at hl <;> rename_i hm <;> simp only [hm, List.length_cons] at hl hj
      · simp at hj; omega
      · simp at hj; omega
    · split at hl <;> rename_i hm <;> simp only [hm, List.length_cons] at hl ⊢
      · simp; omega
      · simp; omega

theorem auditComparison {s : State} (x : Index) (sc : Scan) (hs : P s) : P (auditComparison x sc s) := by
  unfold Machine.auditComparison
  split
  · exact hs
  · rename_i t _
    simp only
    split
    · exact h.modTask _ _ hs
    · rename_i hroom
      have hcap : ¬ 32 - s.audit.log.length < ((judgeScan s x t.check sc).filter Judged.isMismatch).length := hroom
      have h1 : P ((judgeScan s x t.check sc).foldl (Machine.takeJudgement x sc.carrier t.generation t.check) s) := by
        by_cases hn : ((judgeScan s x t.check sc).filter Judged.isMismatch).length = 0
        · have : ∀ (js : List Judged) (s : State), (js.filter Judged.isMismatch).length = 0 → P s →
              P (js.foldl (Machine.takeJudgement x sc.carrier t.generation t.check) s) := by
            intro js
            induction js with
            | nil => intro s _ hs; exact hs
            | cons j js ih =>
              intro s hj hs
              rw [List.filter_cons] at hj
              split at hj
              · simp at hj
              · rename_i hm
                refine ih _ hj ?_
                unfold Judged.isMismatch at hm
                unfold Machine.takeJudgement
                split <;> rename_i hv
                · exact hs
                · exact h.modSlot _ _ _ _ hs
                · simp [hv] at hm
          exact this _ _ hn hs
        · exact h.takeJudgements _ _ _ _ _ _ (by omega) hs
      have h2 := h.setTask x (some (t.compared sc.carrier
        ((judgeScan s x t.check sc).filter Judged.isMismatch).length)) h1
      split <;> split <;> (try split) <;>
        first
          | exact h2
          | exact h.event _ _ h2
          | exact h.reportAutoEnd _ _ (h.event _ _ h2)
          | exact h.event _ _ (h.event _ _ h2)
          | exact h.reportAutoEnd _ _ (h.event _ _ (h.event _ _ h2))

/-! ### Ports -/

theorem beginInsertion {s : State} (p : Index) (c l m : Nat) (hr : (s.ports.get p).ready = true) (hs : P s) :
    P (beginInsertion p c l m s) := by
  unfold Machine.beginInsertion
  refine h.inserted _ p _ _ (by simpa using hr) (h.placed _ _ ?_)
  exact h.modStore _ _ (fun _ => rfl) (h.modSlot _ _ _ _ (h.noteStart _ (h.handMass _ _ _ _ hs)))

theorem askInsertion {s : State} (p : Index) (hs : P s) : P (askInsertion p s).1 := by
  unfold Machine.askInsertion
  split
  · rename_i c l m g hi _
    have hr : (s.ports.get p).ready = true := by
      unfold insertionSlot at hi
      split at hi
      · assumption
      · cases hi
    split
    · exact h.beginInsertion _ _ _ _ hr hs
    · exact h.failGate _ _ (.store p) hs
  · exact hs

theorem beginExtraction {s : State} (p : Index) (id : Id32) (seq c l m : Nat) (hr : (s.ports.get p).ready = true)
    (hs : P s) : P (beginExtraction p id seq c l m s) := by
  unfold Machine.beginExtraction
  exact h.extracted _ p _ _ (by simpa using hr)
    (h.setLine _ _ _ (h.modSlot _ _ _ _ (h.noteStart _ (h.handMass _ _ _ _ hs))))

theorem askExtraction {s : State} (p : Index) (id : Id32) (seq c l : Nat) (sl : Slot) (hs : P s) :
    P (askExtraction p id seq c l sl s) := by
  unfold Machine.askExtraction
  split
  · exact hs
  · split
    · rename_i hc
      split
      · exact h.beginExtraction _ _ _ _ _ _ hc.1 hs
      · exact h.failGate _ _ _ hs
    · exact hs

theorem endFaceCheck {s : State} (p : Index) (id : Id32) (seq c l : Nat) (rep : LevelReport) (hs : P s) :
    P (endFaceCheck p id seq c l rep s) := by
  unfold Machine.endFaceCheck
  split
  · exact hs
  · split
    · split
      · exact h.askExtraction _ _ _ _ _ _ hs
      · exact h.makeShort _ _ _ (h.handMass _ _ _ _ (h.slot _ _ _ _ _ hs))
    · exact hs

theorem endScan {s : State} (p : Index) (hs : P s) : P (endScan p s) := by
  unfold Machine.endScan
  split
  · exact hs
  · have h1 := h.unscanned s p hs
    simp only
    split
    · exact h.auditComparison _ _ h1
    · exact h1
    · split
      · exact h.endFaceCheck _ _ _ _ _ _ h1
      · exact h1

theorem startScan {s : State} (p : Index) (u : ScanUser) (c : Nat) (tags : Bool) (ls : List Nat)
    (hr : (s.ports.get p).ready = true) (hs : P s) : P (startScan p u c tags ls s) := by
  unfold Machine.startScan
  have h1 := fun sc => h.scanned s p sc hr hs
  simp only
  split
  · exact h.endScan _ (h1 _)
  · exact h1 _

theorem askFaceCheck {s : State} (id : Id32) (seq : Nat) (hs : P s) : P (askFaceCheck id seq s).1 := by
  unfold Machine.askFaceCheck
  split
  · exact hs
  · split
    · exact hs
    · split
      · rename_i hc; exact h.startScan _ _ _ _ _ hc.1 hs
      · exact hs

theorem askAuditScan {s : State} (x : Index) (hs : P s) : P (askAuditScan x s).1 := by
  unfold Machine.askAuditScan
  split
  · split
    · rename_i hc; exact h.startScan _ _ _ _ _ (by simpa using hc.1) (h.modTask _ _ hs)
    · exact hs
  · exact hs

/-! ### The scheduler -/

theorem pruneList {s : State} (g : Index) (hs : P s) : P (pruneList s g) := by
  unfold Machine.pruneList
  cases hg : s.groups.get g with
  | none => rw [modGroup_none s hg]; exact hs
  | some grp =>
    rw [modGroup_some s hg]
    have h1 : P (s.setGroup g (some { grp with current := grp.current.map fun m => m.prune (tasksOf s g) })) := by
      cases hm : grp.current with
      | none =>
        have : ({ grp with current := none } : Group) = grp := by rw [← hm]
        rw [Option.map_none, this, setGroup_self s hg]; exact hs
      | some m => exact h.moveTasks _ _ _ _ _ hg hm hs
    cases hn : grp.next with
    | none =>
      have : ({ grp with current := grp.current.map fun m => m.prune (tasksOf s g), next := none } : Group) =
          { grp with current := grp.current.map fun m => m.prune (tasksOf s g) } := by rw [← hn]
      rw [Option.map_none, this]; exact h1
    | some n =>
      have h2 := h.nextEnded _ g { grp with current := grp.current.map fun m => m.prune (tasksOf s g) } n
        (n.ended || !taskStands s g n.task n.carrier) (by simp) hn h1
      rw [setGroup_setGroup] at h2
      exact h2

theorem pruneLists {s : State} (hs : P s) : P (pruneLists s) := foldl _ (fun _ _ hs => h.pruneList _ hs) _ _ hs

theorem joinList {s : State} (g : Index) (hs : P s) : P (joinList g s) := by
  unfold Machine.joinList
  split
  · rename_i grp hg
    split
    · rename_i m hm
      rw [modGroup_some s hg]
      exact h.moveTasks _ _ _ _ _ hg hm hs
    · exact hs
  · exact hs

theorem firstPassing (g : Index) (ts : List TaskItem) (s : State) (hs : P s) : P (firstPassing g ts s).2 := by
  induction ts generalizing s with
  | nil => exact hs
  | cons t ts ih =>
    unfold Machine.firstPassing
    split
    · exact hs
    · exact ih _ (h.markWait _ hs)

theorem fillCurrent {s : State} (g : Index) (c : Nat) (ts : List Task)
    (hg : ∀ grp, s.groups.get g = some grp → grp.state = .idle ∧ grp.current = none) (hs : P s) :
    P (fillCurrent g c ts s) := by
  unfold Machine.fillCurrent
  split
  · exact hs
  · rename_i grp hgrp
    simp only
    split
    · exact hs
    · split
      · exact hs
      · rw [modGroup_some s hgrp]
        refine h.filled _ _ _ _ _ hgrp (hg _ hgrp).1 (hg _ hgrp).2 rfl ?_ hs
        exact (ite_eq_or_eq _ _ _)

theorem writeNext {s : State} (g : Index) (t : TaskItem)
    (hg : ∀ grp, s.groups.get g = some grp → grp.state = .idle ∨ grp.state = .moving) (hs : P s) :
    P (writeNext g t s) := by
  unfold Machine.writeNext
  split
  · exact hs
  · rename_i grp hgrp
    have h1 : ∀ n : Option Target, P (s.modGroup g fun grp => { grp with next := n }) := by
      intro n
      rw [modGroup_some s hgrp]
      exact h.nextSet _ _ _ _ hgrp (hg _ hgrp) hs
    simp only
    generalize (grp.k.isNone || _ || _) = b
    cases b
    · exact h1 _
    · exact hs

theorem nextChoice {s : State} (g : Index) (c : Nat)
    (hg : ∀ grp, s.groups.get g = some grp → grp.state = .idle ∨ grp.state = .moving) (hs : P s) :
    P (nextChoice g c s) := by
  unfold Machine.nextChoice
  have h1 := h.firstPassing g ((usableTasks s g).filter fun t => t.carrier != c) s hs
  have h2 := firstPassing_groups g ((usableTasks s g).filter fun t => t.carrier != c) s
  split <;> rename_i heq <;> rw [heq] at h1 h2
  · exact h.writeNext _ _ (by rw [h2]; exact hg) h1
  · exact h1

theorem startFirst (ts : List TaskItem) (s : State) (hs : P s) : P (startFirst ts s).1 := by
  induction ts generalizing s with
  | nil => exact hs
  | cons t ts ih =>
    unfold Machine.startFirst
    simp only
    cases t.task <;> simp only <;> split <;>
      first
        | exact h.askFaceCheck _ _ hs
        | exact h.askInsertion _ hs
        | exact h.askAuditScan _ hs
        | exact ih _ (h.askFaceCheck _ _ hs)
        | exact ih _ (h.askInsertion _ hs)
        | exact ih _ (h.askAuditScan _ hs)

theorem portStart {s : State} (g x : Index) (hs : P s) : P (portStart g x s).1 := by
  unfold Machine.portStart
  split
  · split
    · exact hs
    · exact h.startFirst _ _ hs
  · exact hs

theorem portStarts (g : Index) (xs : List Index) (s : State) (hs : P s) : P (portStarts g xs s).1 := by
  induction xs generalizing s with
  | nil => exact hs
  | cons x xs ih =>
    unfold Machine.portStarts
    exact ih _ (h.portStart _ _ hs)

theorem offerBest {s : State} (g : Index)
    (hg : ∀ grp, s.groups.get g = some grp → grp.state = .idle ∧ grp.current = none) (hs : P s) :
    P (offerBest g s) := by
  have key : ∀ ts : List TaskItem, P (match Machine.firstPassing g ts s with
      | (some t, s) => Machine.fillCurrent g t.carrier (tasksAt s g t.carrier) s
      | (none, s) => s) := by
    intro ts
    have h1 := h.firstPassing g ts s hs
    have h2 := firstPassing_groups g ts s
    split <;> rename_i heq <;> rw [heq] at h1 h2
    · exact h.fillCurrent _ _ _ (by rw [h2]; exact hg) h1
    · exact h1
  exact key _

omit h in
theorem modGroupIf {s : State} {g : Index} {f : Group → Group}
    (hf : ∀ grp, s.groups.get g = some grp → P (s.setGroup g (some (f grp)))) (hs : P s) : P (s.modGroup g f) := by
  cases hg : s.groups.get g with
  | none => rw [modGroup_none s hg]; exact hs
  | some grp => rw [modGroup_some s hg]; exact hf _ hg

omit h in
theorem get_modGroup {s : State} {g : Index} {f : Group → Group} {b : Group}
    (hb : (s.modGroup g f).groups.get g = some b) : ∃ a, s.groups.get g = some a ∧ b = f a := by
  cases hg : s.groups.get g with
  | none => rw [modGroup_none s hg, hg] at hb; cases hb
  | some a => rw [modGroup_some s hg] at hb; simp at hb; exact ⟨a, rfl, hb.symm⟩

theorem promotionPoint {s : State} (g : Index)
    (hg : ∀ grp, s.groups.get g = some grp → grp.state = .idle ∧ grp.current = none) (hs : P s) :
    P (promotionPoint g s) := by
  have h0 : P (s.modGroup g fun grp => { grp with arrivalOpen := false }) :=
    modGroupIf (fun _ hgrp => h.arrival _ _ _ _ hgrp hs) hs
  have g0 : ∀ grp, (s.modGroup g fun grp => { grp with arrivalOpen := false }).groups.get g = some grp →
      grp.state = .idle ∧ grp.current = none := by
    intro b hb
    obtain ⟨a, ha, rfl⟩ := get_modGroup hb
    exact hg a ha
  unfold Machine.promotionPoint
  generalize (s.modGroup g fun grp => { grp with arrivalOpen := false }) = s0 at h0 g0
  simp only
  split
  · exact h0
  · rename_i grp hgrp
    split
    · exact h.offerBest _ g0 h0
    · have h1 : P (clearNext g s0) :=
        modGroupIf (fun _ hb => h.nextSet _ _ _ _ hb (.inl (g0 _ hb).1) h0) h0
      have g1 : ∀ grp, (clearNext g s0).groups.get g = some grp → grp.state = .idle ∧ grp.current = none := by
        intro b hb
        obtain ⟨a, ha, rfl⟩ := get_modGroup hb
        exact g0 a ha
      split
      · split
        · exact h.fillCurrent _ _ _ g1 h1
        · exact h.offerBest _ (by rw [markWait_groups]; exact g1) (h.markWait _ h1)
      · exact h.offerBest _ g1 h1

theorem idleTurn {s : State} (g : Index) (hg : ∀ grp, s.groups.get g = some grp → grp.state = .idle) (hs : P s) :
    P (idleTurn g s) := by
  unfold Machine.idleTurn
  simp only
  have h1 : P (Machine.portStarts g (Machine.freeOrder s.choices (s.membersOf g))
      (Machine.spendChoices (s.membersOf g) s)).1 := h.portStarts _ _ _ (h.spendChoices _ hs)
  have hc : (Machine.portStarts g (Machine.freeOrder s.choices (s.membersOf g))
      (Machine.spendChoices (s.membersOf g) s)).1.turnCore = s.turnCore := by simp
  generalize (Machine.portStarts g (Machine.freeOrder s.choices (s.membersOf g))
      (Machine.spendChoices (s.membersOf g) s)) = r at h1 hc ⊢
  have g1 : ∀ grp, r.1.groups.get g = some grp → grp.state = .idle := by
    intro b hb
    obtain ⟨a, ha, he⟩ := group_of_turnCore hc hb
    rw [state_of_turnCore he]; exact hg a ha
  split
  · exact h1
  · rename_i grp hgrp
    split
    · refine h.nextChoice _ _ ?_ (h.joinList _ h1)
      intro b hb
      obtain ⟨a, ha, he⟩ := group_of_turnCore (turnCore_joinList r.1 g) hb
      rw [state_of_turnCore he]; exact .inl (g1 a ha)
    · rename_i hcur
      split
      · refine h.promotionPoint _ ?_ h1
        intro b hb
        rw [hgrp] at hb; cases hb
        exact ⟨g1 _ hgrp, hcur⟩
      · split
        · split
          · exact h.nextChoice _ _ (fun b hb => .inl (g1 b hb)) h1
          · exact h1
        · exact h1

theorem movingTurn {s : State} (g : Index) (hg : ∀ grp, s.groups.get g = some grp → grp.state = .moving) (hs : P s) :
    P (movingTurn g s) := by
  unfold Machine.movingTurn
  split
  · exact hs
  · split
    · refine h.nextChoice _ _ ?_ (h.joinList _ hs)
      intro b hb
      obtain ⟨a, ha, he⟩ := group_of_turnCore (turnCore_joinList s g) hb
      rw [state_of_turnCore he]; exact .inr (hg a ha)
    · exact hs

theorem turn {s : State} (g : Index) (hs : P s) : P (turn g s) := by
  unfold Machine.turn
  split
  · rename_i grp _ hgrp
    split <;> rename_i hst
    · exact h.idleTurn _ (fun b hb => by rw [hgrp] at hb; cases hb; exact hst) hs
    · exact h.movingTurn _ (fun b hb => by rw [hgrp] at hb; cases hb; exact hst) hs
    · exact hs
  · exact hs

theorem takeTurns {s : State} (gs : List Index) (hs : P s) : P (takeTurns gs s).1 := by
  have hf : ∀ (gs : List Index) (w : State × List Index), P w.1 → P (gs.foldl giveTurn w).1 := by
    intro gs
    induction gs with
    | nil => exact fun _ hw => hw
    | cons g gs ih => exact fun w hw => ih _ (h.pruneLists (h.turn g hw))
  exact hf _ _ (h.spendChoices gs hs)

theorem turnRounds (n : Nat) (gs : List Index) (s : State) (hs : P s) : P (turnRounds n gs s) := by
  induction n generalizing gs s with
  | zero => exact hs
  | succ n ih =>
    unfold Machine.turnRounds
    split
    · exact hs
    · exact ih _ _ (h.takeTurns _ hs)

/-- The scheduler's turns keep a closed property. -/
theorem giveTurns (events : List Index) (before after : State) (hs : P after) : P (giveTurns events before after) :=
  h.turnRounds _ _ _ (h.pruneLists hs)

end TurnClosed

end Sys2Proof.Machine
end

