-- ==== Sys2Proof/Tests/Slice0.lean ====
section
/-! SUPPORT. Tests on small states: commands that are not well-formed, the worked examples of the manual, and for each statement
of Certificates/Slice0 a witness that its hypotheses can be met, clause by clause. -/

namespace Sys2Proof.Tests

open Sys2Proof Sys2Proof.Machine

-- One test after the other: each evaluates a whole state, and many at once want more memory than a build may take.
set_option Elab.async false

/-! ## Small states -/

/-- A part that listens at address 11. -/
def online : State := { State.reset with
  link := { Link.powerOn with address := 11, sampled := true, receiver := .hunt, wdTimer := some 2000 } }

theorem listens {s : State} (h : s.link = online.link) : s.Listens := by
  unfold State.Listens
  rw [h]
  decide

/-- The carousel of section 3.8. -/
def box : CarouselConfig where
  carriers := 12
  bend := 1
  port := 2
  levels := 4
  carrierLimit := 1000
  pulses := 512
  levelLimits := [300, 300, 300, 300]

def boxRequest : CarouselRequest where
  carousel := 0
  carriers := 12
  bend := 1
  port := 2
  levels := 4
  carrierLimit := 1000
  pulses := 512
  limit0 := 300
  limit1 := 300
  limit2 := 300
  limit3 := 300
  limit4 := 0
  limit5 := 0

def params : GroupParams where
  lp := 4800
  ls1 := 2400
  ls2 := 4000
  ld := 6000
  friction := 200
  fullScale := 8000
  tolerance := 300
  stallTime := 20
  autoAudit := true

def item (tag : Id32) (m : Nat) : Slot :=
  { emptySlot with content := .held, tag := tag, recorded := m, counted := m }

/-- The slots of carrier c in section 3.8: 880, 480 and 640 dkg on carriers 0, 3 and 7. -/
def carrier (c : Nat) : List Slot :=
  match c with
  | 0 => [item 1#32 220, item 2#32 220, item 3#32 220, item 4#32 220]
  | 3 => [{ item 5#32 220 with setId := 4410#32, member := 1 }, item 6#32 260, emptySlot, emptySlot]
  | 7 => [item 7#32 220, item 8#32 220, item 9#32 200, emptySlot]
  | _ => [emptySlot, emptySlot, emptySlot, emptySlot]

def stock (st : MapState) : SlotMap := { state := st, carriers := (List.range 12).map carrier, finding := none }

/-- E of section 3.8. -/
def profile : List Int := [2880, 2880, 960, -960, 1600, 640, -2880, -2880, -960, 960, -1600, -640]

def crew (st : GroupState) (k : Option Nat) : Group :=
  { Group.fresh [0] params 12 0 with state := st, k := k, effective := profile, planned := profile }

def atHome : Port :=
  { Port.powerOn with home := true, shuttle := .homeEmpty, fault := none, awaitingRest := false }

/-- Group 0 holds carousel A alone, as in section 3.8. -/
def plant (st : GroupState) (k : Option Nat) : State := { online with
  carousels := online.carousels.set 0 { config := some box, map := stock .committed }
  groups := online.groups.set 0 (some (crew st k))
  ports := online.ports.set 0 atHome }

/-- The same with another group record. -/
def plantWith (grp : Group) : State := { plant .idle (some 0) with groups := online.groups.set 0 (some grp) }

def line (st : LineState) : Line :=
  { seq := 1, tag := 1#32, carousel := 0, carrier := 0, level := 0, mass := 220, state := st, rejectBound := false }

def order (st : OrderState) (ls : List Line) : Order :=
  { id := 77#32, priority := 1, state := st, short := none, openSeq := 1, actSeq := some 1, lane := some 0, lines := ls }

def withOrders (os : List Order) (s : State) : State :=
  s.setSched { s.sched with orders := os.map some ++ List.replicate (16 - os.length) none }

def reservedOut (ph : Phase) : Slot := { item 1#32 220 with reservation := .outbound 77#32 1 ph }

/-- Line 1 of order 77 reserves A 0/0; carrier 0 stands at the port at k = 2. -/
def picking (grp : Group) (st : LineState) : State :=
  withOrders [order .active [line st]] ((plantWith grp).setSlot 0 0 0 (reservedOut .planned))

def named (reports : List (Option LevelReport)) : List LevelEntry :=
  (numbered 0 reports).map fun (l, r) => { level := l, report := r }

def checking (presence : Bool) : State := (picking (crew .idle (some 2)) .reserved).setPort 0 { atHome with
  presence := presence :: List.replicate 5 false
  scan := some { user := .faceCheck 77#32 1, carrier := 0, tags := true, levels := named [none] } }

def scanning : State := (plant .idle (some 2)).setPort 0 { atHome with
  scan := some { user := .audit, carrier := 0, tags := true, levels := named [some .noRead, none, none] } }

def carried : CollectorItem := { tag := 1#32, order := 77#32, line := 1 }

def diverting (lane : Lane) : State := (withOrders [order .active [line .inTransit]] online).setStation { online.station with
  collector := [carried], diverter := .diverting lane, position := lane, send := true, diversionTimer := some 8 }

/-- The state after a command. -/
def after (i : Instr) (s : State) : Option State :=
  match exec i s with
  | .next t => some t
  | _ => none

/-! ## Commands that are not well-formed -/

theorem test_wf_sampling : Instr.wf (.addressSampling false false false false []) = false := by decide
theorem test_wf_payload : Instr.wf (.ident (List.replicate 201 0#8)) = false := by decide +kernel
theorem test_wf_notAddressed : Instr.wf (.frameNotAddressed 1#8 1#8 (List.replicate 201 0#8)) = false := by
  decide +kernel
theorem test_wf_invalidFrame : Instr.wf (.invalidFrame []) = false := by decide
theorem test_wf_unknownKind : Instr.wf (.unknownKind 0x4B#8 []) = false := by decide
theorem test_wf_scopeFault : Instr.wf (.clearFaultGroup [0#8, 1#8]) = false := by decide
theorem test_wf_scopeBalance : Instr.wf (.clearFaultBalance [0#8, 0#8]) = false := by decide
theorem test_wf_portTarget : Instr.wf (.clearFaultPort [0#8, 0#8]) = false := by decide
theorem test_wf_stationTarget : Instr.wf (.clearFaultStation [0x10#8, 0#8]) = false := by decide
theorem test_wf_measurement : Instr.wf (.torqueMeasurement 1 0) = false ∧ Instr.wf (.torqueMeasurement 3 2) = false := by
  decide
theorem test_wf_infeedTag : Instr.wf (.infeedTagAnswer 0 (some 0#32)) = false := by decide
theorem test_wf_faceTag : Instr.wf (.faceTagAnswer 0 0 (some 0#32)) = false := by decide

/-! ## Worked examples of the manual -/

/-- Section 10.1: the 32 conversions sum to 14,500 and AS0 is open, so the address is 11. -/
theorem test_sampledAddress : after (.addressSampling false true false true
    (List.replicate 28 453#10 ++ List.replicate 4 454#10)) State.reset = some (State.reset.setLink { Link.powerOn with
      address := 11, baud := 1#2, sampled := true, receiver := .hunt, wdTimer := some 2000 }) := by decide +kernel

/-- The published check value of this CRC (polynomial 0x1021, initial value 0xFFFF) over the digits 1 to 9. -/
theorem test_crc16 : crc16 [0x31#8, 0x32#8, 0x33#8, 0x34#8, 0x35#8, 0x36#8, 0x37#8, 0x38#8, 0x39#8] = 0x29B1#16 := by
  decide +kernel

/-- Section 1.2: the weights of a loop of 16 carriers with bends of 3. -/
theorem test_leverWeights : (List.range 16).map (leverWeight 16 3) =
    [4, 4, 4, 4, 4, 3, 0, -3, -4, -4, -4, -4, -4, -3, 0, 3] := by decide

/-- Section 1.2: at k = 10 carrier 7 stands at the port of that loop. -/
theorem test_atPort : Geometry.atPort { carriers := 16, bend := 3, port := 1, pulses := 512 } 10 = 7 := by decide

/-- Section 3.8: the whole profile. -/
theorem test_commissionedProfile : (plant .offline none).freshProfile 0 = profile := by decide +kernel

/-- Section 3.8: the trial peaks of a 22.0 kg wheel on carriers 1 to 11. -/
theorem test_trialPeaks : ((List.range 11).map fun c => trialPeak box.geometry profile (c + 1) 220) =
    [3760, 3760, 3760, 3760, 2880, 2000, 2000, 2480, 2480, 2880, 3760] := by decide +kernel

/-- Section 3.8: the move that brings carrier 6 to the port, and the half-loop move to carrier 8. -/
theorem test_moveAnswers :
    moveAnswer box.geometry (crew .idle (some 0)) 0 8 =
      some { dir := .reverse, distance := 4, pathMax := 2880, cls := .normal }
    ∧ moveAnswer box.geometry (crew .idle (some 0)) 0 6 =
      some { dir := .forward, distance := 6, pathMax := 2880, cls := .normal } := by decide +kernel

/-- Section 3.8: the expected torque of a reverse move at offsets 11, 10 and 9. -/
theorem test_expectedTorque : [11, 10, 9].map (fun k => expectedTorque (crew .moving (some 0)) k .reverse) =
    [840, 1800, -760] := by decide

/-- R152: its table. -/
theorem test_torqueTable :
    [torqueOf (dutyOf 640 1000) 8000, torqueOf (dutyOf 546 1000) 8000, torqueOf (dutyOf 418 1000) 8000,
      torqueOf (dutyOf 930 1000) 8000, torqueOf (dutyOf 40 1000) 8000, torqueOf (dutyOf 1333 2000) 8000] =
    [some 2800, some 920, some (-1640), some 8000, none, some 3320] := by decide +kernel

def wheel : StoreRecord where
  state := .weighing
  tag := 0x00A1B702#32
  declared := 222
  setId := 4410#32
  member := 2
  hint := some 9
  weighings := 1
  measured := some 220
  corrected := false
  chosen := none
  trialPeak := none
  waited := none
  promoted := false
  cond := .pending

/-- Section 6.6: the wheel is placed at A 3/2 with trial peak 3,760. -/
theorem test_placement : ((runPlacement 0 wheel 220 ((plant .idle (some 0)).setStore 0 (some wheel))).stores.get 0) =
    some { wheel with
      state := .placed, chosen := some (3, 2), trialPeak := some 3760, waited := some 0 } := by decide +kernel

/-- Section 1.6: a recrossing, then a reverse pitch; with Ep = 512 the window is 448 to 576. -/
theorem test_markJudgement : judgeMark box.geometry 0 .reverse = .recrossing
    ∧ judgeMark box.geometry (-506) .reverse = .step .reverse ∧ judgeMark box.geometry 447 .forward = .fault
    ∧ judgeMark box.geometry 448 .forward = .step .forward ∧ judgeMark box.geometry 577 .forward = .fault := by decide

/-- Section 5.2: the second weighing ends with its 32nd sample (sum 12,570, smallest 391, largest 395): 393 dkg, mass corrected. -/
theorem test_weighing : ((after (.weighingSample 0 393) ((((plant .idle (some 0)).setCarousel 0
      { config := some { box with levelLimits := [450, 450, 300, 300] }, map := stock .committed }).setStore 0
        (some { wheel with declared := 380, measured := none })).setPort 0
          { atHome with infeed := some (.weighing 31 12177 395 391) })).bind
    fun t => (t.stores.get 0).map fun r => (r.measured, r.corrected, r.weighings)) = some (some 393, true, 2) := by
  decide +kernel

/-! ## Witnesses: the queue, power-on and the line -/

theorem test_witness_StepRunsFrontCommand : ({ online with pending := [.ident []] } : State).pending = .ident [] :: []
    ∧ online.pending = [] := ⟨rfl, rfl⟩

theorem test_witness_PowerOnAndSampling : (List.replicate 32 1023#10).length = 32 ∧ online.link.sampled = true
    ∧ State.reset.link.sampled = false ∧ State.reset.link.wdCode = 2 := by decide

/-- The bytes of a run without a framing error. -/
def clean (bs : List Byte) : List LineByte := bs.map fun b => { value := b, framingError := false }

/-- Section 11.1, the CRC computed by hand: the bytes of an IDENT to address 11 are that request. With its last byte missing the
frame stands, and with another last byte it is discarded. -/
theorem test_frameBytes : after (.invalidFrame (clean [0xA5#8, 0x0B#8, 0x01#8, 0x00#8, 0x0F#8, 0x5C#8])) online =
      after (.ident []) online
    ∧ (after (.invalidFrame (clean [0xA5#8, 0x0B#8, 0x01#8, 0x00#8, 0x0F#8])) online).map (fun t => t.link.receiver) =
      some (.inFrame [0xA5#8, 0x0B#8, 0x01#8, 0x00#8, 0x0F#8])
    ∧ after (.invalidFrame (clean [0xA5#8, 0x0B#8, 0x01#8, 0x00#8, 0x0F#8, 0x5D#8])) online = some online := by decide +kernel

/-- A frame begun; a payload of 200 bytes and of 201; a LEN of 201; bytes beside SYNC; a foreign address beside the part's own, and
the broadcast address with a kind not acted on and with a length beside that of each kind acted on. -/
theorem test_witness_FramesOutsideRequests :
    (online.setReceiver (.inFrame [0xA5#8])).link.receiver = .inFrame [0xA5#8]
    ∧ (∀ taken : List Byte, online.link.receiver ≠ .inFrame taken) ∧ State.reset.link.receiver = .off
    ∧ online.Listens ∧ online.link.receiver = .hunt ∧ (List.replicate 200 0#8).length ≤ 200
    ∧ 200 < (List.replicate 201 0#8).length ∧ 200 < (201#8).toNat ∧ (0xA4#8 : Byte) ≠ 0xA5#8
    ∧ framePayload (.status (List.replicate 201 0#8)) = some (List.replicate 201 0#8)
    ∧ (11#8).toNat = online.link.address ∧ addressedRequest (.ident []) = some (0x01#8, [])
    ∧ (12#8).toNat ≠ online.link.address ∧ (12#8).toNat ≠ 63
    ∧ (63#8).toNat ≠ online.link.address ∧ (63#8).toNat = 63 ∧ (0x12#8 : Byte) ≠ 0x13#8
    ∧ (∀ p ∈ [[], [0#8, 0#8]], p.length ≠ 1 ∧ p.length ≤ 200) ∧ [(0#8 : Byte)].length ≠ 0
    ∧ isFrame (.pause true [0#8]) = true :=
  ⟨rfl, fun _ h => (by cases h), rfl, listens rfl, rfl, by decide +kernel, by decide +kernel, by decide, by decide, rfl, rfl,
    rfl, by decide, by decide, by decide, by decide, by decide, by decide, by decide, rfl⟩

/-- Kinds beside the table's, a length beside each kind's, and the lowest unused bit of each field. -/
theorem test_witness_LinkUnitRefuses : online.Listens ∧ (0x07#8).toNat ∉ kindCodes ∧ (0x4C#8).toNat ∉ kindCodes
    ∧ addressedRequest (.ident [0#8]) = some (0x01#8, [0#8]) ∧ ¬lengthAllowed 0x01#8 1
    ∧ addressedRequest (.logRead [0#8]) = some (0x4B#8, [0#8]) ∧ ¬lengthAllowed 0x4B#8 1
    ∧ wordAt [2#8, 0#8, 0x20#8] 1 = 8192 ∧ wordAt [0#8, 0x20#8] 0 = 8192
    ∧ byteAt (0#8 :: 16#8 :: List.replicate 30 0#8) 1 = 16 ∧ (byteAt [8#8, 0#8] 0).testBit 3 = true
    ∧ (byteAt [64#8, 0#8] 0).testBit 6 = true ∧ (byteAt [128#8, 0#8] 0).testBit 7 = true :=
  ⟨listens rfl, by decide, by decide, rfl, by simp [lengthAllowed], rfl, by simp [lengthAllowed], by decide, by decide,
    by decide, by decide, by decide, by decide⟩

theorem test_witness_RefusalChangesNothing : addressedRequest (.mapBegin [4#8]) = some (0x20#8, [4#8]) ∧ online.Listens
    ∧ after (.mapBegin [4#8]) online = some (online.heard.refusing 0x20#8 .range 0)
    ∧ (online.heard.refusing 0x20#8 .range 0).link.reply =
      .waiting { kind := 0x20#8 ||| 0x80#8, payload := [3#8, 0#8] } :=
  ⟨rfl, listens rfl, by decide +kernel, by decide⟩

def replied : Reply := { kind := 0x10#8, payload := [] }

def waiting (r : Reply) : State := online.setLink { online.link with reply := .waiting r }

def sending (r : Reply) : State := online.setLink { online.link with receiver := .off, reply := .sending r }

theorem test_witness_ReplySentOrDropped : (waiting replied).link.reply = .waiting replied
    ∧ (sending replied).link.reply = .sending replied ∧ replied.kind ≠ 0x06#8 := by decide

/-- The ACK of RESET ALL sent, dropped by a byte, by the first of a run of bytes (SYNC with and without its stop bit, and another
byte), and by a whole frame, with the shortest and the longest payload. -/
theorem test_witness_ResetAllResetsPart : online.Listens
    ∧ (0x00#8 : Byte) ≠ 0xA5#8 ∧ ({ value := 0xA5#8, framingError := true } : LineByte).framingError = true
    ∧ ([] : List Byte).length ≤ 200 ∧ (List.replicate 200 0#8).length ≤ 200
    ∧ 5 < (clean ([0xA5#8, 0x0B#8, 0x01#8, 0#8] ++ [] ++ [0x0F#8, 0x5C#8])).length
    ∧ (sending { kind := 0x06#8, payload := [] }).link.reply = .sending { kind := 0x06#8, payload := [] }
    ∧ (waiting { kind := 0x06#8, payload := [] }).link.reply = .waiting { kind := 0x06#8, payload := [] }
    ∧ (waiting { kind := 0x06#8, payload := [] }).link.receiver ≠ .off ∧ isFrame (.ident []) = true
    ∧ (after .replyComplete (sending { kind := 0x06#8, payload := [] })).isSome = true
    ∧ (after (.replyDrop 0xA5#8) (waiting { kind := 0x06#8, payload := [] })).isSome = true
    ∧ (after (.invalidFrame (clean [0xA5#8, 0x0B#8])) (waiting { kind := 0x06#8, payload := [] })).isSome = true
    ∧ (after (.ident []) (waiting { kind := 0x06#8, payload := [] })).isSome = true :=
  ⟨listens rfl, by decide, rfl, by decide, by decide +kernel, by decide, rfl, rfl, by decide, rfl, rfl, rfl, rfl, rfl⟩

/-- R161, R172: while the ACK of RESET ALL waits, a byte that is not SYNC drops it, and the frame after it is acted on; a frame
whose first byte drops it is lost, and the next one is acted on. -/
theorem test_resetDrop :
    let frame := clean [0xA5#8, 0x0B#8, 0x01#8, 0x00#8, 0x0F#8, 0x5C#8]
    let s := waiting { kind := 0x06#8, payload := [] }
    let reply := fun (bytes : List LineByte) => (after (.invalidFrame bytes) s).map fun t => t.link.reply == .none
    reply (clean [0x00#8] ++ frame) = some false ∧ reply frame = some true ∧ reply (frame ++ frame) = some false := by
  decide +kernel

/-! ## Witnesses: the link unit's requests -/

/-- Codes 6 and 8 are refused, 5 and 7 accepted; every flag can be named. -/
theorem test_witness_LinkSettingsAndFlags : online.Listens ∧ wordAt [6#8, 0xFF#8, 0x1F#8] 1 < 8192
    ∧ byteAt [6#8, 0xFF#8, 0x1F#8] 0 = 6 ∧ 7 < byteAt [8#8, 0xFF#8, 0x1F#8] 0 ∧ byteAt [5#8, 0xFF#8, 0x1F#8] 0 ≤ 5
    ∧ byteAt [7#8, 0xFF#8, 0x1F#8] 0 = 7 ∧ wordAt [0xFF#8, 0x1F#8] 0 = 8191 ∧ online.link.sampled = true
    ∧ (after (.ackEvents [0xFF#8, 0x1F#8]) online).isSome = true :=
  ⟨listens rfl, by decide, by decide, by decide, by decide, by decide, by decide, rfl, rfl⟩

def held : State := online.setLink { online.link with mode := .hold, wdTimer := none }

theorem test_witness_ResumeEndsHold : online.Listens ∧ online.link.mode = .normal ∧ held.Listens
    ∧ held.link.mode = .hold := ⟨listens rfl, rfl, by unfold State.Listens; decide, rfl⟩

def move : Move where
  target := 8
  carrier := 6
  dir := .reverse
  distance := 4
  pathMax := 2880
  cls := .normal
  phase := .waiting
  tasks := []
  holdStop := false

/-- A group travelling from offset 9, one pitch short of its target. -/
def travelling : Group :=
  { crew .moving (some 9) with
    current := some { move with phase := .travel }, stallTimer := some 20, moveDir := .reverse, encoder := -512 }

/-- The same state with RUN of group 0 high. -/
def driven (s : State) : State := { s with
  channels := s.channels.set 0 { run := true, dir := .reverse, speed := .normal, dflt := false } }

theorem test_witness_WatchdogExpiryEntersHold : online.link.wdTimer.isSome = true ∧ online.link.sampled = true
    ∧ online.groups.get 0 = none ∧ (plant .idle (some 0)).groups.get 0 = some (crew .idle (some 0))
    ∧ (plant .idle (some 0)).link.wdTimer.isSome = true
    ∧ (driven (plantWith travelling)).groups.get 0 = some travelling ∧ travelling.state = .moving
    ∧ travelling.current = some { move with phase := .travel }
    ∧ (plantWith { crew .moving (some 8) with current := none }).groups.get 0 = some (crew .moving (some 8))
    ∧ ((driven (plant .referencing none)).channels.get 0).run = true
    ∧ (driven (plant .referencing none)).groups.get 0 = some (crew .referencing none)
    ∧ (plant .faulted none).groups.get 0 = some (crew .faulted none) := by decide +kernel

/-- Each reading request at the first or last value it takes, and at the first value refused. -/
theorem test_witness_ReadsChangeNothing : (plant .idle (some 0)).Listens
    ∧ (plant .idle (some 0)).groups.get 0 = some (crew .idle (some 0))
    ∧ byteAt [0#8, 11#8, 16#8] 1 < ((plant .idle (some 0)).geometry 0).carriers ∧ byteAt [0#8, 11#8, 16#8] 2 = 16
    ∧ ((plant .idle (some 0)).carousels.get 0).map.state ≠ .absent
    ∧ byteAt [0#8, 11#8, 3#8, 12#8] 1 < (plant .idle (some 0)).carriersOf 0
    ∧ byteAt [0#8, 11#8, 3#8, 12#8] 2 < (plant .idle (some 0)).levelsOf 0
    ∧ (plant .idle (some 0)).slot? 0 11 3 = some emptySlot
    ∧ (plant .idle (some 0)).findOrder (idAt [9#8, 0#8, 0#8, 0#8] 0) = none ∧ 5 < (6#8).toNat
    ∧ ((plant .idle (some 0)).geometry 0).carriers ≤ byteAt [0#8, 12#8, 16#8] 1
    ∧ byteAt [0#8, 11#8, 0#8] 2 = 0 ∧ 16 < byteAt [0#8, 11#8, 17#8] 2
    ∧ 4 ≤ byteAt [4#8] 0 ∧ (online.carousels.get 3).map.state = .absent
    ∧ (plant .idle (some 0)).carriersOf 0 ≤ byteAt [0#8, 12#8, 3#8, 12#8] 1
    ∧ (plant .idle (some 0)).levelsOf 0 ≤ byteAt [0#8, 11#8, 4#8, 12#8] 2
    ∧ byteAt [0#8, 11#8, 3#8, 0#8] 3 = 0 ∧ 12 < byteAt [0#8, 11#8, 3#8, 13#8] 3
    ∧ (withOrders [order .active [line .reserved]] online).findOrder (idAt [77#8, 0#8, 0#8, 0#8] 0) =
      some (0, order .active [line .reserved]) := by
  refine ⟨listens rfl, ?_⟩
  decide +kernel

/-! ## Witnesses: carousels and groups -/

theorem boxFields : ∀ j, carouselFieldOk (readCarousel (writeCarousel boxRequest)) j := by
  have h : readCarousel (writeCarousel boxRequest) = boxRequest := by decide +kernel
  rw [h]
  intro j
  rcases j with _ | _ | _ | _ | _ | _ | _ | _ | _ | _ | _ | _ | _ | j <;>
    simp [carouselFieldOk, boxRequest, CarouselRequest.limits]

def crewRequest : GroupRequest where
  group := 0
  members := 1
  lp := 4800
  ls1 := 2400
  ls2 := 4000
  ld := 6000
  friction := 200
  fullScale := 8000
  tolerance := 300
  stallTime := 20
  autoAudit := 1

theorem crewFields : ∀ j, groupFieldOk crewRequest j := by
  intro j
  rcases j with _ | _ | _ | _ | _ | _ | _ | _ | _ | _ | _ | j <;>
    simp [groupFieldOk, crewRequest, GroupRequest.memberList, allIndices]

theorem crewReads : readGroup (writeGroup crewRequest) = crewRequest := by decide +kernel

/-- Carousels A and B, equal but for what `cfg` says of A, coupled in group 0. -/
def coupled (cfg : CarouselConfig) (st : GroupState) : State := { online with
  carousels := (online.carousels.set 0 { config := some cfg, map := stock .committed }).set 1
    { config := some box, map := stock .committed }
  groups := online.groups.set 0 (some { crew st none with members := [0, 1] }) }

/-- SET_CAROUSEL: the first bad carousel index, a carousel in service, and each shared field differing from the companion's. -/
theorem test_witness_SetCarouselRefusals : (plant .idle (some 0)).Listens
    ∧ (writeCarousel boxRequest).length = 21 ∧ ¬carouselFieldOk { boxRequest with carousel := 4 } 0
    ∧ ((plant .idle (some 0)).serviceGroup 0).isSome = true
    ∧ ((coupled box .offline).serviceGroup 0).isSome = false ∧ (coupled box .offline).companions 0 = [1]
    ∧ ((coupled box .offline).geometryOf 1).carriers = boxRequest.carriers
    ∧ ((coupled box .offline).geometryOf 1).carriers ≠ 14 ∧ ((coupled box .offline).geometryOf 1).bend ≠ 2
    ∧ ((coupled box .offline).geometryOf 1).port ≠ 0 ∧ ((coupled box .offline).geometryOf 1).pulses ≠ 32 := by
  refine ⟨listens rfl, by decide +kernel, by simp [carouselFieldOk], ?_⟩
  decide +kernel

/-- SET_GROUP: a bad group index, each threshold pair out of order by one, and each refusal against the state. -/
theorem test_witness_SetGroupRefusals : online.Listens ∧ (writeGroup crewRequest).length = 32
    ∧ crewRequest.members < 16 ∧ ¬groupFieldOk { crewRequest with group := 4 } 0
    ∧ (∀ j, groupFieldOk crewRequest j)
    ∧ ({ crewRequest with ld := 4799 } : GroupRequest).ld < 4800
    ∧ ({ crewRequest with ls1 := 4001 } : GroupRequest).ls1 = crewRequest.ls2 + 1
    ∧ ({ crewRequest with ls2 := 6001 } : GroupRequest).ls2 = crewRequest.ld + 1
    ∧ (plant .idle (some 0)).groups.get 0 = some (crew .idle (some 0))
    ∧ (crewRequest.memberList.find? fun y => (online.carousels.get y).config.isNone) = some 0
    ∧ (crewRequest.memberList.find? fun y =>
        ((plant .idle (some 0)).serviceGroup y).isSome && (plant .idle (some 0)).groupOf y != some 1) = some 0
    ∧ (({ crewRequest with members := 3 } : GroupRequest).memberList.find? fun y =>
        (coupled { box with pulses := 32 } .offline).geometryOf y != (coupled { box with pulses := 32 } .offline).geometryOf 0)
          = some 1 := by
  refine ⟨listens rfl, by decide +kernel, by decide, by simp [groupFieldOk], crewFields, ?_⟩
  decide +kernel

/-- The first group index out of range, and a group that does not exist. COMMISSION: each refusal of R11 in turn. -/
theorem test_witness_GroupRequestsRefused : online.Listens ∧ online.groups.get 3 = none
    ∧ (plant .idle (some 0)).groups.get 0 = some (crew .idle (some 0)) ∧ (crew .idle (some 0)).state ≠ .offline
    ∧ (plant .offline none).groups.get 0 = some (crew .offline none)
    ∧ ([0].find? fun y : Index => (((plant .offline none).setMap 0 (stock .opened)).carousels.get y).map.state
        != .committed) = some 0
    ∧ ((plant .offline none).carousels.get 0).map.state = .committed
    ∧ ([0].find? fun y : Index => !(((plant .offline none).setPort 0 { atHome with home := false }).ports.get y).home)
        = some 0
    ∧ ((plant .offline none).setLink held.link).link.mode = .hold := by
  refine ⟨listens rfl, ?_⟩
  decide +kernel

theorem test_witness_SetCarouselConfigures : (plant .offline none).Listens
    ∧ (writeCarousel boxRequest).length = 21 ∧ byteAt (writeCarousel boxRequest) 0 = (0 : Index).val
    ∧ (∀ j, carouselFieldOk (readCarousel (writeCarousel boxRequest)) j) ∧ (plant .offline none).serviceGroup 0 = none
    ∧ (plant .offline none).companions 0 = [] ∧ (online.carousels.get 0).config = none
    ∧ ((plant .offline none).carousels.get 0).config = some box := by
  refine ⟨listens rfl, by decide +kernel, by decide +kernel, boxFields, ?_⟩
  decide +kernel

theorem test_witness_SetGroupDefines : (plant .offline none).Listens ∧ (writeGroup crewRequest).length = 32
    ∧ readGroup (writeGroup crewRequest) = crewRequest ∧ crewRequest.group = (0 : Index).val
    ∧ (∀ j, groupFieldOk crewRequest j) ∧ crewRequest.lp ≤ crewRequest.ld
    ∧ (plant .offline none).groups.get 0 = some (crew .offline none) ∧ crewRequest.memberList = [0]
    ∧ ((plant .offline none).carousels.get 0).config = some box
    ∧ (plant .offline none).geometryOf 0 = box.geometry := by
  refine ⟨listens rfl, by decide +kernel, crewReads, rfl, crewFields, ?_⟩
  decide +kernel

/-- The stock of section 3.8 has peak 2,880: with Ld 2,880 it is accepted, with Ld 2,879 refused. -/
theorem test_witness_CommissionComputesProfiles : (plant .offline none).Listens
    ∧ (plant .offline none).groups.get 0 = some (crew .offline none)
    ∧ ((plant .offline none).carousels.get 0).map.state = .committed ∧ ((plant .offline none).ports.get 0).home = true
    ∧ ((plant .offline none).ports.get 0).load = false ∧ ((plant .offline none).ports.get 0).shuttle ≠ .faulted
    ∧ (plant .offline none).link.mode = .normal ∧ profile.length = 12
    ∧ (List.range 12).map (heldMoment (plant .offline none) 0) = profile
    ∧ (∀ v ∈ profile, v.natAbs ≤ 2880) ∧ (∃ v ∈ profile, 2879 < v.natAbs) := by
  refine ⟨listens rfl, ?_⟩
  decide +kernel

/-- A scan of the audit unit and one of a face check at a port of an IDLE group, and none. -/
theorem test_witness_PauseGroups : (plant .idle (some 0)).Listens
    ∧ scanning.Listens ∧ scanning.groups.get 0 = some (crew .idle (some 2)) ∧ (0 : Index) ∈ (crew .idle (some 2)).members
    ∧ (1 : Index) ∉ (crew .idle (some 2)).members ∧ (scanning.ports.get 1).scan = none
    ∧ ((scanning.ports.get 0).scan.map fun sc => decide (sc.user = .audit)) = some true
    ∧ (((checking true).ports.get 0).scan.map fun sc => decide (sc.user = .audit)) = some false
    ∧ (plant .idle (some 0)).groups.get 0 = some (crew .idle (some 0)) ∧ (crew .idle (some 0)).state = .idle
    ∧ (plant .moving (some 0)).groups.get 0 = some (crew .moving (some 0))
    ∧ (plant .referencing none).groups.get 0 = some (crew .referencing none)
    ∧ (plant .paused none).groups.get 0 = some (crew .paused none)
    ∧ (plant .faulted none).groups.get 0 = some (crew .faulted none) ∧ online.groups.get 0 = none := by
  refine ⟨listens rfl, listens rfl, ?_⟩
  decide +kernel

theorem test_witness_ContinueGroups : (plant .paused (some 0)).Listens
    ∧ (plant .paused (some 0)).groups.get 0 = some (crew .paused (some 0)) ∧ (crew .paused (some 0)).k ≠ none
    ∧ (crew .paused none).k = none
    ∧ (plantWith { crew .moving (some 0) with pausePending := true }).groups.get 0 =
      some { crew .moving (some 0) with pausePending := true }
    ∧ (crew .moving (some 0)).pausePending = false ∧ (crew .idle (some 0)).state ≠ .paused := by
  refine ⟨listens rfl, ?_⟩
  decide +kernel

def jammed (why : PortFault) (load : Bool) : Port :=
  { atHome with
    shuttle := .faulted, fault := some why, load := load
    loadRec := if why = .release then some { tag := 1#32, mass := 220, order := 77#32, line := 1 } else none }

def faultedStation (d : Option FaultDiversion) : State := online.setStation { online.station with
  fault := some { kind := .divertTimeout, diversion := d, lateArrival := none, strayCount := 0 }
  collector := [{ tag := 1#32, order := 77#32, line := 1 }] }

/-- Targets beside the groups, ports and station; both scopes; each jam kind with each load level; both dispositions, the head's
line reject-bound and not. -/
theorem test_witness_ClearFaultTargets : online.Listens ∧ (4#8).toNat % 8 = 4 ∧ 32 < (33#8).toNat
    ∧ (33#8).toNat.testBit 3 = false ∧ 2 ≤ (2#8).toNat ∧ (16#8).toNat = 16 ∧ (19#8).toNat = 19
    ∧ (plant .faulted none).groups.get 0 = some (crew .faulted none)
    ∧ ((plant .faulted none).channels.get 0).dflt = false
    ∧ ((plant .faulted none).setChannel 0 { Channel.powerOn with dflt := true }).channels.get 0 =
      { Channel.powerOn with dflt := true }
    ∧ (crew .idle (some 0)).suspect = false ∧ ({ crew .idle (some 0) with suspect := true } : Group).suspect = true
    ∧ ((plant .idle none).ports.get 0).shuttle ≠ .faulted
    ∧ ((online.setPort 0 (jammed .start true)).ports.get 0) = jammed .start true
    ∧ (jammed .start true).fault ≠ some .release ∧ (jammed .start true).load = true
    ∧ (jammed .start false).load = false ∧ (jammed .release true).fault = some .release
    ∧ (jammed .release false).loadRec = some { tag := 1#32, mass := 220, order := 77#32, line := 1 }
    ∧ online.station.fault = none ∧ (faultedStation none).station.fault ≠ none
    ∧ (∀ l ∈ [line .inTransit, { line .inTransit with rejectBound := true }], ∀ s ∈
        [withOrders [order .active [l]] (faultedStation (some { tag := 1#32, order := 77#32, line := 1, dest := .reject }))],
      s.station.collector = [{ tag := 1#32, order := 77#32, line := 1 }]
      ∧ s.findOrder 77#32 = some (0, order .active [l]) ∧ (order .active [l]).line? 1 = some l
      ∧ (order .active [l]).lane = some 0) := by
  refine ⟨listens rfl, ?_⟩
  decide +kernel

def inbound : State := (plant .idle (some 8)).setSlot 0 6 0 { emptySlot with reservation := .inbound 0 0x00A1B702#32 220 .planned }

def placed : StoreRecord :=
  { wheel with state := .placed, chosen := some (6, 0), trialPeak := some 2000, waited := some 59 }

/-- Without a group, with a reservation, with a store record, with a shuttle out, and with none of them. -/
theorem test_witness_ResetGroupToOffline : (plant .idle (some 0)).Listens ∧ online.groups.get 0 = none
    ∧ (plant .idle (some 0)).groups.get 0 = some (crew .idle (some 0)) ∧ inbound.reserved 0 = true
    ∧ (plant .idle (some 0)).reserved 0 = false
    ∧ (((plant .idle (some 0)).setStore 0 (some placed)).stores.get 0).isSome = true
    ∧ (plant .idle (some 0)).stores.get 0 = none
    ∧ (((plant .idle (some 0)).setPort 0 (jammed .start false)).ports.get 0).shuttle ≠ .homeEmpty
    ∧ ((plant .idle (some 0)).ports.get 0).shuttle = .homeEmpty := by
  refine ⟨listens rfl, ?_⟩
  decide +kernel


/-! ## Witnesses: the slot map and the balance unit -/

/-- MAP_BEGIN: the first bad carousel, an UNCONFIGURED one, one in service and one that is not. -/
theorem test_witness_MapOpenedAndLoaded : online.Listens ∧ 4 ≤ (4#8).toNat
    ∧ (online.carousels.get 0).config = none ∧ ((plant .idle (some 0)).carousels.get 0).config = some box
    ∧ ((plant .idle (some 0)).serviceGroup 0).isSome = true ∧ ((plant .offline none).serviceGroup 0).isSome = false :=
  ⟨listens rfl, by decide, rfl, by decide +kernel, by decide +kernel, by decide +kernel⟩

def opened : State := (plant .offline none).setMap 0 (stock .opened)

def lastImage : SlotImage :=
  { carrier := 11, level := 3, content := 1, tag := 10#32, setId := 4410#32, member := 4, mass := 4000 }

def images (second : SlotImage) : List Byte := 0#8 :: [lastImage, second].flatMap writeImage

theorem lastImageOk : ∀ f, imageFieldOk 12 4 lastImage f := by
  intro f
  rcases f with _ | _ | _ | _ | _ | _ | _ | f <;> simp [imageFieldOk, lastImage]

/-- MAP_PUT: two images in the last slot; the second with its mass one too large. -/
theorem test_witness_MapOpenedAndLoaded_images : opened.Listens ∧ (images lastImage).length = 1 + 14 * 2
    ∧ byteAt (images lastImage) 0 = 0 ∧ (opened.carousels.get 0).map.state = .opened
    ∧ ((plant .offline none).carousels.get 0).map.state ≠ .opened
    ∧ readImages (images { lastImage with mass := 4001 }) = [lastImage, { lastImage with mass := 4001 }]
    ∧ (∀ f', f' < 6 → imageFieldOk 12 4 { lastImage with mass := 4001 } f')
    ∧ ¬imageFieldOk 12 4 { lastImage with mass := 4001 } 6
    ∧ readImages (images lastImage) = [lastImage, lastImage] ∧ opened.carriersOf 0 = 12 ∧ opened.levelsOf 0 = 4 := by
  refine ⟨listens rfl, by decide +kernel, by decide +kernel, by decide +kernel, by decide +kernel, by decide +kernel,
    ?_, by simp [imageFieldOk], by decide +kernel⟩
  intro f hf
  rcases f with _ | _ | _ | _ | _ | _ | f
  all_goals first | omega | simp [imageFieldOk, lastImage]

/-- The walk passes at a number, as a condition that can be evaluated. -/
theorem walkPasses_of {s : State} {cfg : CarouselConfig} {m : SlotMap} {i : Nat}
    (h : ∀ e ∈ m.walk[i]?, slotFailure s cfg
      (((m.walk.take i).filter fun e => e.2.2.content == .held).map fun e => e.2.2.tag) e.2.1 e.2.2 = none) :
    walkPasses s cfg m i := fun c l sl e => h (c, l, sl) e

/-- The stock of section 3.8 with another first carrier. -/
def withFirst (ls : List Slot) : SlotMap := { stock .opened with carriers := (stock .opened).carriers.set 0 ls }

theorem walkAll (m : SlotMap) (hl : m.walk.length = 48)
    (h : ∀ i < 48, ∀ e ∈ m.walk[i]?, slotFailure opened box
      (((m.walk.take i).filter fun e => e.2.2.content == .held).map fun e => e.2.2.tag) e.2.1 e.2.2 = none) :
    ∀ i, walkPasses opened box m i := by
  intro i
  by_cases hi : i < 48
  · exact walkPasses_of (h i hi)
  · intro c l sl e
    rw [List.getElem?_eq_none (by omega)] at e
    cases e

/-- A tag repeated at level 1; a first carrier of 1,001 dkg; and the stock as it is, whose first carrier carries 880. -/
theorem test_witness_MapCommitWalk : opened.Listens ∧ (opened.carousels.get 0).config = some box
    ∧ (opened.carousels.get 0).map = stock .opened ∧ ((plant .offline none).carousels.get 0).map.state ≠ .opened
    ∧ (withFirst [item 1#32 220, item 1#32 220, emptySlot, emptySlot]).walk[1]? = some (0, 1, item 1#32 220)
    ∧ slotFailure opened box [1#32] 1 (item 1#32 220) = some .conflict
    ∧ walkPasses opened box (withFirst [item 1#32 220, item 1#32 220, emptySlot, emptySlot]) 0
    ∧ (∀ i, walkPasses opened box (withFirst [item 1#32 300, item 2#32 300, item 3#32 300, item 4#32 101]) i)
    ∧ box.carrierLimit < (([item 1#32 300, item 2#32 300, item 3#32 300, item 4#32 101] : List Slot).map Slot.recorded).sum
    ∧ (∀ i, walkPasses opened box (stock .opened) i)
    ∧ (∀ c, c < 12 → (((stock .opened).carriers.getD c []).map Slot.recorded).sum ≤ box.carrierLimit) := by
  refine ⟨listens rfl, by decide +kernel, by decide +kernel, by decide +kernel, by decide +kernel, by decide +kernel,
    walkPasses_of (by decide +kernel), walkAll _ (by decide +kernel) (by decide +kernel), by decide,
    walkAll _ (by decide +kernel) (by decide +kernel), by decide +kernel⟩

theorem boxSound : box.geometry.Sound := ⟨by decide, by decide, by decide⟩

theorem test_witness_HandedMassChangesProfiles : (online.serviceGroup 0) = none
    ∧ (plant .idle (some 0)).serviceGroup 0 = some 0
    ∧ (plant .idle (some 0)).groups.get 0 = some (crew .idle (some 0))
    ∧ (crew .idle (some 0)).effective.length = ((plant .idle (some 0)).geometry 0).carriers
    ∧ (crew .idle (some 0)).planned.length = ((plant .idle (some 0)).geometry 0).carriers ∧ box.geometry.Sound
    ∧ 0 < box.geometry.bend ∧ 5 ≤ (box.geometry.carriers - 2 * box.geometry.bend) / 2 :=
  ⟨by decide +kernel, by decide +kernel, by decide +kernel, by decide +kernel, by decide +kernel, boxSound, by decide, by decide⟩

/-- R1: the weights of each bend length on its smallest loop that has a front run of two positions. -/
theorem test_bendWeights : (List.range 8).map (leverWeight 8 2) = [4, 4, 3, -3, -4, -4, -3, 3]
    ∧ (List.range 12).map (leverWeight 12 4) = [4, 4, 4, 2, -2, -4, -4, -4, -4, -2, 2, 4] := by decide

def resolve (im : SlotImage) : List Byte := 0#8 :: writeImage im

/-- A record for slot A 11/3 that every gate passes, one dkg at its level's limit. -/
def corrected : SlotImage := { lastImage with mass := 300 }

theorem correctedOk : ∀ f, imageFieldOk 12 4 corrected f := by
  intro f
  rcases f with _ | _ | _ | _ | _ | _ | _ | f <;> simp [imageFieldOk, corrected, lastImage]

/-- Accepted at the level limit; one above it; above a carrier limit of 959; a tag held elsewhere; above Ld; a reserved slot. -/
theorem test_witness_SlotResolveReplacesRecord : (plant .idle (some 0)).Listens ∧ (resolve corrected).length = 15
    ∧ readImage (resolve corrected) 1 = corrected ∧ ((plant .idle (some 0)).carousels.get 0).map.state = .committed
    ∧ (opened.carousels.get 0).map.state ≠ .committed ∧ (∀ f, imageFieldOk 12 4 corrected f)
    ∧ (plant .idle (some 0)).slot? 0 11 3 = some emptySlot ∧ corrected.mass ≤ box.levelLimits.getD 3 0
    ∧ box.levelLimits.getD 3 0 < 301 ∧ otherLoad (plant .idle (some 0)) 0 11 3 = 0
    ∧ 959 < 300 + otherLoad (plant .idle (some 0)) 0 0 3
    ∧ places (plant .idle (some 0)) 10#32 = [] ∧ places (plant .idle (some 0)) 1#32 = [.slot 0 0 0]
    ∧ trialPeak ((plant .idle (some 0)).geometry 0) profile 11 300 ≤ params.ld
    ∧ 2879 < trialPeak ((plant .idle (some 0)).geometry 0) profile 11 300
    ∧ inbound.slot? 0 6 0 = some { emptySlot with reservation := .inbound 0 0x00A1B702#32 220 .planned } := by
  refine ⟨listens rfl, by decide +kernel, by decide +kernel, by decide +kernel, by decide +kernel, correctedOk, ?_⟩
  decide +kernel

/-- A record incoherent in each field that can be, every field in its range. -/
def incoherent : List (Nat × SlotImage) :=
  [(3, { corrected with tag := 0#32 }), (5, { corrected with member := 1, setId := 0#32 }), (6, { corrected with mass := 0 }),
   (3, { corrected with content := 0, mass := 0 }),
   (4, { corrected with content := 0, tag := 0#32, setId := 1#32, member := 0, mass := 0 }),
   (5, { corrected with content := 0, tag := 0#32, setId := 0#32, member := 1, mass := 0 }),
   (6, { corrected with content := 0, tag := 0#32, setId := 0#32, member := 0, mass := 1 })]

theorem incoherentOk : ∀ e ∈ incoherent, ∀ f, imageFieldOk 12 4 e.2 f := by
  intro e he f
  simp only [incoherent, List.mem_cons, List.not_mem_nil, or_false] at he
  rcases he with rfl | rfl | rfl | rfl | rfl | rfl | rfl <;>
    rcases f with _ | _ | _ | _ | _ | _ | _ | f <;> simp [imageFieldOk, corrected, lastImage]

theorem test_witness_SlotResolveReplacesRecord_incoherent :
    (∀ e ∈ incoherent, ∀ f, imageFieldOk 12 4 e.2 f)
    ∧ ∀ e ∈ incoherent, readImage (resolve e.2) 1 = e.2
      ∧ after (.slotResolve (resolve e.2)) (plant .idle (some 0)) =
        some ((plant .idle (some 0)).heard.refusing 0x25#8 .range e.1) :=
  ⟨incoherentOk, by decide +kernel⟩

/-! ## Witnesses: direction, start slots and travel -/

/-- A command that answers a next state with a property. -/
theorem answers (i : Instr) (s : State) (P : State → Bool) (h : (after i s).any P = true) :
    ∃ t, exec i s = .next t ∧ P t = true := by
  unfold after at h
  split at h
  · next t e => exact ⟨t, e, by simpa using h⟩
  · cases h

/-- The target at k, at half a loop and one pitch beyond it; a BALANCE_SUSPECT group; the path maximum on Ls1 and on Ls2. -/
theorem test_witness_DirectionAndSpeedClass : 11 < box.geometry.carriers ∧ (5 + 12 - 11) % 12 = 6 ∧ 2 * 6 ≤ 12
    ∧ (6 + 12 - 11) % 12 = 7 ∧ 12 < 2 * 7 ∧ (11 + 12 - 11) % 12 = 0
    ∧ ({ crew .idle (some 0) with suspect := true } : Group).suspect = true
    ∧ (moveAnswer box.geometry { crew .idle (some 0) with params := { params with ls1 := 2880 } } 0 6).map (·.cls) = some .fast
    ∧ (moveAnswer box.geometry { crew .idle (some 0) with params := { params with ls2 := 2880 } } 0 6).map (·.cls) = some .normal
    ∧ (moveAnswer box.geometry { crew .idle (some 0) with params := { params with ls2 := 2879 } } 0 6).map (·.cls)
      = some .gentle := by decide +kernel

/-- A move that waits for the start slot. -/
def ready : Group := { crew .idle (some 0) with current := some move }

def scanned (user : ScanUser) (levels : List LevelEntry) : Port :=
  { atHome with scan := some { user := user, carrier := 6, tags := true, levels := levels } }

/-- Both ways RUN rises, and each condition that fails. -/
theorem test_witness_StartSlotRaisesRun : online.groups.get 0 = none ∧ held.link.mode = .hold
    ∧ (plantWith ready).groups.get 0 = some ready ∧ (plantWith ready).link.mode = .normal
    ∧ (∀ x ∈ ready.members, ((plantWith ready).ports.get x).home = true ∧ ((plantWith ready).ports.get x).shuttle = .homeEmpty
      ∧ ((plantWith ready).ports.get x).scan = none)
    ∧ move.phase = .waiting ∧ moveAnswer ((plantWith ready).geometry 0) ready 0 move.target =
      some { dir := .reverse, distance := 4, pathMax := 2880, cls := .normal }
    ∧ (plant .referencing none).groups.get 0 = some (crew .referencing none)
    ∧ ((plant .referencing none).channels.get 0).run = false ∧ ((driven (plant .referencing none)).channels.get 0).run = true
    ∧ (((plant .idle none).setPort 0 { atHome with home := false }).ports.get 0).home = false
    ∧ (jammed .start false).shuttle = .faulted ∧ (crew .moving (some 0)).state ≠ .referencing ∧ (crew .idle none).k = none
    ∧ (crew .idle (some 0)).current = none ∧ (scanned .audit []).scan ≠ none := by decide +kernel

theorem test_witness_RunRisesOnlyInOwnSlot : ((plantWith ready).channels.get 0).run = false
    ∧ (∃ t, exec (.startSlot 0) (plantWith ready) = .next t ∧ (t.channels.get 0).run = true)
    ∧ ∃ t, exec (.startSlot 0) (plant .referencing none) = .next t ∧ (t.channels.get 0).run = true :=
  ⟨by decide +kernel, answers _ _ (fun t => (t.channels.get 0).run) (by decide +kernel),
    answers _ _ (fun t => (t.channels.get 0).run) (by decide +kernel)⟩

/-- The travelling group at another offset, encoder count and stop. -/
def passing (k : Nat) (e : Int) (pause stop : Bool) : Group :=
  { travelling with
    k := some k, encoder := e, pausePending := pause
    current := some { move with phase := .travel, holdStop := stop } }

/-- With Ep = 512: counts 64 (recrossing), 65 and 447 (neither), -448 and -576 (a reverse pitch), 577, and 512 against DIR; HOME
at k' = 0 and away from it; the target reached, and each stop pending. -/
theorem test_witness_TravelMarksAndMoveEnd :
    (∀ e ∈ [(-64 : Int), 65, 447, -448, -576, 577, 512], ∀ k ∈ [1, 9, 11],
      (driven (plantWith (passing k e false false))).groups.get 0 = some (passing k e false false)
      ∧ k < ((driven (plantWith (passing k e false false))).geometry 0).carriers
      ∧ ((driven (plantWith (passing k e false false))).geometry 0).pulses = 512)
    ∧ ((driven online).channels.get 0).dir = .reverse
    ∧ (-64 : Int).natAbs ≤ 512 / 8 ∧ (512 / 8 < 65 ∧ 65 < 512 - 512 / 8) ∧ 447 < 512 - 512 / 8
    ∧ 512 - 512 / 8 ≤ (-448 : Int).natAbs ∧ (-576 : Int).natAbs ≤ 512 + 512 / 8 ∧ 512 + 512 / 8 < 577
    ∧ (1 + 12 - 1) % 12 = 0 ∧ (9 + 12 - 1) % 12 = move.target ∧ (11 + 12 - 1) % 12 ≠ move.target
    ∧ [StepRun.fresh, .oneWay .reverse].all (fun r => r == .fresh || r == .oneWay .reverse) = true
    ∧ StepRun.oneWay .forward ≠ .fresh ∧ StepRun.oneWay .forward ≠ .oneWay .reverse ∧ StepRun.broken ≠ .fresh
    ∧ (passing 9 (-512) true false).pausePending = true
    ∧ (passing 9 (-512) false true).current = some { move with phase := .travel, holdStop := true } := by decide +kernel

def referencing (marks : Nat) (e : Int) : Group :=
  { crew .referencing none with markCount := marks, encoder := e, stallTimer := some 20 }

/-- A revolution of 12 reverse steps ends at HOME, and a recrossing leaves the value out (R14). -/
theorem test_revolution :
    ((after (.carrierMark 0 true) (driven (plantWith { passing 1 (-512) false false with
      homeSteps := 11, homeDir := .oneWay .reverse }))).bind fun t => (t.groups.get 0).map (·.revolution)) = some 12
    ∧ ((after (.carrierMark 0 true) (driven (plantWith { passing 1 (-512) false false with
      homeSteps := 11, homeDir := .broken, revolution := 7 }))).bind fun t => (t.groups.get 0).map (·.revolution)) = some 7 := by
  decide +kernel

/-- HOME found active one carrier early: the step counts, the value is taken and the group faults (R14, R65). -/
theorem test_revolutionEarly :
    ((after (.carrierMark 0 true) (driven (plantWith { passing 2 (-512) false false with
      homeSteps := 10, homeDir := .oneWay .reverse, revolution := 12 }))).bind fun t =>
        (t.groups.get 0).map fun grp => (grp.revolution, grp.state)) = some (11, .faulted) := by decide +kernel

/-- A stationary group with counts 64 and 65, HOME agreeing and not; the states in which a mark is not acted on; a referencing run
at its first mark, at pitches of 447, 448, 576 and 577, at its 13th and 14th mark. -/
theorem test_witness_StationaryMarksPulsesAndSettling : online.groups.get 0 = none
    ∧ (∀ e ∈ [(64 : Int), 65], (plantWith { crew .idle (some 0) with encoder := e }).groups.get 0 =
      some { crew .idle (some 0) with encoder := e })
    ∧ (64 : Int).natAbs ≤ ((plant .idle (some 0)).geometry 0).pulses / 8
    ∧ ((plant .idle (some 0)).geometry 0).pulses / 8 < (65 : Int).natAbs
    ∧ (∀ st ∈ [GroupState.offline, .faulted, .paused, .referencing],
      (plant st none).groups.get 0 = some (crew st none) ∧ ((plant st none).channels.get 0).run = false)
    ∧ (∀ r ∈ [referencing 0 5, referencing 1 447, referencing 1 448, referencing 12 576, referencing 13 577],
      (driven (plantWith r)).groups.get 0 = some r) ∧ ((driven online).channels.get 0).run = true
    ∧ ((driven (plantWith (referencing 13 512))).geometry 0).carriers + 2 ≤ (referencing 13 512).markCount + 1
    ∧ (referencing 12 512).markCount + 1 < ((driven (plantWith (referencing 12 512))).geometry 0).carriers + 2 := by
  decide +kernel

def settlingGroup (pause : Bool) : Group :=
  { crew .moving (some 8) with
    current := some { move with phase := .settling }, settle := true, pausePending := pause }

def referenced : Group := { crew .referencing (some 0) with settle := true }

/-- Pulses in OFFLINE and outside; a move and a referencing run that settle, with and without a pause pending. -/
theorem test_witness_StationaryMarksPulsesAndSettling_settling : (plant .offline none).groups.get 0 = some (crew .offline none)
    ∧ (plantWith (settlingGroup false)).groups.get 0 = some (settlingGroup false)
    ∧ (plantWith (settlingGroup true)).groups.get 0 = some (settlingGroup true)
    ∧ (plantWith referenced).groups.get 0 = some referenced := by decide +kernel

theorem test_witness_GroupFaultTaken : online.groups.get 0 = none ∧ (plant .faulted none).groups.get 0 = some (crew .faulted none)
    ∧ (driven (plantWith travelling)).groups.get 0 = some travelling ∧ travelling.state ≠ .offline
    ∧ travelling.state ≠ .faulted ∧ travelling.stallTimer ≠ none ∧ online.link.sampled = true
    ∧ (∀ sc ∈ (scanning.ports.get 0).scan, sc.user = .audit) ∧ (scanning.ports.get 0).scan ≠ none
    ∧ (0 : Index) ∈ (crew .idle (some 2)).members ∧ (3 : Index) ∉ (crew .idle (some 2)).members
    ∧ (∀ sc ∈ ((checking true).ports.get 0).scan, sc.user ≠ .audit) := by decide +kernel

/-! ## Witnesses: the torque monitor -/

/-- The driven state while the engine measures group 0. -/
def measured (n : Nat) : State := (driven (plantWith { travelling with invalidCount := n })).setAudit
  { online.audit with engine := { measuring := some 0, last := 0 } }

/-- Duties on both ends of each range: 49, 50, 99, 100, 499, 500, 900, 901, 950 and 951; invalid counts 2 and 3. -/
theorem test_witness_TorqueMeasured : dutyOf 49 1000 = 49 ∧ dutyOf 951 1000 = 951
    ∧ [49, 50, 99, 100, 499, 500, 900, 901, 950, 951].map (torqueOf · 8000) =
      [none, some (-8000), some (-8000), some (-8000), some (-20), some 0, some 8000, some 8000, some 8000, none]
    ∧ (measured 2).audit.engine.measuring = some 0 ∧ (measured 2).groups.get 0 = some { travelling with invalidCount := 2 }
    ∧ (measured 3).groups.get 0 = some { travelling with invalidCount := 3 } ∧ ((measured 3).channels.get 0).run = true
    ∧ (measured 3).nextDriving 0 = some 0 ∧ online.nextDriving 0 = none ∧ online.audit.engine.measuring = none
    ∧ (((measured 3).setChannel 0 Channel.powerOn).channels.get 0).run = false := by decide +kernel

/-- Groups in a referencing run with RUN high, group 0 measured. -/
def driving (gs : List Index) : State := gs.foldl (fun s g => (s.setGroup g (some { crew .referencing none with
  members := [g] })).setChannel g { run := true, dir := .forward, speed := .creep, dflt := false }) (measured 0)

/-- R151: the next visit is of the next group above with RUN high, counted round; without one the group last visited stays. -/
theorem test_visits : (beginVisit (driving [0, 1, 3])).audit.engine = { measuring := some 1, last := 1 }
    ∧ (beginVisit (driving [0])).audit.engine = { measuring := some 0, last := 0 }
    ∧ (beginVisit ((measured 0).setChannel 0 Channel.powerOn)).audit.engine = { measuring := none, last := 0 } := by
  decide +kernel

/-- R151 (log 48): a line that falls beside the visit leaves it; the line of the group measured falling ends it; and of lines that
fall together none is visited. -/
theorem test_runFalls : (dropRun 3 (driving [0, 1, 3])).audit.engine = { measuring := some 0, last := 0 }
    ∧ (dropRun 0 (driving [0, 1, 3])).audit.engine = { measuring := some 1, last := 1 }
    ∧ (pauseAll (driving [0, 1, 3])).audit.engine = { measuring := none, last := 0 }
    ∧ (after .watchdogExpiry (driving [0, 1, 3])).map (·.audit.engine) = some { measuring := none, last := 0 } := by
  decide +kernel

/-- R9 (log 46): home taken inactive at a FAULTED port while RUN is high. -/
theorem test_interlockAtFault :
    ((judgeInterlock 0 .home false ((measured 0).setPort 0 Port.powerOn)).groups.get 0).map (·.cause) = some .interlock := by
  decide +kernel

/-- A group whose third deviant move ends. -/
def deviating (n out cmp : Nat) (auto : Bool) : Group :=
  { travelling with
    params := { params with autoAudit := auto }, deviant := n, outside := out, compared := cmp, moveMarks := 1
    lastSample := some 500 }

/-- A mark not compared for each reason, and compared; counters 1 and 2 before a deviant move, with and without auto-audit, one
sample outside, none compared. -/
theorem test_witness_TorqueSamplesCompared : (deviating 0 0 0 true).moveMarks ≠ 0
    ∧ (deviating 0 0 0 true).lastSample = some 500 ∧ travelling.moveMarks = 0 ∧ travelling.lastSample = none
    ∧ (∀ grp ∈ [deviating 1 2 3 true, deviating 2 2 3 true, deviating 2 2 3 false, deviating 2 1 3 true, deviating 2 0 0 true],
      (plantWith grp).groups.get 0 = some grp ∧ grp.members.Nodup ∧ grp.suspect = false
      ∧ grp.members.filter (fun x => !(plantWith grp).taskOpen x) = [0]) := by decide +kernel

/-! ## Witnesses: the ports -/

/-- A port before its first judgement, and inputs with no transfer under way while RUN is low and high. -/
theorem test_witness_PortInputsTaken_atRest : (State.reset.ports.get 0).awaitingRest = true
    ∧ ((plant .idle (some 0)).ports.get 0).awaitingRest = false ∧ ((plant .idle (some 0)).ports.get 0).job = none
    ∧ (plant .idle (some 0)).driving 0 = false ∧ (driven (plantWith travelling)).groupOf 0 = some 0
    ∧ ((driven (plantWith travelling)).channels.get 0).run = true ∧ ((driven (plantWith travelling)).ports.get 0).job = none := by
  decide +kernel

def reservedIn (ph : Phase) : Slot := { emptySlot with reservation := .inbound 0 0x00A1B702#32 220 ph }

/-- The wheel's store placed at A 6/0, carrier 6 at the port. -/
def storing (ld : Nat) : State :=
  (((plantWith { crew .idle (some 8) with params := { params with ld := ld } }).setSlot 0 6 0 (reservedIn .planned)).setStore 0
    (some placed)).setSched { online.sched with placedOrder := [0] }

/-- Gates that pass and that fail, for an insertion at carrier 6 and an extraction at carrier 0; a query above each limit. -/
theorem test_witness_TransfersStart : (∀ ld ∈ [6000, 1900],
      ((storing ld).ports.get 0).shuttle = .homeEmpty ∧ ((storing ld).ports.get 0).load = false
      ∧ ((storing ld).ports.get 0).scan = none ∧ (storing ld).stores.get 0 = some placed ∧ placed.state = .placed
      ∧ placed.chosen = some (6, 0) ∧ (storing ld).carrierAt 0 = some 6 ∧ (storing ld).slot? 0 6 0 = some (reservedIn .planned)
      ∧ (storing ld).groupOf 0 = some 0 ∧ ((storing ld).groups.get 0).isSome = true)
    ∧ gatePasses (storing 6000) 0 6 220 = true ∧ gatePasses (storing 1900) 0 6 220 = false
    ∧ (∀ ld ∈ [6000, 1900], ∀ s ∈ [picking { crew .idle (some 2) with params := { params with ld := ld } } .reserved],
      (s.ports.get 0).shuttle = .homeEmpty ∧ s.carrierAt 0 = some 0 ∧ s.slot? 0 0 0 = some (reservedOut .planned)
      ∧ s.groupOf 0 = some 0 ∧ (s.groups.get 0).isSome = true ∧ gatePasses s 0 0 (-220) = decide (ld = 6000))
    ∧ box.levelLimits.getD 3 0 < 301 ∧ 300 ≤ box.levelLimits.getD 3 0
    ∧ carrierLoad ((plant .idle (some 0)).carrierSlots 0 0) + 120 ≤ box.carrierLimit
    ∧ box.carrierLimit < carrierLoad ((plant .idle (some 0)).carrierSlots 0 0) + 121
    ∧ profile.length = ((plant .idle (some 0)).geometry 0).carriers := by decide +kernel

def job (carrier : Nat) : Job := { carrier := carrier, level := 0, leftHome := true }

def transferring (st : ShuttleState) (carrier : Nat) (extended load presence : Bool) : Port :=
  { atHome with
    home := false, extended := extended, load := load, presence := presence :: List.replicate 5 false, shuttle := st
    job := some (job carrier), transferTimer := some 8 }

def inserting (extended presence : Bool) : State :=
  ((storing 6000).setSlot 0 6 0 { reservedIn .started with counted := 220 }).setPort 0
    (transferring .inserting 6 extended true presence)

def extracting (load presence : Bool) : State :=
  ((picking (crew .idle (some 2)) .extracting).setSlot 0 0 0 { reservedOut .started with counted := 0 }).setPort 0
    (transferring .extracting 0 false load presence)

def noteB : Quad Bool := (Quad.fill false).set 1 true

/-- Carousels A and B in one group with carrier 6 at A's port, a transfer having started at the ports `started`; port B is at rest
again. -/
def besideStore (started : Quad Bool) : State :=
  ((storing 1900).setGroup 0 (some { crew .idle (some 8) with
    params := { params with ld := 1900 }, members := [0, 1], startedHere := started })).setPort 1 atHome

/-- The same beside a line at carrier 0, the transfer of port B under way. -/
def besidePick (st : LineState) : State :=
  (picking { crew .idle (some 2) with
    params := { params with ld := 1900 }, members := [0, 1], startedHere := noteB } st).setPort 1
    (transferring .extracting 0 false false true)

/-- R50, R51 (log 43): a transfer that fails its gate waits, and is reconsidered at once where one has started at another member
port at this arrival, ended or not; one that fails so again waits. -/
theorem test_failsSecond :
    ([Quad.fill false, (Quad.fill false).set 0 true, noteB].map fun q =>
        ((askInsertion 0 (besideStore q)).1.stores.get 0).map (·.cond)) =
      [some .balanceWait, some .balanceWait, some .reconsidered]
    ∧ ((askInsertion 0 ((besideStore noteB).setStore 0 (some { placed with cond := .reconsidered }))).1.stores.get 0).map
        (·.cond) = some .balanceWait
    ∧ ([.reserved, .balanceWait true].map fun st =>
        (askExtraction 0 77#32 1 0 0 (reservedOut .planned) (besidePick st)).findLine 77#32 1) =
      [some (line (.balanceWait true)), some (line (.balanceWait false))] := by decide +kernel

/-- R51 (log 43): a start is noted, and a group fault ends the note. -/
theorem test_startNoted :
    ((askInsertion 0 (storing 6000)).1.groups.get 0).map (·.startedHere) = some ((Quad.fill false).set 0 true)
    ∧ ((groupFault 0 .drive (besideStore noteB)).groups.get 0).map (·.startedHere) = some (Quad.fill false) := by
  decide +kernel

/-- A gate that fails beside another transfer and a second time; a port that is busy, a group that moves, HOLD, another carrier. -/
theorem test_witness_TransfersStart_notStarting :
    (∀ q ∈ [Quad.fill false, noteB], (besideStore q).groupOf 0 = some 0 ∧ (besideStore q).carrierAt 0 = some 6
      ∧ ((besideStore q).groups.get 0).map (fun grp => (grp.members, grp.startedHere)) = some ([0, 1], q)
      ∧ gatePasses (besideStore q) 0 6 220 = false ∧ (besideStore q).stores.get 0 = some placed)
    ∧ placed.cond ≠ .reconsidered ∧ noteB.get 1 = true
    ∧ ((besideStore noteB).setStore 0 (some { placed with cond := .reconsidered })).stores.get 0 =
      some { placed with cond := .reconsidered }
    ∧ (∀ st ∈ [.reserved, .balanceWait true], (besidePick st).findLine 77#32 1 = some (line st)
      ∧ (besidePick st).carrierAt 0 = some 0 ∧ gatePasses (besidePick st) 0 0 (-220) = false
      ∧ ((besidePick st).groups.get 0).map (·.startedHere) = some noteB)
    ∧ (((storing 6000).setPort 0 { atHome with load := true }).ports.get 0).load = true
    ∧ (scanning.ports.get 0).scan ≠ none ∧ (plant .moving (some 0)).carrierAt 0 = none
    ∧ ((storing 6000).setLink held.link).carrierAt 0 = none ∧ (plantWith (crew .idle (some 7))).carrierAt 0 = some 7 := by
  decide +kernel

/-- An input that does not complete the transfer under way: home lost, presence not yet there, the deck not yet loaded. -/
theorem test_witness_PortInputsTaken : ((inserting false false).ports.get 0).job = some (job 6)
    ∧ ((inserting false false).ports.get 0).shuttle = .inserting
    ∧ ((transferring .inserting 6 false true true).take .home false).home = false
    ∧ ((transferring .inserting 6 false true false).take .home true).presence.getD 0 false = false
    ∧ ((extracting false false).ports.get 0).shuttle = .extracting
    ∧ ((transferring .extracting 0 false false false).take .home true).load = false
    ∧ (inserting false false).driving 0 = false := by decide +kernel

/-- R83, R133: an insertion that begins raises its output, and a station fault stops the collector drive. -/
theorem test_outputs : ((askInsertion 0 (storing 6000)).1.ports.get 0).insertOut = true
    ∧ (after .collectorEntry online).map (fun t => t.station.drive) = some false := by decide +kernel

/-- Each transfer ended by the home input, the insertion also by the presence line, the extraction also by the load input. -/
theorem test_witness_TransfersComplete : ((inserting false true).ports.get 0).job = some (job 6)
    ∧ (inserting false true).stores.get 0 = some placed
    ∧ (inserting false true).slot? 0 6 0 = some { reservedIn .started with counted := 220 }
    ∧ (∀ q ∈ [(transferring .inserting 6 false true true).take .home true,
        ({ transferring .inserting 6 false true false with home := true } : Port).take (.presence 0) true],
      q.home = true ∧ q.extended = false ∧ q.presence.getD 0 false = true)
    ∧ (job 6).leftHome = true ∧ ((extracting true false).ports.get 0).job = some (job 0)
    ∧ (extracting true false).slot? 0 0 0 = some { reservedOut .started with counted := 0 }
    ∧ (∀ q ∈ [(transferring .extracting 0 false true false).take .home true,
        ({ transferring .extracting 0 false false false with home := true } : Port).take .load true],
      q.home = true ∧ q.extended = false ∧ q.presence.getD 0 false = false ∧ q.load = true) := by decide +kernel

def load : LoadRecord := { tag := 1#32, mass := 220, order := 77#32, line := 1 }

def loaded (st : ShuttleState) (t : Option Nat) : Port :=
  { atHome with load := true, shuttle := st, loadRec := some load, transferTimer := t }

def releasing : State :=
  ((withOrders [order .active [line .releasing]] (plant .idle (some 2))).setPort 0 (loaded .releasing (some 8))).setStation
    { online.station with releasePort := some 0 }

theorem test_witness_TransferJams : ((inserting true false).ports.get 0).transferTimer ≠ none
    ∧ ((inserting true false).ports.get 0).shuttle = .inserting ∧ ((extracting false true).ports.get 0).shuttle = .extracting
    ∧ ((extracting false true).ports.get 0).transferTimer ≠ none ∧ (releasing.ports.get 0).transferTimer ≠ none
    ∧ (releasing.ports.get 0).shuttle = .releasing ∧ (releasing.ports.get 0).loadRec = some load
    ∧ releasing.findLine 77#32 1 = some (line .releasing) ∧ (2 : Nat) ≠ 1 ∧ (78#32 : Id32) ≠ 77#32 := by decide +kernel

/-- Levels that stay open after an answer, the last one; a face check's one level, and one of a line withdrawn; a slot reserved so
and one that is not. -/
theorem test_witness_ScansAndFaceChecks : (scanning.ports.get 0).scan.isSome = true
    ∧ (∃ e ∈ named [some .noRead, some (.tag 2#32), none], e.report = none)
    ∧ (∀ e ∈ named [some .noRead, some (.tag 2#32), some .absent], e.report ≠ none)
    ∧ ((checking true).ports.get 0).scan =
      some { user := .faceCheck 77#32 1, carrier := 0, tags := true, levels := named [none] }
    ∧ ((after (.orderCancel [77#8, 0#8, 0#8, 0#8]) (checking true)).bind fun t => (t.ports.get 0).scan.map Scan.user) =
      some .withdrawn
    ∧ (checking false).slot? 0 0 0 = some (reservedOut .planned)
    ∧ (reservedOut .planned).reservation = .outbound 77#32 1 .planned ∧ (item 1#32 220).reservation = .none
    ∧ (2#32 : Id32) ≠ (reservedOut .planned).tag := by decide +kernel

/-! ## Witnesses: put-away -/

def infeed (i : Infeed) (r : StoreRecord) : State :=
  ((plant .idle (some 0)).setStore 0 (some r)).setPort 0 { atHome with infeed := some i }

/-- Readings of 1,000 and beyond, 999; the 31st and 32nd sample; spreads of 4 and 5; one and two weighings made; means of 0, 300
and 301. -/
theorem test_witness_InfeedTagAndWeighing : ((infeed .awaitTag wheel).ports.get 0).infeed = some .awaitTag
    ∧ (infeed .awaitTag wheel).stores.get 0 = some wheel ∧ (some 1#32 : Option Id32) ≠ some wheel.tag
    ∧ ((infeed (.weighing 31 9300 302 298) wheel).ports.get 0).infeed = some (.weighing 31 9300 302 298)
    ∧ min (1001 : Int).toNat 1000 = 1000 ∧ min (999 : Int).toNat 1000 ≠ 1000 ∧ (30 : Nat) ≠ 31
    ∧ max 302 300 - min 298 300 ≤ 4 ∧ 4 < max 303 300 - min 298 300 ∧ wheel.weighings < 2
    ∧ ({ wheel with weighings := 2 } : StoreRecord).weighings = 2 ∧ (0 + 0 + 16) / 32 = 0 ∧ (9300 + 300 + 16) / 32 = 300
    ∧ (plant .idle (some 0)).largestLimit 0 < (9320 + 300 + 16) / 32
    ∧ (9300 + 300 + 16) / 32 ≤ (plant .idle (some 0)).largestLimit 0 := by decide +kernel

def candidatesOf (cfg : CarouselConfig) (grp : Group) (m : Nat) : List Candidate :=
  candidates ((plantWith grp).setCarousel 0 { config := some cfg, map := stock .committed }) 0 0 grp cfg wheel m

/-- Section 6.6 with Lp 4,800; an Lp below every trial peak; a carrier limit below the mass; a mass above every level limit; each
reference offset; a set's carrier with its HELD item and with the store that reserves it, the hint's and another. -/
theorem test_witness_PlacementChoosesSlot : (plant .idle (some 0)).groupOf 0 = some 0
    ∧ (plant .idle (some 0)).groups.get 0 = some (crew .idle (some 0))
    ∧ (plant .idle (some 0)).slot? 0 11 3 = some emptySlot ∧ 300 ≤ box.levelLimits.getD 3 0
    ∧ (∃ c ∈ candidatesOf box (crew .idle (some 0)) 220, c.answer = .pass 3760
      ∧ ∀ d ∈ candidatesOf box (crew .idle (some 0)) 220, d.answer.passed.isSome = true → d = c ∨ lexLt c.key d.key = true)
    ∧ (∃ c ∈ candidatesOf box { crew .idle (some 0) with params := { params with lp := 100 } } 220, c.answer.isGate = true)
    ∧ (∀ c ∈ candidatesOf box { crew .idle (some 0) with params := { params with lp := 100 } } 220, c.answer.passed = none)
    ∧ candidatesOf { box with carrierLimit := 219 } (crew .idle (some 0)) 220 ≠ []
    ∧ (∀ c ∈ candidatesOf { box with carrierLimit := 219 } (crew .idle (some 0)) 220, c.answer = .limit)
    ∧ candidatesOf box (crew .idle (some 0)) 301 = []
    ∧ travelling.state = .moving ∧ travelling.current.map Move.target = some 8 ∧ (crew .idle (some 11)).k = some 11
    ∧ (crew .moving (some 9)).current = none ∧ (crew .referencing none).k = none ∧ 11 < box.geometry.carriers
    ∧ (wheel.setId ≠ 0#32 ∧ ∃ sl ∈ (plant .idle (some 0)).carrierSlots 0 3, sl.content = .held ∧ sl.setId = wheel.setId)
    ∧ (∃ sl ∈ (storing 6000).carrierSlots 0 6, sl.reservation = .inbound 0 0x00A1B702#32 220 .planned)
    ∧ (∀ sl ∈ (plant .idle (some 0)).carrierSlots 0 5, sl.setId ≠ wheel.setId ∧ sl.reservation = .none)
    ∧ ({ wheel with hint := some 5 } : StoreRecord).hint = some 5 ∧ ({ wheel with hint := none } : StoreRecord).hint ≠ some 5 := by
  decide +kernel

def storeRequest : StoreRequest :=
  { port := 0, tag := 0x00A1B702#32, declared := 1000, setId := 4410#32, member := 4, hint := 11 }

/-- The greatest values accepted; each refusal. -/
theorem test_witness_StoreOpensRecord : (plant .idle (some 0)).Listens ∧ (writeStore storeRequest).length = 13
    ∧ readStore (writeStore storeRequest) = storeRequest ∧ online.groupOf 0 = none
    ∧ ((plant .idle (some 0)).carousels.get 0).config ≠ none ∧ (plant .idle (some 0)).groupOf 0 = some 0
    ∧ (crew .paused none).state ≠ .idle ∧ (plant .idle (some 0)).carriersOf 0 = 12
    ∧ storeRequest.hint < (plant .idle (some 0)).carriersOf 0 ∧ (plant .idle (some 0)).stores.get 0 = none
    ∧ (storing 6000).stores.get 0 = some placed ∧ placed.state ≠ .done
    ∧ tagPlace (plant .idle (some 0)) 0x00A1B702#32 = none
    ∧ tagPlace (plant .idle (some 0)) 9#32 = some (.slot 0 7 2) := by
  refine ⟨listens rfl, ?_⟩
  decide +kernel

/-- Records free, in each state, and a second that reaches the patience and the largest count. -/
theorem test_witness_StoreEndsAndWaits : (storing 6000).Listens ∧ (plant .idle (some 0)).stores.get 0 = none
    ∧ (storing 6000).stores.get 0 = some placed
    ∧ (storing 6000).slot? 0 6 0 = some (reservedIn .planned)
    ∧ (∀ st ∈ [StoreState.weighing, .inserting, .done, .rejected .jam],
      ((storing 6000).setStore 0 (some { placed with state := st })).stores.get 0 = some { placed with state := st })
    ∧ (0xF#4).getLsbD (0 : Index).val = true ∧ (0x1#4).getLsbD (3 : Index).val = false
    ∧ 4 ≤ (4#8).toNat ∧ (storing 6000).station.settings.storePatience ≤ min (placed.waited.getD 0 + 1) 65535
    ∧ min (65535 + 1) 65535 = 65535 := by
  refine ⟨listens rfl, ?_⟩
  decide +kernel

/-! ## Witnesses: orders and the scheduler -/

def orderRequest (tags : List Id32) : OrderRequest := { id := 77#32, priority := 9, count := tags.length, tags := tags }

/-- Eight lines and one; every refusal: a tag 0, a full table, an id in use, a repeated, an unknown and a reserved tag. -/
theorem test_witness_OrderOpenReserves : (plant .idle (some 0)).Listens
    ∧ (∀ ts ∈ [[1#32], [1#32, 2#32, 3#32, 4#32, 5#32, 6#32, 7#32, 8#32]],
      (writeOrder (orderRequest ts)).length = 6 + 4 * ts.length ∧ readOrder (writeOrder (orderRequest ts)) = orderRequest ts
      ∧ ts.Nodup ∧ 0#32 ∉ ts ∧ ts.all (available (plant .idle (some 0))) = true)
    ∧ readOrder (writeOrder { orderRequest [1#32, 0#32] with count := 3 }) = { orderRequest [1#32, 0#32] with count := 3 }
    ∧ (plant .idle (some 0)).findOrder 77#32 = none ∧ none ∈ (plant .idle (some 0)).sched.orders
    ∧ none ∉ (withOrders (List.replicate 16 (order .complete [])) (plant .idle (some 0))).sched.orders
    ∧ ((withOrders [order .active []] (plant .idle (some 0))).findOrder 77#32).isSome = true
    ∧ (1#32 : Id32) ∈ [1#32, 2#32, 1#32].take 2 ∧ ([1#32, 2#32, 1#32].take 2 : List Id32).Nodup
    ∧ slotOf (plant .idle (some 0)) 99#32 = none ∧ slotOf (picking (crew .idle (some 0)) .reserved) 1#32 = some (0, 0, 0)
    ∧ available (picking (crew .idle (some 0)) .reserved) 1#32 = false := by
  refine ⟨listens rfl, ?_⟩
  decide +kernel

/-- A queued order of priority `p`, opened as number n. -/
def queued (id : Id32) (p n : Nat) : Order :=
  { order .queued [line .reserved] with id := id, priority := p, openSeq := n, actSeq := none, lane := none }

def queue : State := withOrders [queued 1#32 2 1, queued 2#32 1 3, queued 3#32 1 2] online

/-- Of three queued orders the third is first; no FREE lane; no queued order; an order judged in every state with its lines in
each of the states that decide. -/
theorem test_witness_OrdersActivateAndComplete : (0 : Index).val < queue.station.settings.laneCount
    ∧ (queue.station.lanes.get 0).state = .free ∧ queue.sched.orders[2]? = some (some (queued 3#32 1 2))
    ∧ (∀ o ∈ [queued 1#32 2 1, queued 2#32 1 3], 1 < o.priority ∨ (1 = o.priority ∧ 2 < o.openSeq))
    ∧ 1 = min (queue.sched.activationCounter + 1) 4294967295 ∧ 4294967295 = min (4294967295 + 1) 4294967295
    ∧ (∀ i : Index, ((Quad.fill { state := .filling, order := some 1#32, stack := [] } : Quad LaneRecord).get i).state ≠ .free)
    ∧ (∀ e ∈ online.sched.orders, e = none)
    ∧ (∀ o ∈ [order .active [line .arrived, line (.short .jam)], order .active [line .arrived, line .inTransit],
        order .complete [line .arrived], order .cancelling [line .inTransit], order .cancelling [line .withdrawn],
        order .cancelling [line .arrived, line .withdrawn], { order .cancelling [line .withdrawn] with lane := none }],
      (withOrders [o] online).findOrder o.id = some (0, o)) := by decide +kernel

/-- Orders in each state; a diversion with its head reject-bound and not; a face check for a line of the order. -/
theorem test_witness_OrderCancelled : online.Listens ∧ idAt [77#8, 0#8, 0#8, 0#8] 0 = 77#32
    ∧ online.findOrder 77#32 = none
    ∧ (∀ o ∈ [order .complete [line .arrived], queued 77#32 1 1,
        order .active [line .reserved, line (.balanceWait true), line .extracting, line .arrived]],
      (withOrders [o] online).findOrder 77#32 = some (0, o))
    ∧ (∀ l ∈ [line .inTransit, { line .inTransit with rejectBound := true }], ∀ s ∈
        [withOrders [order .active [l]] (diverting (.order 0))],
      s.station.diverter = .diverting (.order 0) ∧ s.station.collector = [carried]
      ∧ s.findLine carried.order carried.line = some l)
    ∧ (∀ i, (diverting .reject).station.diverter ≠ .diverting (.order i))
    ∧ (line .reserved).state.inSlot = true ∧ (line .reserved).carousel = 0
    ∧ ((checking true).ports.get 0).scan.map Scan.user = some (.faceCheck 77#32 1) := by
  refine ⟨listens rfl, ?_⟩
  decide +kernel

/-- The face check of a withdrawn line has no effect on a line re-opened under the same order id (R120, R121). -/
theorem test_withdrawnCheck : (((((after (.orderCancel [77#8, 0#8, 0#8, 0#8]) (checking true)).bind
      (after (.orderOpen (writeOrder (orderRequest [1#32]))))).bind (after (.faceTagAnswer 0 0 (some 9#32)))).bind fun t =>
        (t.findLine 77#32 1).map Line.state)) = some .reserved := by decide +kernel

/-- Two orders of group 0: line 1 of order 77 at carrier 0 whose pre-evaluation fails with Ld 1,900, and the store at carrier 6. -/
def choosing (ld : Nat) : State := withOrders [order .active [line .reserved]]
  (((storing 6000).setGroup 0 (some { crew .idle (some 0) with params := { params with ld := ld } })).setSlot 0 0 0
    (reservedOut .planned))

/-- An audit task of carousel A whose list holds carriers 0 and 1. -/
def audited (s : State) : State := s.setTask 0 (some
  { state := .running, origin := .host, check := .tag, selection := .span 0 2, generation := 1, list := [0, 1], findings := 0,
    scan := none })

/-- The choice with NEXT filled: the pick at carrier 0, its target 2. -/
def promoting (k : Nat) (ended : Bool) (ld : Nat) : State := (choosing ld).setGroup 0 (some { crew .idle (some k) with
  params := { params with ld := ld }
  next := some { target := 2, carrier := 0, task := .pick 77#32 1, ended := ended } })

/-- R72, R105 (log 42): a store withdrawn while NEXT holds its task ends that task. -/
theorem test_endedNext : ((after (.storeWithdraw [0#8]) ((choosing 6000).setGroup 0 (some { crew .moving (some 0) with
      next := some { target := 8, carrier := 6, task := .store 0, ended := false } }))).bind fun t =>
    (t.groups.get 0).bind fun grp => grp.next.map Target.ended) = some true := by decide +kernel

/-- Ports at rest and one at work; the three kinds of task at the carrier at the port; NEXT wanted, ended, at the target already,
and failing its pre-evaluation; a NEXT choice written, and held back by CURRENT's target and by NEXT itself. -/
theorem test_witness_TurnStartsPromotesAndChooses : (choosing 6000).link.mode = .normal
    ∧ (choosing 6000).groups.get 0 = some (crew .idle (some 0)) ∧ (driven (plantWith travelling)).groups.get 0 = some travelling
    ∧ (inserting false false).carrierAt 0 = some 6 ∧ ((inserting false false).ports.get 0).shuttle ≠ .homeEmpty
    ∧ (storing 6000).carrierAt 0 = some 6 ∧ (usableTasks (storing 6000) 0).map TaskItem.task = [.store 0]
    ∧ (picking (crew .idle (some 2)) .reserved).carrierAt 0 = some 0
    ∧ (usableTasks (picking (crew .idle (some 2)) .reserved) 0).map TaskItem.task = [.pick 77#32 1]
    ∧ (usableTasks (audited (plant .idle (some 2))) 0).map (fun t => (t.task, t.carrier)) = [(.audit 0, 0)]
    ∧ (promoting 0 false 6000).groups.get 0 = some { crew .idle (some 0) with
        next := some { target := 2, carrier := 0, task := .pick 77#32 1, ended := false } }
    ∧ stillWanted (promoting 0 false 6000) 0 (crew .idle (some 0))
        { target := 2, carrier := 0, task := .pick 77#32 1, ended := false } = true
    ∧ stillWanted (promoting 0 true 6000) 0 (crew .idle (some 0))
        { target := 2, carrier := 0, task := .pick 77#32 1, ended := true } = false
    ∧ stillWanted (promoting 2 false 6000) 0 (crew .idle (some 2))
        { target := 2, carrier := 0, task := .pick 77#32 1, ended := false } = false
    ∧ preEvaluates (promoting 0 false 6000) 0 (.pick 77#32 1) 0 = true
    ∧ preEvaluates (promoting 0 false 1900) 0 (.pick 77#32 1) 0 = false
    ∧ ((choosing 6000).geometry 0).targetOf 0 = 2 := by decide +kernel

/-- The first of two tasks passes; with a smaller Ld neither does; a store with its measured mass, a line with its slot; an
audit record in one state and gone in the next, which makes a turn due. -/
theorem test_witness_TurnOffersBestTask : held.link.mode = .hold ∧ (crew .paused none).state ≠ .idle
    ∧ (choosing 6000).groups.get 0 = some (crew .idle (some 0))
    ∧ ((usableTasks (choosing 6000) 0).filter fun u => u.carrier != ((choosing 6000).geometry 0).atPort 0).map (·.task) =
      [.pick 77#32 1, .store 0]
    ∧ preEvaluates (choosing 6000) 0 (.pick 77#32 1) 0 = true ∧ preEvaluates (choosing 1900) 0 (.pick 77#32 1) 0 = false
    ∧ preEvaluates (choosing 2880) 0 (.store 0) 6 = true
    ∧ (choosing 6000).stores.get 0 = some placed ∧ placed.measured = some 220
    ∧ (choosing 6000).findLine 77#32 1 = some (line .reserved) ∧ (choosing 6000).slot? 0 0 0 = some (reservedOut .planned)
    ∧ (choosing 6000).link.sampled = true ∧ travelling.current.map Move.target = some 8
    ∧ (∀ x : Index, ((audited (choosing 6000)).audit.tasks.get x).isSome = (x == 0) ∧ (choosing 6000).audit.tasks.get x = none)
    ∧ dueTurns [] (audited (choosing 6000)) (choosing 6000) = [0]
    ∧ (moveAnswer ((choosing 6000).geometry 0) (crew .idle (some 0)) 0 (((choosing 6000).geometry 0).targetOf 0)).isSome = true
    := by decide +kernel

/-- Orders 77 and 78 in a state, each with its line of carousel A. -/
def twoOrders (st : OrderState) : State :=
  withOrders [order st [line .reserved], { order st [line .reserved] with id := 78#32 }] (choosing 6000)

/-- R115, R116: each pick that an activation made eligible, a pick reconsidered, an audit task gone and a store's mark are one
task change each; no change at all and a change of the station's are none. A freed port that the command names counts once. -/
theorem test_taskChanges : taskChanges (twoOrders .queued) (twoOrders .active) 0 = 2
    ∧ taskChanges ((choosing 6000).setLine 77#32 1 (.balanceWait false)) ((choosing 6000).setLine 77#32 1 (.balanceWait true)) 0 = 1
    ∧ taskChanges (audited (choosing 6000)) (choosing 6000) 0 = 1
    ∧ taskChanges (choosing 6000) ((choosing 6000).setStore 0 (some { placed with cond := .balanceWait })) 0 = 1
    ∧ taskChanges (choosing 6000) (choosing 6000) 0 = 0
    ∧ taskChanges (choosing 6000) ((choosing 6000).setStation { online.station with paused := true }) 0 = 0
    ∧ dueTurns [] ((choosing 6000).setPort 0 (jammed .start false)) (choosing 6000) = [0]
    ∧ dueTurns [0] ((choosing 6000).setPort 0 (jammed .start false)) (choosing 6000) = [0] := by decide +kernel

/-- The carriers of group 0's CURRENT and NEXT. -/
def slotted (s : State) : Option (Option Nat × Option Nat) :=
  (s.groups.get 0).map fun grp => (grp.current.map Move.carrier, grp.next.map Target.carrier)

/-- R116: each of several events gives a turn: the first fills CURRENT with the pick, a second writes the store to NEXT. -/
theorem test_turnPerEvent : slotted (giveTurns [0] (choosing 6000) (choosing 6000)) = some (some 0, none)
    ∧ slotted (giveTurns [0, 0] (choosing 6000) (choosing 6000)) = some (some 0, some 6) := by decide +kernel

/-! ## Witnesses: the station -/

/-- A deck at port 0 with the line of an order, and what the reject lane and the collector hold. -/
def deck (o : Order) (rejects : List RejectItem) (items : List CollectorItem) : State :=
  ((withOrders [o] (plant .idle (some 2))).setPort 0 (loaded .homeLoaded none)).setStation
    { online.station with reject := rejects, collector := items }

def rejectBound : Line := { line .onShuttle with rejectBound := true }

/-- The sequence rule for a lone line; the reject rule with 7 items in the lane, and 8. -/
theorem test_witness_MergeGateGrants : (∀ p, claimAt online p = none)
    ∧ claimAt (deck (order .active [line .onShuttle]) [] []) 0 = some { port := 0, load := load, key := [1, 1, 0, 1, 0] }
    ∧ (∀ p : Index, p ≠ 0 → claimAt (deck (order .active [line .onShuttle]) [] []) p = none)
    ∧ (claimAt (deck (order .cancelling [rejectBound]) (List.replicate 7 { tag := 2#32, order := 5#32 }) []) 0).isSome = true
    ∧ claimAt (deck (order .cancelling [rejectBound]) (List.replicate 8 { tag := 2#32, order := 5#32 }) []) 0 = none
    ∧ releasing.station.releasePort ≠ none ∧ (faultedStation none).station.fault ≠ none
    ∧ ((deck (order .active [line .onShuttle]) [] []).setPort 0 (loaded .faulted none)).ports.get 0 = loaded .faulted none
    ∧ (loaded .faulted none).loadRec ≠ none ∧ atHome.loadRec = none
    ∧ (deck (order .active [line .onShuttle]) [] []).station.releasePort = none
    ∧ (deck (order .active [line .onShuttle]) [] []).station.paused = false := by decide +kernel

/-- A release on an empty collector and on one with 9 entries, H being 10; counts of H and of L, paused; a stray entry first and
later; a fault with and without a diversion. -/
theorem test_witness_CollectorEntriesAndFaults : releasing.station.releasePort = some 0
    ∧ (releasing.ports.get 0).loadRec = some load ∧ releasing.station.collector = []
    ∧ releasing.station.settings.high = 9 + 1
    ∧ online.station.settings.high ≤ (List.replicate 10 carried).length
    ∧ (List.replicate 9 carried).length < online.station.settings.high
    ∧ (List.replicate 6 carried).length ≤ online.station.settings.low
    ∧ online.station.settings.low < (List.replicate 7 carried).length ∧ online.station.releasePort = none ∧ online.station.fault = none
    ∧ (faultedStation none).station.releasePort = none
    ∧ (diverting .reject).station.diverter = .diverting .reject ∧ (diverting .reject).station.collector = [carried] := by
  decide +kernel

/-- The next diversion with 7 and with 8 items in the reject lane, to each kind of lane; arrivals where expected and not. -/
theorem test_witness_DiversionsAndLaneEntries : (∀ d, online.station.diverter ≠ .diverting d)
    ∧ online.station.collector = [] ∧ (faultedStation none).station.collector ≠ [] ∧ (faultedStation none).station.fault ≠ none
    ∧ (deck (order .active [line .inTransit]) (List.replicate 7 { tag := 2#32, order := 5#32 }) [carried]).station.reject.length < 8
    ∧ 8 ≤ (List.replicate 8 ({ tag := 2#32, order := 5#32 } : RejectItem)).length
    ∧ (deck (order .active [line .inTransit]) [] [carried]).station.collector = [carried]
    ∧ (deck (order .active [line .inTransit]) [] [carried]).findOrder 77#32 = some (0, order .active [line .inTransit])
    ∧ (order .active [line .inTransit]).line? 1 = some (line .inTransit)
    ∧ (order .active [line .inTransit]).lane = some 0 ∧ rejectBound.rejectBound = true
    ∧ (diverting (.order 0)).station.diverter = .diverting (.order 0) ∧ (diverting (.order 0)).station.fault = none
    ∧ (diverting (.order 0)).station.diverter ≠ .diverting .reject ∧ (diverting .reject).station.diversionTimer ≠ none := by
  refine ⟨fun d h => (by cases h), ?_⟩
  decide +kernel

def lanes (st : LaneState) : State :=
  (withOrders [order .complete [line .arrived]] online).setStation { online.station with
    lanes := online.station.lanes.set 0
      { state := st, order := if st = .free then none else some 77#32, stack := [{ tag := 1#32, line := 1 }] } }

/-- The lane values beside 1 to 5, a lane in each state; the settings at the ends of their ranges. -/
theorem test_witness_LanesAndSettings : online.Listens ∧ 5 < (6#8).toNat
    ∧ (∀ st ∈ [LaneState.free, .filling, .complete, .heldCancelled], ((lanes st).station.lanes.get 0).state = st)
    ∧ ((lanes .complete).station.lanes.get 0).order = some 77#32
    ∧ (∀ r ∈ [({ transferTimeout := 2, massTolerance := 0, storePatience := 10, laneCount := 1, high := 2, low := 1 } : Settings),
        { transferTimeout := 30, massTolerance := 100, storePatience := 300, laneCount := 4, high := 12, low := 11 },
        { transferTimeout := 31, massTolerance := 101, storePatience := 301, laneCount := 5, high := 13, low := 13 }],
      (writeSettings r).length = 7 ∧ readSettings (writeSettings r) = r) := by
  refine ⟨listens rfl, ?_⟩
  decide +kernel

/-! ## Witnesses: the audit unit -/

def auditTask (st : AuditState) (origin : Origin) (scan : Option Nat) : AuditTask where
  state := st
  origin := origin
  check := .tag
  selection := .span 0 2
  generation := 1
  list := [0, 1]
  findings := 0
  scan := scan

def auditing (t : AuditTask) (s : State) : State := s.setAudit { s.audit with tasks := s.audit.tasks.set 0 (some t) }

/-- Requests at both ends of each field; each kind of task to stop. -/
theorem test_witness_AuditTasksStartAndStop : (plant .idle (some 0)).Listens
    ∧ (∀ r ∈ [({ carousel := 0, selection := 0, first := 11, count := 255, check := 1 } : AuditRequest),
        { carousel := 0, selection := 0, first := 12, count := 1, check := 0 },
        { carousel := 0, selection := 1, first := 0, count := 1, check := 0 },
        { carousel := 0, selection := 2, first := 0, count := 0, check := 2 }],
      (writeAudit r).length = 5 ∧ readAudit (writeAudit r) = r)
    ∧ 4 ≤ byteAt [4#8] 0
    ∧ (plant .idle (some 0)).serviceGroup 0 ≠ none ∧ online.serviceGroup 0 = none
    ∧ (plant .idle (some 0)).carriersOf 0 = 12 ∧ (plant .idle (some 0)).taskOpen 0 = false
    ∧ 4294967295 = min (4294967295 + 1) 4294967295
    ∧ (auditing (auditTask .running .host none) (plant .idle (some 0))).taskOpen 0 = true
    ∧ (plant .idle (some 0)).audit.tasks.get 0 = none
    ∧ (∀ t ∈ [auditTask .done .host none, auditTask .heldLog .auto none, auditTask .running .host none,
        auditTask .running .auto (some 0)],
      (auditing t scanning).audit.tasks.get 0 = some t)
    ∧ ((auditing (auditTask .running .auto (some 0)) scanning).ports.get 0).scan =
      some { user := .audit, carrier := 0, tags := true, levels := named [some .noRead, none, none] } := by
  refine ⟨listens rfl, ?_⟩
  decide +kernel

/-- R140 (log 26): an OLDEST list begins with the carriers of lowest stamp, the lower index first among equal ones; R139: the
greatest generation stays. -/
theorem test_oldest :
    selectionList ((plant .idle (some 0)).setCarousel 0 { config := some box, map := { stock .committed with
        carriers := (List.range 12).map fun c =>
          [{ emptySlot with stamp := 9 }, { emptySlot with stamp := if c = 9 then 4 else if c = 7 then 3 else 6 }] } })
      0 (.oldest 4) = [7, 9, 0, 1]
    ∧ (after (.auditStart (writeAudit { carousel := 0, selection := 1, first := 0, count := 1, check := 0 }))
        ((plant .idle (some 0)).setAudit { online.audit with generation := 4294967295 })).map (·.audit.generation) =
      some 4294967295 := by decide +kernel

def entry (n : Nat) : LogEntry where
  number := n
  carousel := 0
  carrier := 0
  level := 0
  kind := .missing
  recordedTag := some 1#32
  readTag := none
  generation := 1

def logged (n : Nat) (s : State) : State := s.setAudit { s.audit with log := (List.range n).map entry }

theorem test_witness_LogReadConsumes : (logged 3 (auditing (auditTask .heldLog .host none) online)).Listens
    ∧ (logged 3 online).audit.log.length = 3 ∧ (logged 3 online).audit.log.length < (4#8).toNat ∧ 32 < (33#8).toNat
    ∧ (3#8).toNat ≤ (logged 3 online).audit.log.length ∧ (8#8).toNat ≤ 8 ∧ 8 < (9#8).toNat := by
  refine ⟨listens rfl, ?_⟩
  decide +kernel

/-- The face of carrier 0 with its second wheel missing and its third another one. -/
def face : Scan where
  user := .audit
  carrier := 0
  tags := true
  levels := named [some (.tag 1#32), some .absent, some (.tag 9#32), some (.tag 4#32)]

/-- Group 0 with the watch of an automatic audit. -/
def watched (carousels : List Index) (spoiled : Bool) : Group :=
  { crew .idle (some 2) with suspect := true, deviant := 3, watch := some { carousels := carousels, spoiled := spoiled } }

/-- Two mismatches against a log with room for one and for two; watches of one and of two carousels, spoiled and not. -/
theorem test_witness_ScanComparedWithRecords :
    (auditing (auditTask .running .host (some 0)) (plant .idle (some 2))).audit.tasks.get 0 =
      some (auditTask .running .host (some 0))
    ∧ ((judgeScan (auditing (auditTask .running .host (some 0)) (plant .idle (some 2))) 0 .tag face).filter
        Judged.isMismatch).length = 2
    ∧ 32 - (logged 31 online).audit.log.length < 2 ∧ 2 ≤ 32 - (logged 30 online).audit.log.length
    ∧ (face.levels.map LevelEntry.level).Nodup ∧ 4 ∉ face.levels.map LevelEntry.level
    ∧ (∀ grp ∈ [watched [0] false, watched [0] true, watched [0, 1] false, watched [1] false, crew .idle (some 2)],
      (plantWith grp).groupOf 0 = some 0 ∧ (plantWith grp).groups.get 0 = some grp) ∧ online.groupOf 0 = none
    ∧ (crew .idle (some 2)).watch = none ∧ online.link.sampled = true
    ∧ (plant .idle (some 2)).slot? 0 0 1 = some (item 2#32 220) := by decide +kernel

/-- The entry of the missing wheel, and of the wrong one (R146); both lose their CLEAR, and the flag is set. -/
theorem test_entries :
    (auditComparison 0 face (auditing (auditTask .running .host (some 0)) (plant .idle (some 2)))).audit.log =
      [{ number := 1, carousel := 0, carrier := 0, level := 1, kind := .missing, recordedTag := some 2#32, readTag := none,
         generation := 1 },
       { number := 2, carousel := 0, carrier := 0, level := 2, kind := .wrongTag, recordedTag := some 3#32,
         readTag := some 9#32, generation := 1 }]
    ∧ (auditComparison 0 face (auditing (auditTask .running .host (some 0)) (plant .idle (some 2)))).flagSet .discrepancy
      = true := by decide +kernel

/-! ## Witnesses: what every step keeps -/

/-- The next state of a step, as a computation. -/
def stepped (s : State) : Option State :=
  match step s with
  | .next t => some t
  | _ => none

theorem steps (s : State) (h : (stepped s).isSome = true) : ∃ t, step s = .next t := by
  unfold stepped at h
  split at h
  · next t e => exact ⟨t, e⟩
  · cases h

/-- A part in the middle of a move, with a request to pause the group next. -/
def midway : State := { (driven (plantWith travelling)).setAudit
    { online.audit with engine := { measuring := some 0, last := 0 } } with
  ports := (Quad.fill Port.powerOn).set 0 atHome
  pending := [.pause false [0#8]] }


theorem midway_steps : ∃ t, step midway = .next t := steps _ (by decide +kernel)

theorem midway_groups {g : Index} {grp : Group} (h : midway.groups.get g = some grp) : g = 0 ∧ grp = travelling := by
  fin_cases g
  · exact ⟨rfl, (Option.some.inj h).symm⟩
  all_goals cases h

theorem midway_stores (p : Index) : midway.stores.get p = none := by
  fin_cases p <;> rfl

theorem test_witness_StepKeepsLinkSound : LinkInv midway.link ∧ CounterInv midway ∧ ∃ t, step midway = .next t := by
  refine ⟨?_, ?_, midway_steps⟩
  · exact ⟨by decide, fun _ => rfl, fun h => (by cases h), fun _ => ⟨fun h => (by cases h), fun ⟨_, h⟩ => (by cases h)⟩,
      fun _ h => (by cases h), rfl⟩
  · refine ⟨by decide +kernel, by decide +kernel, by decide +kernel, by decide +kernel, by decide +kernel,
      fun _ h => (by cases h), fun p _ h => ?_, fun g grp h => ?_, fun g grp h => ?_, fun g grp h => ?_⟩
    · rw [midway_stores p] at h
      cases h
    all_goals
      obtain ⟨rfl, rfl⟩ := midway_groups h
      decide +kernel

theorem test_witness_StepKeepsDriveSound : DriveInv midway ∧ ∃ t, step midway = .next t := by
  refine ⟨⟨fun g h => ?_, fun g h => ?_, fun g grp h => ?_, fun g h a b x ha hb _ _ => ?_, fun g h => ?_, fun h => ?_⟩,
    midway_steps⟩
  · fin_cases g
    · cases h
    all_goals exact ⟨rfl, rfl⟩
  · fin_cases g
    · cases h
    all_goals rfl
  · obtain ⟨rfl, rfl⟩ := midway_groups h
    constructor <;> simp [travelling, crew, Group.fresh, midway, driven, State.setAudit, Quad.get, Quad.set]
  · rw [(midway_groups ha).1, (midway_groups hb).1]
  · obtain rfl : (0 : Index) = g := Option.some.inj h
    rfl
  · cases h

theorem test_witness_StepKeepsPortsSound : PortInv midway ∧ ∃ t, step midway = .next t := by
  refine ⟨⟨fun p => ?_, fun p => ?_⟩, midway_steps⟩
  · fin_cases p <;> constructor <;> decide +kernel
  · fin_cases p <;> exact ⟨fun h => (by cases h), fun h => (by cases h)⟩

theorem test_witness_StepKeepsStationSound : StationInv (diverting .reject).station
    ∧ ∃ t, step { diverting .reject with pending := [.laneEntry .reject] } = .next t := by
  refine ⟨⟨by decide +kernel, by decide +kernel, by decide +kernel, by decide +kernel, by decide +kernel, by decide +kernel,
    fun d h => ?_, by decide +kernel, by decide +kernel, by decide +kernel, fun _ h => (by cases h)⟩, steps _ (by decide +kernel)⟩
  cases h
  rfl

theorem profileHalf : HalfLoop 12 profile := ⟨rfl, by decide⟩

theorem test_witness_StepKeepsProfilesBalanced : BalanceInv midway ∧ ∃ t, step midway = .next t := by
  refine ⟨⟨fun g h a b x ha hb _ _ => ?_, fun x cfg h => ?_, fun g grp h => ?_, fun g grp h => ?_, fun g grp h => ?_,
    fun g grp h => ?_⟩, midway_steps⟩
  · rw [(midway_groups ha).1, (midway_groups hb).1]
  · fin_cases x
    · obtain rfl : box = cfg := Option.some.inj h
      exact boxSound
    all_goals cases h
  · obtain ⟨rfl, rfl⟩ := midway_groups h
    decide +kernel
  · obtain ⟨rfl, rfl⟩ := midway_groups h
    exact profileHalf
  · obtain ⟨rfl, rfl⟩ := midway_groups h
    exact profileHalf
  · obtain ⟨rfl, rfl⟩ := midway_groups h
    intro h
    cases h

/-- The wheel's store waits at the infeed with A 6/0 reserved for it and counted in P, and is withdrawn next. -/
def reserving : State := { (((plantWith { crew .idle (some 8) with
      planned := addProfile profile (massProfile box.geometry 6 220) }).setSlot 0 6 0 (reservedIn .planned)).setStore 0
    (some placed)).setSched { online.sched with placedOrder := [0] } with pending := [.storeWithdraw [0#8]] }

theorem slotSound_plain {sl : Slot} (hr : sl.reservation = .none) (hc : sl.condition = .clear)
    (hm : sl.counted = sl.recorded) (he : sl.content = .empty → sl.counted = 0) : SlotSound sl where
  free _ h := he h
  stocked _ _ _ := hm
  incoming _ _ _ h := by rw [hr] at h; cases h
  inserting _ _ _ h := by rw [hr] at h; cases h
  outgoing _ _ h := by rw [hr] at h; cases h
  extracting _ _ h := by rw [hr] at h; cases h
  trusted h := absurd hc h
  blocked h := by rw [hc] at h; cases h

theorem reservedIn_sound : SlotSound (reservedIn .planned) where
  free h := by cases h
  stocked h := by cases h
  incoming _ _ _ _ := ⟨rfl, rfl⟩
  inserting _ _ _ h := by cases h
  outgoing _ _ h := by cases h
  extracting _ _ h := by cases h
  trusted h := absurd rfl h
  blocked h := by cases h

theorem reserving_groups {g : Index} {grp : Group} (h : reserving.groups.get g = some grp) :
    g = 0 ∧ grp = { crew .idle (some 8) with planned := addProfile profile (massProfile box.geometry 6 220) } := by
  fin_cases g
  · exact ⟨rfl, (Option.some.inj h).symm⟩
  all_goals cases h

theorem reserving_balance : BalanceInv reserving := by
  refine ⟨fun g h a b x ha hb _ _ => ?_, fun x cfg h => ?_, fun g grp h => ?_, fun g grp h => ?_, fun g grp h => ?_,
    fun g grp h => ?_⟩
  · rw [(reserving_groups ha).1, (reserving_groups hb).1]
  · fin_cases x
    · obtain rfl : box = cfg := Option.some.inj h
      exact boxSound
    all_goals cases h
  · obtain ⟨rfl, rfl⟩ := reserving_groups h
    decide +kernel
  · obtain ⟨rfl, rfl⟩ := reserving_groups h
    exact profileHalf
  · obtain ⟨rfl, rfl⟩ := reserving_groups h
    exact ⟨by decide +kernel, by decide +kernel⟩
  · obtain ⟨rfl, rfl⟩ := reserving_groups h
    intro h
    cases h

theorem reserving_stock : StockSound reserving where
  members g grp h := by
    obtain ⟨rfl, rfl⟩ := reserving_groups h
    decide
  slots x _ e he := by
    have h : ∀ x : Index, ∀ e ∈ (reserving.carousels.get x).map.walk, e.2.2 = reservedIn .planned ∨
        (e.2.2.reservation = .none ∧ e.2.2.condition = .clear ∧ e.2.2.counted = e.2.2.recorded
          ∧ (e.2.2.content = .empty → e.2.2.counted = 0)) := by decide +kernel
    rcases h x e he with h | ⟨hr, hc, hm, h0⟩
    · rw [h]
      exact reservedIn_sound
    · exact slotSound_plain hr hc hm h0
  quiet x h e he := by
    fin_cases x
    · exact absurd h (by decide +kernel)
    all_goals cases he
  serving x h := by
    fin_cases x
    · decide +kernel
    all_goals exact absurd (by decide +kernel) h
  infeed p h := by
    fin_cases p <;> exact absurd rfl h
  store p h := by
    fin_cases p <;> cases h
  inserting p _ h := by
    fin_cases p <;> cases h
  extracting p _ h := by
    fin_cases p <;> cases h

theorem test_witness_StepKeepsStockAndTagLaw : BalanceInv reserving ∧ StockSound reserving ∧ TagLaw reserving
    ∧ ∃ t, step reserving = .next t :=
  ⟨reserving_balance, reserving_stock, by unfold TagLaw; decide +kernel, steps _ (by decide +kernel)⟩

theorem test_witness_StepKeepsProfilesDefined : BalanceInv reserving ∧ StockSound reserving ∧ ProfilesDefined reserving
    ∧ ∃ t, step reserving = .next t := by
  refine ⟨reserving_balance, reserving_stock, fun g grp h _ => ?_, steps _ (by decide +kernel)⟩
  obtain ⟨rfl, rfl⟩ := reserving_groups h
  decide +kernel

/-- R175: byte 19 of section 0, the release port, is 0xFF with port A in release; FAULTED with that release it is 0. -/
theorem test_releasePortShown : (stationBytes releasing.station)[19]? = some 0xFF#8
    ∧ (stationBytes { releasing.station with fault := (faultedStation none).station.fault })[19]? = some 0#8 := by
  decide +kernel

/-- Every field at the greatest value it can carry. -/
theorem test_witness_PayloadsLaidOut :
    readLink (writeLink { code := 255, mask := 65535 }) = { code := 255, mask := 65535 }
    ∧ (∀ l ∈ ({ boxRequest with limit5 := 65535 } : CarouselRequest).limits, l < 65536)
    ∧ readImages (images { lastImage with tag := 0xFFFFFFFF#32, member := 255, mass := 65535 }) =
      [lastImage, { lastImage with tag := 0xFFFFFFFF#32, member := 255, mass := 65535 }]
    ∧ (crewRequest.group < 256 ∧ crewRequest.ld < 4294967296)
    ∧ (orderRequest [1#32]).priority < 256
    ∧ (withOrders [order .active [line .reserved]] online).findOrder 77#32 = some (0, order .active [line .reserved])
    := by decide +kernel

end Sys2Proof.Tests
end

/-! SUPPORT. CONTINUE of one group and of all groups (R21, R69): what it does to a group's record, whose turn it makes due, and
the answer. -/

namespace Sys2Proof.Machine

open Sys2Proof

variable {s : State} {g : Index} {grp : Group}

/-! ## Requests that name one group (R8, R19) -/

@[simp] theorem indexOf_val (g : Index) : indexOf g.val = some g := dif_pos g.isLt

@[simp] theorem byteAt_ofNat_index (g : Index) : byteAt [BitVec.ofNat 8 g.val] 0 = g.val := by
  have hlt : g.val < 256 := by omega
  simpa [byteAt] using hlt

/-- A group's index is never the 0xFF that names all groups. -/
theorem index_val_ne_allGroups (g : Index) : g.val ≠ 0xFF := by omega

theorem withGroup_val (hg : s.groups.get g = some grp) (body : Index → Group → State × Answer) :
    withGroup g.val s body = body g grp := by
  simp [withGroup, hg]

/-! ## One change made at every group of a list -/

theorem modGroup_of_get (hg : s.groups.get g = some grp) (f : Group → Group) :
    s.modGroup g f = s.setGroup g (some (f grp)) := by
  simp [State.modGroup, hg]

/-- A change made at one group after the other touches the groups only. -/
theorem foldl_modGroup (f : Group → Group) (gs : List Index) (s : State) :
    gs.foldl (fun s g => s.modGroup g f) s
      = { s with groups := gs.foldl (fun q g => q.set g ((q.get g).map f)) s.groups } := by
  induction gs generalizing s with
  | nil => rfl
  | cons g gs ih => rw [List.foldl_cons, ih, modGroup_eq, List.foldl_cons]

theorem foldl_modGroup_allIndices (f : Group → Group) (s : State) :
    allIndices.foldl (fun s g => s.modGroup g f) s = { s with groups := s.groups.map (Option.map f) } :=
  foldl_modGroup f allIndices s

/-! ## CONTINUE at one group (R21, R69) -/

theorem continued_of_paused_valid (hst : grp.state = .paused) (hk : grp.k ≠ none) :
    grp.continued = { grp with state := .idle } := by
  obtain ⟨k, hk⟩ := Option.ne_none_iff_exists'.mp hk
  simp [Group.continued, hst, hk]

theorem continued_of_paused_invalid (hst : grp.state = .paused) (hk : grp.k = none) :
    grp.continued = { grp with state := .referencing, markCount := 0 } := by
  simp [Group.continued, hst, hk]

theorem continued_of_moving (hst : grp.state = .moving) : grp.continued = { grp with pausePending := false } := by
  simp [Group.continued, hst]

theorem continued_of_other (hp : grp.state ≠ .paused) (hm : grp.state ≠ .moving) : grp.continued = grp := by
  unfold Group.continued
  split
  case h_1 hst => exact absurd hst hp
  case h_2 hst => exact absurd hst hm
  case h_3 => rfl

theorem continues_iff :
    grp.continues = true ↔ grp.state = .paused ∨ (grp.state = .moving ∧ grp.pausePending = true) := by
  simp [Group.continues]

/-- Whether CONTINUE brings a group to IDLE depends on its own record only. -/
theorem entersIdle_eq (s : State) (g : Index) :
    entersIdle s g = (s.groups.get g).any fun grp => grp.state == .paused && grp.k.isSome := by
  unfold entersIdle
  cases s.groups.get g <;> rfl

theorem entersIdle_iff (hg : s.groups.get g = some grp) :
    entersIdle s g = true ↔ grp.state = .paused ∧ grp.k ≠ none := by
  simp [entersIdle_eq, hg, Option.isSome_iff_ne_none]

/-! ## CONTINUE at a list of groups (R116) -/

theorem continueGroups_enteringIdle (hg : s.groups.get g = some grp) (hst : grp.state = .paused) (hk : grp.k ≠ none) :
    continueGroups [g] s = giveTurns [g] s (s.setGroup g (some grp.continued)) := by
  have hidle : entersIdle s g = true := (entersIdle_iff hg).mpr ⟨hst, hk⟩
  simp [continueGroups, hidle, modGroup_of_get hg]

theorem continueGroups_notEnteringIdle (hg : s.groups.get g = some grp) (hst : grp.state = .paused → grp.k = none) :
    continueGroups [g] s = giveTurns [] s (s.setGroup g (some grp.continued)) := by
  have hidle : ¬entersIdle s g = true := fun h =>
    have ⟨hp, hk⟩ := (entersIdle_iff hg).mp h
    hk (hst hp)
  simp [continueGroups, hidle, modGroup_of_get hg]

theorem continueGroups_allIndices (s : State) :
    continueGroups allIndices s = giveTurns (allIndices.filter (entersIdle s)) s
      { s with groups := s.groups.map (Option.map Group.continued) } := by
  unfold continueGroups
  rw [foldl_modGroup_allIndices]

/-! ## The command (R163, R165) -/

/-- A one-byte CONTINUE addressed to a listening part is run on the heard state, and its answer waits. -/
theorem exec_cont_addressed (h : s.Listens) (b : Byte) :
    exec (.cont false [b]) s = .next (answer 0x14#8 (runContinue [b] s.heard)) := by
  have hserve : continueRequest.serve [b] s.heard = runContinue [b] s.heard := serve_run continueRequest rfl rfl _
  change Host.Outcome.next (takeRequest continueRequest [b] s) = _
  rw [takeRequest_of_listens h continueRequest (by simp), hserve]
  rfl

/-- A one-byte broadcast CONTINUE acts on all groups and is not answered. -/
theorem exec_cont_broadcast (h : s.Listens) (b : Byte) :
    exec (.cont true [b]) s = .next (continueGroups allIndices s.heard) :=
  congrArg Host.Outcome.next (broadcast_of_listens h continueRequest (by simp) rfl rfl rfl)

theorem exec_cont_all (h : s.Listens) :
    exec (.cont false [0xFF#8]) s = .next ((continueGroups allIndices s.heard).replying 0x14#8 []) :=
  exec_cont_addressed h 0xFF#8

theorem runContinue_one (hg : s.groups.get g = some grp) :
    runContinue [BitVec.ofNat 8 g.val] s =
      if grp.continues then accept (continueGroups [g] s) else refuse s .state 0xFF := by
  simp only [runContinue, byteAt_ofNat_index, if_neg (index_val_ne_allGroups g), withGroup_val hg]

theorem exec_cont_of_continues (h : s.Listens) (hg : s.groups.get g = some grp) (hc : grp.continues = true) :
    exec (.cont false [BitVec.ofNat 8 g.val]) s = .next ((continueGroups [g] s.heard).replying 0x14#8 []) := by
  rw [exec_cont_addressed h, runContinue_one (s := s.heard) hg, if_pos hc, answer_accept]

theorem exec_cont_of_not_continues (h : s.Listens) (hg : s.groups.get g = some grp) (hc : ¬grp.continues = true) :
    exec (.cont false [BitVec.ofNat 8 g.val]) s = .next (s.heard.refusing 0x14#8 .state 0xFF) := by
  rw [exec_cont_addressed h, runContinue_one (s := s.heard) hg, if_neg hc, answer_refuse]

end Sys2Proof.Machine

namespace Sys2Proof.Certificates

open Sys2Proof Sys2Proof.Machine

/-- Settles O17. One group: its own record decides whether the request acts and whether the group's turn is due. All groups:
addressed and broadcast run the same change, one map over the groups. -/
theorem continueGroups : Obligations.ContinueGroups := by
  intro s h
  refine ⟨fun g grp hg => ⟨?pausedValid, ?pausedInvalid, ?moving, ?refused⟩,
    s.groups.map (Option.map Group.continued), _, rfl, ?broadcast, ?addressed, fun g => ⟨?absent, fun grp hg => ?effect⟩⟩
  case pausedValid =>
    intro hst hk
    rw [exec_cont_of_continues h hg (continues_iff.mpr (.inl hst)), continueGroups_enteringIdle (s := s.heard) hg hst hk,
      continued_of_paused_valid hst hk]
  case pausedInvalid =>
    intro hst hk
    rw [exec_cont_of_continues h hg (continues_iff.mpr (.inl hst)),
      continueGroups_notEnteringIdle (s := s.heard) hg fun _ => hk, continued_of_paused_invalid hst hk]
  case moving =>
    intro hst hpend
    have hp : grp.state = .paused → grp.k = none := fun hp => by simp [hst] at hp
    rw [exec_cont_of_continues h hg (continues_iff.mpr (.inr ⟨hst, hpend⟩)),
      continueGroups_notEnteringIdle (s := s.heard) hg hp, continued_of_moving hst]
  case refused =>
    intro hp hm
    refine exec_cont_of_not_continues h hg fun hc => ?_
    rcases continues_iff.mp hc with hst | ⟨hst, hpend⟩
    · exact hp hst
    · simp [hm hst] at hpend
  case broadcast =>
    rw [exec_cont_broadcast h, continueGroups_allIndices, funext (entersIdle_eq s.heard)]
    rfl
  case addressed =>
    rw [exec_cont_all h, continueGroups_allIndices, funext (entersIdle_eq s.heard)]
    rfl
  case absent =>
    intro hg
    rw [Quad.get_map, hg, Option.map_none]
  case effect =>
    rw [Quad.get_map, hg, Option.map_some]
    exact ⟨fun hst hk => by rw [continued_of_paused_valid hst hk], fun hst hk => by rw [continued_of_paused_invalid hst hk],
      fun hst => by rw [continued_of_moving hst], fun hp hm => by rw [continued_of_other hp hm]⟩

end Sys2Proof.Certificates

/-! SUPPORT. The slot map's MAP_BEGIN and MAP_PUT (R24, R25): the requests that name one carousel, the first check that fails,
what an image writes into a map, and the slots where the places of a tag can be (R35). -/

namespace Sys2Proof.Machine

open Sys2Proof

variable {s : State} {x : Index} {cfg : CarouselConfig} {p : List Byte}

/-! ## Requests that name one carousel -/

theorem withCarousel_val (x : Index) (s : State) (body : Index → State × Answer) :
    withCarousel x.val s body = body x := by
  simp [withCarousel]

theorem withCarousel_of_le {n : Nat} (hn : 4 ≤ n) (s : State) (body : Index → State × Answer) :
    withCarousel n s body = refuse s .range 0 := by
  have hnone : indexOf n = none := dif_neg (by omega)
  simp [withCarousel, hnone]

/-! ## The first check that fails (R163) -/

theorem firstFailure_of_pass {cs : List (Bool × Reason × Nat)} (h : ∀ c ∈ cs, c.1 = true) : firstFailure cs = none := by
  induction cs with
  | nil => rfl
  | cons c cs ih =>
    obtain ⟨hc, hcs⟩ := List.forall_mem_cons.mp h
    simp [firstFailure, hc, ih hcs]

/-- The checks of a list's items in turn: where no item before number `i` fails, item number `i` gives the answer. -/
theorem firstFailure_numbered {α : Type} (checks : Nat → α → List (Bool × Reason × Nat)) {ans : Answer} {as : List α}
    {n i : Nat} {a : α} (ha : as[i]? = some a)
    (hbefore : ∀ j b, j < i → as[j]? = some b → firstFailure (checks (n + j) b) = none)
    (hfail : firstFailure (checks (n + i) a) = some ans) :
    firstFailure ((numbered n as).flatMap fun (k, b) => checks k b) = some ans := by
  induction as generalizing n i with
  | nil => simp at ha
  | cons b bs ih =>
    rw [numbered, List.flatMap_cons, firstFailure_append]
    cases i with
    | zero =>
      obtain rfl : b = a := by simpa using ha
      have hfail : firstFailure (checks n b) = some ans := hfail
      rw [hfail, Option.orElse_some]
    | succ i =>
      have hhead : firstFailure (checks n b) = none := hbefore 0 b (by omega) rfl
      rw [hhead, Option.orElse_none]
      refine ih ha (fun j b' hj hb' => ?_) ?_
      · rw [Nat.add_right_comm]
        exact hbefore (j + 1) b' (by omega) hb'
      · rw [Nat.add_right_comm]
        exact hfail

/-! ## The field checks of an image (R25) -/

theorem imageChecks_pass {carriers levels : Nat} {im : SlotImage} (h : ∀ f, imageFieldOk carriers levels im f) (i : Nat) :
    ∀ c ∈ imageChecks carriers levels i im, c.1 = true := by
  have hcontent : im.content ≤ 1 := by rcases h 2 with h0 | h1 <;> omega
  have hcarrier : im.carrier < carriers := h 0
  have hlevel : im.level < levels := h 1
  have hmember : im.member ≤ 4 := h 5
  have hmass : im.mass ≤ 4000 := h 6
  simp [imageChecks, hcarrier, hlevel, hcontent, hmember, hmass]

/-- The first field of an image that is out of range is the one the checks name. -/
theorem firstFailure_imageChecks {carriers levels f : Nat} {im : SlotImage}
    (hbefore : ∀ f', f' < f → imageFieldOk carriers levels im f') (hfail : ¬imageFieldOk carriers levels im f) (i : Nat) :
    firstFailure (imageChecks carriers levels i im) = some (.nak .range (16 * i + f)) := by
  have carrier (h : 0 < f) : im.carrier < carriers := hbefore 0 h
  have level (h : 1 < f) : im.level < levels := hbefore 1 h
  have content (h : 2 < f) : im.content ≤ 1 := by rcases hbefore 2 h with h0 | h1 <;> omega
  have member (h : 5 < f) : im.member ≤ 4 := hbefore 5 h
  match f with
  | 0 =>
    have hfail : ¬im.carrier < carriers := hfail
    simp [imageChecks, firstFailure, hfail]
  | 1 =>
    have hfail : ¬im.level < levels := hfail
    simp [imageChecks, firstFailure, carrier, hfail]
  | 2 =>
    have hfail : ¬(im.content = 0 ∨ im.content = 1) := hfail
    have hfail : ¬im.content ≤ 1 := by omega
    simp [imageChecks, firstFailure, carrier, level, hfail]
  | 3 => exact absurd trivial hfail
  | 4 => exact absurd trivial hfail
  | 5 =>
    have hfail : ¬im.member ≤ 4 := hfail
    simp [imageChecks, firstFailure, carrier, level, content, hfail]
  | 6 =>
    have hfail : ¬im.mass ≤ 4000 := hfail
    simp [imageChecks, firstFailure, carrier, level, content, member, hfail]
  | _ + 7 => exact absurd trivial hfail

/-! ## What images write into a map (R25) -/

/-- The slot record of a map at a carrier and level. -/
def SlotMap.slot? (m : SlotMap) (c l : Nat) : Option Slot := (m.carriers.getD c [])[l]?

theorem slot?_eq (s : State) (x : Index) (c l : Nat) : s.slot? x c l = (s.carousels.get x).map.slot? c l := rfl

/-- The last image of a list that names a slot. -/
def lastImageOf (ims : List SlotImage) (c l : Nat) : Option SlotImage :=
  ims.reverse.find? fun im => im.carrier == c && im.level == l

theorem lastImageOf_concat (ims : List SlotImage) (im : SlotImage) (c l : Nat) :
    lastImageOf (ims ++ [im]) c l = if im.carrier = c ∧ im.level = l then some im else lastImageOf ims c l := by
  simp only [lastImageOf, List.reverse_concat, List.find?_cons]
  split <;> simp_all

theorem setSlot_slot? (m : SlotMap) (c' l' c l : Nat) (sl : Slot) :
    (m.setSlot c' l' sl).slot? c l = (m.slot? c l).map fun old => if c' = c ∧ l' = l then sl else old := by
  simp only [SlotMap.slot?, SlotMap.setSlot, List.getD_eq_getElem?_getD, List.getElem?_modify]
  cases m.carriers[c]? with
  | none => simp
  | some ls =>
    by_cases hc : c' = c
    · by_cases hl : l' = l
      · subst hl
        simp [hc, List.getElem?_set_self', Function.const_def]
      · simp [hc, hl, List.getElem?_set_ne]
    · simp [hc]

/-- Images change the records of a map, and neither its state nor its finding. -/
theorem foldl_put_eq (ims : List SlotImage) (m : SlotMap) :
    ims.foldl SlotMap.put m = { m with carriers := (ims.foldl SlotMap.put m).carriers } := by
  induction ims generalizing m with
  | nil => rfl
  | cons im ims ih => rw [List.foldl_cons, ih]; rfl

/-- After images are written in order, a slot holds the record of the last one that names it. -/
theorem foldl_put_slot? (ims : List SlotImage) (m : SlotMap) (c l : Nat) :
    (ims.foldl SlotMap.put m).slot? c l
      = (m.slot? c l).map fun old => ((lastImageOf ims c l).map SlotImage.record).getD old := by
  induction ims using List.reverseRecOn with
  | nil => simp [lastImageOf]
  | append_singleton ims im ih =>
    rw [List.foldl_concat, SlotMap.put, setSlot_slot?, ih, lastImageOf_concat, Option.map_map]
    congr 1
    funext old
    by_cases h : im.carrier = c ∧ im.level = l <;> simp [h]

/-! ## The slots among the places of a tag (R35) -/

theorem slot_notMem_storePlaces (s : State) (t : Id32) (x : Index) (c l : Nat) : Place.slot x c l ∉ storePlaces s t := by
  intro h
  obtain ⟨q, -, hq⟩ := List.mem_filterMap.mp h
  cases hr : s.stores.get q <;> simp [hr] at hq

theorem slot_notMem_shuttlePlaces (s : State) (t : Id32) (x : Index) (c l : Nat) :
    Place.slot x c l ∉ shuttlePlaces s t := by
  intro h
  obtain ⟨q, -, hq⟩ := List.mem_filterMap.mp h
  cases hr : (s.ports.get q).loadRec <;> simp [hr] at hq

theorem slot_notMem_stationPlaces (s : State) (t : Id32) (x : Index) (c l : Nat) :
    Place.slot x c l ∉ stationPlaces s t := by
  simp [stationPlaces]

/-- The slots of one carousel at which a tag has a place lie in that carousel, and its map is COMMITTED. -/
theorem committed_of_slot_mem_heldPlaces {t : Id32} {y : Index} {c l : Nat} (h : Place.slot x c l ∈ heldPlaces s t y) :
    y = x ∧ (s.carousels.get x).map.state = .committed := by
  unfold heldPlaces at h
  split at h
  case h_1 hcommitted =>
    simp only [List.mem_flatMap, List.mem_filterMap, Option.ite_none_right_eq_some, Option.some.injEq,
      Place.slot.injEq] at h
    obtain ⟨_, -, _, -, -, rfl, -⟩ := h
    exact ⟨rfl, hcommitted⟩
  case h_2 => simp at h

/-- A slot at which a tag has a place is one of a COMMITTED map. -/
theorem committed_of_slot_mem_places {t : Id32} {c l : Nat} (h : Place.slot x c l ∈ places s t) :
    (s.carousels.get x).map.state = .committed := by
  simp only [places, List.mem_append, slot_notMem_storePlaces, slot_notMem_shuttlePlaces, slot_notMem_stationPlaces,
    or_false, List.mem_flatMap] at h
  obtain ⟨y, -, hy⟩ := h
  exact (committed_of_slot_mem_heldPlaces hy).2

/-! ## MAP_BEGIN (R24) -/

/-- A one-byte MAP_BEGIN is run on the heard state, and its answer waits. -/
theorem exec_mapBegin (h : s.Listens) (b : Byte) :
    exec (.mapBegin [b]) s = .next (answer 0x20#8 (runMapBegin [b] s.heard)) := by
  change Host.Outcome.next (takeRequest mapBeginRequest [b] s) = _
  rw [takeRequest_of_listens h mapBeginRequest (by simp), serve_run mapBeginRequest (by simp) rfl]
  rfl

theorem runMapBegin_of_le {b : Byte} (hb : 4 ≤ b.toNat) : runMapBegin [b] s = refuse s .range 0 :=
  withCarousel_of_le hb s _

theorem runMapBegin_unconfigured (hcfg : (s.carousels.get x).config = none) :
    runMapBegin [BitVec.ofNat 8 x.val] s = refuse s .state 0xFF := by
  simp [runMapBegin, withCarousel_val, hcfg]

theorem runMapBegin_configured (hcfg : (s.carousels.get x).config = some cfg) :
    runMapBegin [BitVec.ofNat 8 x.val] s =
      if (s.serviceGroup x).isSome then refuse s .state 0xFE
      else (s.setMap x (SlotMap.opening cfg.carriers cfg.levels), .ack (u8 cfg.carriers ++ u8 cfg.levels)) := by
  rw [runMapBegin, byteAt_ofNat_index, withCarousel_val, hcfg]
  cases s.serviceGroup x <;> rfl

/-! ## MAP_PUT (R25) -/

theorem mapPutLen_of_images {n len : Nat} (h1 : 1 ≤ n) (h12 : n ≤ 12) (hlen : len = 1 + 14 * n) : mapPutLen len = true := by
  subst hlen
  simp only [mapPutLen, Bool.and_eq_true, decide_eq_true_eq, beq_iff_eq]
  omega

/-- A MAP_PUT of 1 to 12 images is run on the heard state, and its answer waits. -/
theorem exec_mapPut (h : s.Listens) (hlen : ∃ n, 1 ≤ n ∧ n ≤ 12 ∧ p.length = 1 + 14 * n) :
    exec (.mapPut p) s = .next (answer 0x21#8 (runMapPut p s.heard)) := by
  obtain ⟨n, h1, h12, hlen⟩ := hlen
  change Host.Outcome.next (takeRequest mapPutRequest p s) = _
  rw [takeRequest_of_listens h mapPutRequest (by omega), serve_run mapPutRequest (mapPutLen_of_images h1 h12 hlen) rfl]
  rfl

theorem runMapPut_of_le (hx : 4 ≤ byteAt p 0) : runMapPut p s = refuse s .range 0 := withCarousel_of_le hx s _

theorem runMapPut_val (hx : byteAt p 0 = x.val) :
    runMapPut p s = checked s (((s.carousels.get x).map.state == .opened, .state, 0xFF)
        :: (numbered 0 (readImages p)).flatMap fun (i, im) => imageChecks (s.carriersOf x) (s.levelsOf x) i im)
      (s.setMap x ((readImages p).foldl SlotMap.put (s.carousels.get x).map), .ack (u8 (readImages p).length)) := by
  rw [runMapPut, hx, withCarousel_val]

theorem runMapPut_of_not_opened (hx : byteAt p 0 = x.val) (hst : (s.carousels.get x).map.state ≠ .opened) :
    runMapPut p s = refuse s .state 0xFF := by
  rw [runMapPut_val hx]
  exact checked_fail _ (by simp [firstFailure, hst]) _

/-- The first failing field of the first failing image is refused. -/
theorem runMapPut_of_failing {i f : Nat} {im : SlotImage} (hx : byteAt p 0 = x.val)
    (hst : (s.carousels.get x).map.state = .opened) (him : (readImages p)[i]? = some im)
    (himages : ∀ j im', j < i → (readImages p)[j]? = some im' →
      ∀ f', imageFieldOk (s.carriersOf x) (s.levelsOf x) im' f')
    (hfields : ∀ f', f' < f → imageFieldOk (s.carriersOf x) (s.levelsOf x) im f')
    (hfail : ¬imageFieldOk (s.carriersOf x) (s.levelsOf x) im f) :
    runMapPut p s = refuse s .range (16 * i + f) := by
  have hfirst : firstFailure ((numbered 0 (readImages p)).flatMap fun (i, im) =>
      imageChecks (s.carriersOf x) (s.levelsOf x) i im) = some (.nak .range (16 * i + f)) := by
    refine firstFailure_numbered (imageChecks (s.carriersOf x) (s.levelsOf x)) him (fun j im' hj him' => ?_) ?_
    · exact firstFailure_of_pass (imageChecks_pass (himages j im' hj him') _)
    · rw [Nat.zero_add]
      exact firstFailure_imageChecks hfields hfail i
  rw [runMapPut_val hx]
  exact checked_fail _ (by simpa [firstFailure, hst] using hfirst) _

/-- Images whose fields are all in range are written in request order. -/
theorem runMapPut_of_fieldsOk (hx : byteAt p 0 = x.val) (hst : (s.carousels.get x).map.state = .opened)
    (hok : ∀ im ∈ readImages p, ∀ f, imageFieldOk (s.carriersOf x) (s.levelsOf x) im f) :
    runMapPut p s =
      (s.setMap x ((readImages p).foldl SlotMap.put (s.carousels.get x).map), .ack (u8 (readImages p).length)) := by
  rw [runMapPut_val hx]
  refine checked_pass (List.forall_mem_cons.mpr ⟨by simp [hst], fun check hcheck => ?_⟩) _
  obtain ⟨⟨i, im⟩, him, hcheck⟩ := List.mem_flatMap.mp hcheck
  exact imageChecks_pass (hok im (List.mem_of_getElem? (mem_numbered.mp him).2)) i check hcheck

end Sys2Proof.Machine

namespace Sys2Proof.Certificates

open Sys2Proof Sys2Proof.Machine

/-- Settles O20. MAP_BEGIN: the new map is not COMMITTED, so none of its slots is a place of any tag. MAP_PUT: the checks of
the images are walked to the first that fails; without one, the images written in order leave in each slot the record of the
last that names it. -/
theorem mapOpenedAndLoaded : Obligations.MapOpenedAndLoaded := by
  refine ⟨fun s h => ⟨fun b hb => ?beginRange, fun x => ⟨fun hcfg => ?unconfigured, fun cfg hcfg =>
      ⟨fun hsvc => ?inService, fun hsvc => ?opens⟩⟩⟩,
    fun s p h hlen => ⟨fun hx => ?putRange, fun x hx => ⟨fun hst => ?notOpen,
      fun hst i f im him himages hfields hfail => ?badField⟩⟩,
    fun s p x h hlen hx hst hok => ?written⟩
  case beginRange => rw [exec_mapBegin h, runMapBegin_of_le hb, answer_refuse]
  case unconfigured => rw [exec_mapBegin h, runMapBegin_unconfigured (s := s.heard) hcfg, answer_refuse]
  case inService =>
    rw [exec_mapBegin h, runMapBegin_configured (s := s.heard) hcfg, heard_serviceGroup, if_pos hsvc, answer_refuse]
  case opens =>
    refine ⟨SlotMap.opening cfg.carriers cfg.levels, _, rfl, ?_, rfl, rfl, List.length_replicate, fun ls hls => ?_,
      fun ls hls sl hsl => ?_, fun tag c l hplace => ?_⟩
    · rw [exec_mapBegin h, runMapBegin_configured (s := s.heard) hcfg, heard_serviceGroup, hsvc, if_neg Bool.false_ne_true,
        answer_ack, ← hcfg]
      rfl
    · rw [List.eq_of_mem_replicate hls, List.length_replicate]
    · rw [List.eq_of_mem_replicate hls] at hsl
      exact List.eq_of_mem_replicate hsl
    · have hcommitted := committed_of_slot_mem_places hplace
      simp [SlotMap.opening] at hcommitted
  case putRange => rw [exec_mapPut h hlen, runMapPut_of_le hx, answer_refuse]
  case notOpen => rw [exec_mapPut h hlen, runMapPut_of_not_opened (s := s.heard) hx hst, answer_refuse]
  case badField =>
    rw [exec_mapPut h hlen, runMapPut_of_failing (s := s.heard) hx hst him himages hfields hfail, answer_refuse]
  case written =>
    refine ⟨((readImages p).foldl SlotMap.put (s.carousels.get x).map).carriers, ?_, fun c l => ?_⟩
    · have hcount : (readImages p).length = (p.length - 1) / 14 := by simp [readImages]
      rw [exec_mapPut h hlen, runMapPut_of_fieldsOk (s := s.heard) hx hst hok, answer_ack, hcount, ← foldl_put_eq]
      rfl
    · refine (foldl_put_slot? (readImages p) (s.carousels.get x).map c l).trans ?_
      rw [slot?_eq, lastImageOf]
      congr 1
      funext old
      cases (readImages p).reverse.find? fun im => im.carrier == c && im.level == l <;> rfl

end Sys2Proof.Certificates

/-! SUPPORT. ORDER_OPEN (R110, R111): the first of its checks that fails, the lines it opens, the entry it takes, and the command
as a whole. -/

namespace Sys2Proof.Machine

open Sys2Proof

variable {s : State} {p : List Byte} {r : OrderRequest} {t : Id32} {i seq : Nat} {l : Line}

/-! ## Numbered lists and lists without repetition -/

@[simp] theorem length_numbered {α : Type} (n : Nat) (as : List α) : (numbered n as).length = as.length := by
  induction as generalizing n with
  | nil => rfl
  | cons a as ih => simp [numbered, ih]

/-- Where every item has an image, the images stand in the places of their items. -/
theorem filterMap_numbered_getElem? {α β : Type} (f : Nat → α → Option β) {as : List α} {n : Nat}
    (h : ∀ k, ∀ a ∈ as, (f k a).isSome = true) (j : Nat) :
    ((numbered n as).filterMap fun (k, a) => f k a)[j]? = as[j]?.bind (f (n + j)) := by
  induction as generalizing n j with
  | nil => simp [numbered]
  | cons a as ih =>
    obtain ⟨b, hb⟩ := Option.isSome_iff_exists.mp (h n a List.mem_cons_self)
    simp only [numbered, List.filterMap_cons, hb]
    cases j with
    | zero => exact hb.symm
    | succ j =>
      have htail := ih (n := n + 1) (fun k a ha => h k a (List.mem_cons_of_mem _ ha)) j
      rw [Nat.add_right_comm] at htail
      exact htail

theorem notMem_take_of_nodup {α : Type} {as : List α} {n j : Nat} {a : α} (h : (as.take n).Nodup) (hj : j < n)
    (ha : as[j]? = some a) : a ∉ as.take j := by
  have hupto : (as.take j ++ [a]).Nodup := by
    have htake : (as.take (j + 1)).Nodup := h.sublist (List.take_sublist_take_left hj)
    rwa [List.take_add_one, ha] at htake
  exact fun hmem => List.disjoint_of_nodup_append hupto hmem (List.mem_singleton_self a)

/-! ## The checks of the tags in line order (R110) -/

theorem lineChecks_eq (tags : List Id32) (reason : Reason) (base : Nat) (ok : Nat → Id32 → Bool) :
    lineChecks tags reason base ok = (numbered 0 tags).flatMap fun (k, t) => [(ok k t, reason, k + 1 + base)] :=
  List.map_eq_flatMap

theorem firstFailure_lineChecks_of_pass {tags : List Id32} {reason : Reason} {base : Nat} {ok : Nat → Id32 → Bool}
    (h : ∀ j t, tags[j]? = some t → ok j t = true) : firstFailure (lineChecks tags reason base ok) = none := by
  refine firstFailure_of_pass fun c hc => ?_
  obtain ⟨⟨j, t⟩, hjt, rfl⟩ := List.mem_map.mp hc
  exact h j t (mem_numbered.mp hjt).2

/-- The first tag that fails a check gives the answer, with its line sequence in the detail. -/
theorem firstFailure_lineChecks_of_fail {tags : List Id32} {reason : Reason} {base : Nat} {ok : Nat → Id32 → Bool}
    (ht : tags[i]? = some t) (hbefore : ∀ j t', j < i → tags[j]? = some t' → ok j t' = true) (hfail : ok i t = false) :
    firstFailure (lineChecks tags reason base ok) = some (.nak reason (i + 1 + base)) := by
  rw [lineChecks_eq]
  refine firstFailure_numbered (fun k t => [(ok k t, reason, k + 1 + base)]) ht (fun j t' hj ht' => ?_) ?_
  · simp [firstFailure, hbefore j t' hj ht']
  · simp [firstFailure, hfail]

/-! ## The slot of a tag -/

theorem available_iff :
    available s t = true ↔ ∃ x c l sl, slotOf s t = some (x, c, l) ∧ (s.serviceGroup x).isSome = true
      ∧ s.slot? x c l = some sl ∧ sl.isStocked = true := by
  unfold available
  cases slotOf s t with
  | none => simp
  | some place =>
    obtain ⟨x, c, l⟩ := place
    cases hsl : s.slot? x c l <;> simp [hsl]

theorem slotOf_isSome_of_available (h : available s t = true) : (slotOf s t).isSome = true := by
  obtain ⟨x, c, l, -, hslot, -⟩ := available_iff.mp h
  rw [hslot, Option.isSome_some]

/-! ## The first check that fails (R110, R173) -/

/-- The fields of an ORDER_OPEN that its RANGE checks let pass. -/
structure OrderRequest.FieldsOk (r : OrderRequest) : Prop where
  id_ne : r.id ≠ 0#32
  few : 1 ≤ r.tags.length ∧ r.tags.length ≤ 8
  count_eq : r.count = r.tags.length
  tags_ne : ∀ t ∈ r.tags, t ≠ 0#32

/-- The checks of ORDER_OPEN that ask for the slots of its tags. -/
def tagChecks (s : State) (r : OrderRequest) : List (Bool × Reason × Nat) :=
  lineChecks r.tags .conflict 0 (fun i t => !(r.tags.take i).contains t)
  ++ lineChecks r.tags .notFound 0 (fun _ t => (slotOf s t).isSome)
  ++ lineChecks r.tags .unavailable 0 (fun _ t => available s t)

theorem orderRoom_iff : s.orderRoom = true ↔ ∃ e ∈ s.sched.orders, e = none := by
  simp [State.orderRoom]

theorem orderChecks_id (hid : r.id = 0#32) : firstFailure (orderChecks s r) = some (.nak .range 0) := by
  simp [orderChecks, firstFailure, hid]

theorem orderChecks_count (hid : r.id ≠ 0#32) (hcount : r.count ≠ r.tags.length) :
    firstFailure (orderChecks s r) = some (.nak .range 2) := by
  simp [orderChecks, firstFailure, hid, hcount]

theorem orderChecks_tagZero (hid : r.id ≠ 0#32) (hfew : 1 ≤ r.tags.length ∧ r.tags.length ≤ 8)
    (hcount : r.count = r.tags.length) (ht : r.tags[i]? = some 0#32)
    (hbefore : ∀ j t, j < i → r.tags[j]? = some t → t ≠ 0#32) :
    firstFailure (orderChecks s r) = some (.nak .range (i + 3)) := by
  have hzero : firstFailure (lineChecks r.tags .range 2 fun _ t => t != 0#32) = some (.nak .range (i + 3)) :=
    firstFailure_lineChecks_of_fail ht (fun j t hj ht => by simpa using hbefore j t hj ht) rfl
  simp [orderChecks, firstFailure, firstFailure_append, hid, hfew, hcount, hzero]

/-- With every field in range, the table's room and the id are judged before the tags. -/
theorem orderChecks_of_fieldsOk (hr : r.FieldsOk) :
    firstFailure (orderChecks s r)
      = firstFailure ((s.orderRoom, .full, 0xFF) :: ((s.findOrder r.id).isNone, .conflict, 0xFF) :: tagChecks s r) := by
  have hzero : firstFailure (lineChecks r.tags .range 2 fun _ t => t != 0#32) = none :=
    firstFailure_lineChecks_of_pass fun j t ht => by simpa using hr.tags_ne t (List.mem_of_getElem? ht)
  simp [orderChecks, tagChecks, firstFailure, firstFailure_append, hr.id_ne, hr.few, hr.count_eq, hzero]

theorem orderChecks_full (hr : r.FieldsOk) (hfull : ∀ e ∈ s.sched.orders, e ≠ none) :
    firstFailure (orderChecks s r) = some (.nak .full 0xFF) := by
  have hroom : ¬s.orderRoom = true := fun h => by
    obtain ⟨e, he, hnone⟩ := orderRoom_iff.mp h
    exact hfull e he hnone
  simp [orderChecks_of_fieldsOk hr, firstFailure, hroom]

theorem orderChecks_idTaken (hr : r.FieldsOk) (hroom : ∃ e ∈ s.sched.orders, e = none) (hid : s.findOrder r.id ≠ none) :
    firstFailure (orderChecks s r) = some (.nak .conflict 0xFF) := by
  simp [orderChecks_of_fieldsOk hr, firstFailure, orderRoom_iff.mpr hroom, hid]

/-- With room and a new id, the tags decide. -/
theorem orderChecks_of_admitted (hr : r.FieldsOk) (hroom : ∃ e ∈ s.sched.orders, e = none) (hid : s.findOrder r.id = none) :
    firstFailure (orderChecks s r) = firstFailure (tagChecks s r) := by
  simp [orderChecks_of_fieldsOk hr, firstFailure, orderRoom_iff.mpr hroom, hid]

theorem tagChecks_repeated (ht : r.tags[i]? = some t) (hmem : t ∈ r.tags.take i) (hnodup : (r.tags.take i).Nodup) :
    firstFailure (tagChecks s r) = some (.nak .conflict (i + 1)) := by
  have hrepeated : firstFailure (lineChecks r.tags .conflict 0 fun i t => !(r.tags.take i).contains t)
      = some (.nak .conflict (i + 1)) :=
    firstFailure_lineChecks_of_fail ht (fun j t' hj ht' => by simpa using notMem_take_of_nodup hnodup hj ht')
      (by simpa using hmem)
  rw [tagChecks, List.append_assoc, firstFailure_append, hrepeated, Option.orElse_some]

/-- With no tag repeated, the slots of the tags decide. -/
theorem tagChecks_of_nodup (hnodup : r.tags.Nodup) :
    firstFailure (tagChecks s r) = firstFailure (lineChecks r.tags .notFound 0 (fun _ t => (slotOf s t).isSome)
      ++ lineChecks r.tags .unavailable 0 (fun _ t => available s t)) := by
  have hdistinct : firstFailure (lineChecks r.tags .conflict 0 fun i t => !(r.tags.take i).contains t) = none :=
    firstFailure_lineChecks_of_pass fun j t ht => by
      have hj : j < r.tags.length := (List.getElem?_eq_some_iff.mp ht).1
      simpa using notMem_take_of_nodup (by rwa [List.take_length]) hj ht
  rw [tagChecks, List.append_assoc, firstFailure_append, hdistinct, Option.orElse_none]

theorem tagChecks_notFound (hnodup : r.tags.Nodup) (ht : r.tags[i]? = some t) (hnone : slotOf s t = none)
    (hbefore : ∀ j t', j < i → r.tags[j]? = some t' → slotOf s t' ≠ none) :
    firstFailure (tagChecks s r) = some (.nak .notFound (i + 1)) := by
  have hfail : firstFailure (lineChecks r.tags .notFound 0 fun _ t => (slotOf s t).isSome) = some (.nak .notFound (i + 1)) :=
    firstFailure_lineChecks_of_fail ht (fun j t' hj ht' => Option.isSome_iff_ne_none.mpr (hbefore j t' hj ht'))
      (by rw [hnone, Option.isSome_none])
  rw [tagChecks_of_nodup hnodup, firstFailure_append, hfail, Option.orElse_some]

/-- With every tag in a slot, the state of the slots decides. -/
theorem tagChecks_of_found (hnodup : r.tags.Nodup) (hfound : ∀ t ∈ r.tags, (slotOf s t).isSome = true) :
    firstFailure (tagChecks s r) = firstFailure (lineChecks r.tags .unavailable 0 fun _ t => available s t) := by
  have hpass : firstFailure (lineChecks r.tags .notFound 0 fun _ t => (slotOf s t).isSome) = none :=
    firstFailure_lineChecks_of_pass fun j t ht => hfound t (List.mem_of_getElem? ht)
  rw [tagChecks_of_nodup hnodup, firstFailure_append, hpass, Option.orElse_none]

theorem tagChecks_unavailable (hnodup : r.tags.Nodup) (hfound : ∀ t ∈ r.tags, slotOf s t ≠ none) (ht : r.tags[i]? = some t)
    (hun : available s t = false) (hbefore : ∀ j t', j < i → r.tags[j]? = some t' → available s t' = true) :
    firstFailure (tagChecks s r) = some (.nak .unavailable (i + 1)) := by
  rw [tagChecks_of_found hnodup fun t ht => Option.isSome_iff_ne_none.mpr (hfound t ht)]
  exact firstFailure_lineChecks_of_fail ht hbefore hun

theorem tagChecks_of_available (hnodup : r.tags.Nodup) (hav : ∀ t ∈ r.tags, available s t = true) :
    firstFailure (tagChecks s r) = none := by
  rw [tagChecks_of_found hnodup fun t ht => slotOf_isSome_of_available (hav t ht)]
  exact firstFailure_lineChecks_of_pass fun j t ht => hav t (List.mem_of_getElem? ht)

/-! ## The lines of a new order (R111) -/

/-- What R111 asks of the line opened for a tag. -/
structure OpensLine (s : State) (seq : Nat) (t : Id32) (l : Line) : Prop where
  seq_eq : l.seq = seq
  tag_eq : l.tag = t
  slot_eq : slotOf s t = some (l.carousel, l.carrier, l.level)
  state_eq : l.state = .reserved
  rejectBound_eq : l.rejectBound = false
  mass_eq : ∃ sl, s.slot? l.carousel l.carrier l.level = some sl ∧ l.mass = sl.recorded

theorem openLine_of_available (h : available s t = true) (seq : Nat) :
    ∃ l, openLine s seq t = some l ∧ OpensLine s seq t l := by
  obtain ⟨x, c, k, sl, hslot, -, hsl, -⟩ := available_iff.mp h
  exact ⟨_, by simp only [openLine, hslot, hsl]; rfl, rfl, rfl, hslot, rfl, rfl, sl, hsl, rfl⟩

theorem openLine_isSome_of_available {tags : List Id32} (h : ∀ t ∈ tags, available s t = true) (seq : Nat) :
    ∀ t ∈ tags, (openLine s seq t).isSome = true := fun t ht => by
  obtain ⟨l, hl, -⟩ := openLine_of_available (h t ht) seq
  rw [hl, Option.isSome_some]

theorem length_openLines {tags : List Id32} (h : ∀ t ∈ tags, available s t = true) :
    (openLines s tags).length = tags.length := by
  rw [← length_numbered 1 tags]
  refine List.filterMap_length_eq_length.mpr fun (seq, t) hmem => ?_
  exact openLine_isSome_of_available h seq t (List.mem_of_getElem? (mem_numbered.mp hmem).2)

theorem opensLine_of_getElem? {tags : List Id32} {j : Nat} (h : ∀ t ∈ tags, available s t = true)
    (hl : (openLines s tags)[j]? = some l) : ∃ t, tags[j]? = some t ∧ OpensLine s (j + 1) t l := by
  rw [openLines, filterMap_numbered_getElem? (openLine s) (openLine_isSome_of_available h) j, Nat.add_comm 1 j] at hl
  obtain ⟨t, ht, hopen⟩ := Option.bind_eq_some_iff.mp hl
  obtain ⟨l', hl', hspec⟩ := openLine_of_available (h t (List.mem_of_getElem? ht)) (j + 1)
  obtain rfl : l' = l := Option.some.inj (hl'.symm.trans hopen)
  exact ⟨t, ht, hspec⟩

/-! ## The lowest free entry (R111) -/

theorem getElem?_freeEntry (h : ∃ e ∈ s.sched.orders, e = none) : s.sched.orders[s.freeEntry]? = some none := by
  have hlt : s.freeEntry < s.sched.orders.length :=
    List.findIdx_lt_length_of_exists (by obtain ⟨e, he, rfl⟩ := h; exact ⟨none, he, rfl⟩)
  have hfree : s.sched.orders[s.freeEntry].isNone = true := List.findIdx_getElem (w := hlt)
  rw [List.getElem?_eq_getElem hlt, Option.isNone_iff_eq_none.mp hfree]

theorem getElem?_ne_of_lt_freeEntry {j : Nat} (h : j < s.freeEntry) : s.sched.orders[j]? ≠ some none := by
  intro hj
  obtain ⟨hlt, hnone⟩ := List.getElem?_eq_some_iff.mp hj
  have htaken : s.sched.orders[j].isNone = false := List.not_of_lt_findIdx h
  rw [hnone] at htaken
  exact absurd htaken (by decide)

/-! ## The command -/

theorem orderOpenLen_of_lines {n len : Nat} (h1 : 1 ≤ n) (h8 : n ≤ 8) (hlen : len = 6 + 4 * n) : orderOpenLen len = true := by
  subst hlen
  simp only [orderOpenLen, Bool.and_eq_true, decide_eq_true_eq, beq_iff_eq]
  omega

/-- A payload for 1 to 8 lines is read as 1 to 8 tags. -/
theorem readOrder_tags_length (hlen : ∃ n, 1 ≤ n ∧ n ≤ 8 ∧ p.length = 6 + 4 * n) :
    1 ≤ (readOrder p).tags.length ∧ (readOrder p).tags.length ≤ 8 := by
  obtain ⟨n, h1, h8, hlen⟩ := hlen
  simp only [readOrder, List.length_map, List.length_range]
  omega

/-- An ORDER_OPEN of 1 to 8 lines is run on the heard state, and its answer waits. -/
theorem exec_orderOpen (h : s.Listens) (hlen : ∃ n, 1 ≤ n ∧ n ≤ 8 ∧ p.length = 6 + 4 * n) :
    exec (.orderOpen p) s = .next (answer 0x38#8 (runOrderOpen p s.heard)) := by
  obtain ⟨n, h1, h8, hlen⟩ := hlen
  change Host.Outcome.next (takeRequest orderOpenRequest p s) = _
  rw [takeRequest_of_listens h orderOpenRequest (by omega), serve_run orderOpenRequest (orderOpenLen_of_lines h1 h8 hlen) rfl]
  rfl

@[simp] theorem heard_orderChecks (s : State) (r : OrderRequest) : orderChecks s.heard r = orderChecks s r := rfl

/-- The first failing check is the answer of the command. -/
theorem exec_orderOpen_refused {reason : Reason} {detail : Nat} (h : s.Listens)
    (hlen : ∃ n, 1 ≤ n ∧ n ≤ 8 ∧ p.length = 6 + 4 * n)
    (hfail : firstFailure (orderChecks s (readOrder p)) = some (.nak reason detail)) :
    exec (.orderOpen p) s = .next (s.heard.refusing 0x38#8 reason detail) := by
  rw [exec_orderOpen h hlen, runOrderOpen, heard_orderChecks, checked_fail _ hfail, answer_refuse]

/-- With no failing check the order is opened, and the ACK carries its entry as judged. -/
theorem exec_orderOpen_accepted (h : s.Listens) (hlen : ∃ n, 1 ≤ n ∧ n ≤ 8 ∧ p.length = 6 + 4 * n)
    (hpass : firstFailure (orderChecks s (readOrder p)) = none) :
    exec (.orderOpen p) s = .next ((giveTurns [] s.heard (openOrder (readOrder p) s.heard)).replying 0x38#8
      (openedBytes (openOrder (readOrder p) s.heard) (readOrder p).id)) := by
  rw [exec_orderOpen h hlen, runOrderOpen, heard_orderChecks, checked, hpass, answer_ack]

end Sys2Proof.Machine

namespace Sys2Proof.Certificates

open Sys2Proof Sys2Proof.Machine

/-- Settles O41. Refused: the checks are walked to the first that fails, each stage with the ones before it passed. Accepted: no
check fails, so the record of `newOrder` takes the lowest free entry, and its lines are those that `openLine` makes of the
available tags. -/
theorem orderOpenReserves : Obligations.OrderOpenReserves := by
  refine ⟨fun s p r h hlen hread => ?refused, fun s p r h hlen hread hid hcount htags hnodup hnew hroom hav => ?accepted⟩
  case refused =>
    subst hread
    have hfew := readOrder_tags_length hlen
    refine ⟨fun hid => exec_orderOpen_refused h hlen (orderChecks_id hid), fun hid =>
      ⟨fun hcount => exec_orderOpen_refused h hlen (orderChecks_count hid hcount), fun hcount =>
      ⟨fun i ht hbefore => exec_orderOpen_refused h hlen (orderChecks_tagZero hid hfew hcount ht hbefore), fun htags => ?_⟩⟩⟩
    have hr : (readOrder p).FieldsOk := ⟨hid, hfew, hcount, htags⟩
    refine ⟨fun hfull => exec_orderOpen_refused h hlen (orderChecks_full hr hfull), fun hroom =>
      ⟨fun htaken => exec_orderOpen_refused h hlen (orderChecks_idTaken hr hroom htaken), fun hnew => ?_⟩⟩
    have hdecide := orderChecks_of_admitted hr hroom hnew
    refine ⟨fun i t ht hmem hnodup => ?repeated, fun hnodup => ⟨fun i t ht hnone hbefore => ?notFound,
      fun hfound i t ht hun hbefore => ?unavailable⟩⟩
    case repeated => exact exec_orderOpen_refused h hlen (hdecide.trans (tagChecks_repeated ht hmem hnodup))
    case notFound => exact exec_orderOpen_refused h hlen (hdecide.trans (tagChecks_notFound hnodup ht hnone hbefore))
    case unavailable =>
      exact exec_orderOpen_refused h hlen (hdecide.trans (tagChecks_unavailable hnodup hfound ht hun hbefore))
  case accepted =>
    subst hread
    have hr : (readOrder p).FieldsOk := ⟨hid, readOrder_tags_length hlen, hcount, htags⟩
    have hpass := (orderChecks_of_admitted hr hroom hnew).trans (tagChecks_of_available hnodup hav)
    refine ⟨s.freeEntry, countUp s.sched.openCounter, newOrder s (readOrder p), _, _, getElem?_freeEntry hroom,
      fun j hj => getElem?_ne_of_lt_freeEntry hj, countUp_of_lt, fun hmax => ?_, rfl, rfl, rfl, rfl, rfl, rfl, rfl,
      length_openLines hav, fun j l hl => ?_, rfl, rfl, exec_orderOpen_accepted h hlen hpass⟩
    · rw [hmax]
      exact countUp_max
    · obtain ⟨t, ht, hline⟩ := opensLine_of_getElem? hav hl
      obtain ⟨hseq, htag, hslot, hstate, hbound, hmass⟩ := hline
      rw [htag]
      exact ⟨hseq, ht, hslot, hstate, hbound, hmass⟩

end Sys2Proof.Certificates

/-! SUPPORT. LOG_READ (R147): its two checks, what consuming entries leaves of the log and of the audit tasks, and the command
as a whole. -/

namespace Sys2Proof.Machine

open Sys2Proof

variable {s : State} {a b : Byte} {n : Nat}

/-! ## One change made at every audit task -/

/-- A change made at one audit task after the other touches the tasks only. -/
theorem foldl_modTask (f : AuditTask → AuditTask) (xs : List Index) (s : State) :
    xs.foldl (fun s x => s.modTask x f) s = s.setAudit { s.audit with
      tasks := xs.foldl (fun q x => q.set x ((q.get x).map f)) s.audit.tasks } := by
  induction xs generalizing s with
  | nil => rfl
  | cons x xs ih =>
    rw [List.foldl_cons, ih, modTask_audit, modTask_eq, List.foldl_cons]
    rfl

theorem foldl_modTask_allIndices (f : AuditTask → AuditTask) (s : State) :
    allIndices.foldl (fun s x => s.modTask x f) s
      = s.setAudit { s.audit with tasks := s.audit.tasks.map (Option.map f) } :=
  foldl_modTask f allIndices s

/-! ## Entries consumed (R147) -/

/-- The audit tasks once `n` entries have been consumed: with at least one, every task in HELD_LOG runs again. -/
def tasksAfterConsume (n : Nat) (tasks : Quad (Option AuditTask)) : Quad (Option AuditTask) :=
  if n = 0 then tasks else tasks.map (Option.map AuditTask.released)

theorem tasksAfterConsume_zero (tasks : Quad (Option AuditTask)) : tasksAfterConsume 0 tasks = tasks := rfl

theorem get_tasksAfterConsume (hn : n ≠ 0) (tasks : Quad (Option AuditTask)) (x : Index) :
    (tasksAfterConsume n tasks).get x = (tasks.get x).map AuditTask.released := by
  rw [tasksAfterConsume, if_neg hn, Quad.get_map]

/-- Consuming entries changes the log and the tasks of the audit block, and nothing else. -/
theorem consumeLog_eq (n : Nat) (s : State) :
    consumeLog n s = s.setAudit { s.audit with
      log := s.audit.log.drop n, tasks := tasksAfterConsume n s.audit.tasks } := by
  unfold consumeLog tasksAfterConsume
  split
  case isTrue => rfl
  case isFalse => rw [foldl_modTask_allIndices]; rfl

/-! ## The command -/

/-- A two-byte LOG_READ is run on the heard state, and its answer waits. -/
theorem exec_logRead (h : s.Listens) (a b : Byte) :
    exec (.logRead [a, b]) s = .next (answer 0x4B#8 (runLogRead [a, b] s.heard)) := by
  change Host.Outcome.next (takeRequest logReadRequest [a, b] s) = _
  rw [takeRequest_of_listens h logReadRequest (by simp), serve_run logReadRequest (by simp) rfl]
  rfl

/-- The data of LOG_READ's ACK: the entries left in the log, the entries read, and those entries, oldest first. -/
def readFrom (log : List LogEntry) (n : Nat) : List Byte :=
  [BitVec.ofNat 8 log.length, BitVec.ofNat 8 (min n log.length)] ++ (log.take n).flatMap entryBytes

/-- The two checks of LOG_READ in order, the consumption behind them, and the ACK with what follows the new head. -/
theorem runLogRead_eq (a b : Byte) (s : State) :
    runLogRead [a, b] s = checked s
      [(decide (a.toNat ≤ 32 ∧ a.toNat ≤ s.audit.log.length), .range, 0), (decide (b.toNat ≤ 8), .range, 1)]
      (giveTurns [] s (consumeLog a.toNat s), .ack (readFrom (s.audit.log.drop a.toNat) b.toNat)) := by
  have hkept : (consumeLog a.toNat s).audit.log = s.audit.log.drop a.toNat := by rw [consumeLog_eq, setAudit_audit]
  rw [readFrom, ← List.length_take, ← hkept]
  rfl

theorem runLogRead_of_consume_gt (hc : 32 < a.toNat ∨ s.audit.log.length < a.toNat) :
    runLogRead [a, b] s = refuse s .range 0 := by
  have hfail : ¬(a.toNat ≤ 32 ∧ a.toNat ≤ s.audit.log.length) := by omega
  rw [runLogRead_eq]
  exact checked_fail _ (by simp [firstFailure, hfail]) _

theorem runLogRead_of_read_gt (h32 : a.toNat ≤ 32) (hlog : a.toNat ≤ s.audit.log.length) (hread : 8 < b.toNat) :
    runLogRead [a, b] s = refuse s .range 1 := by
  have hfail : ¬b.toNat ≤ 8 := by omega
  rw [runLogRead_eq]
  exact checked_fail _ (by simp [firstFailure, h32, hlog, hfail]) _

theorem runLogRead_of_inRange (h32 : a.toNat ≤ 32) (hlog : a.toNat ≤ s.audit.log.length) (hread : b.toNat ≤ 8) :
    runLogRead [a, b] s =
      (giveTurns [] s (consumeLog a.toNat s), .ack (readFrom (s.audit.log.drop a.toNat) b.toNat)) := by
  rw [runLogRead_eq]
  exact checked_pass (by simp [h32, hlog, hread]) _

end Sys2Proof.Machine

namespace Sys2Proof.Certificates

open Sys2Proof Sys2Proof.Machine

/-- Settles O51. The consume count is judged before the read count. With both in range, `consumeLog` is one change of the log
and of the tasks, so the entries read are those of the log that it leaves. -/
theorem logReadConsumes : Obligations.LogReadConsumes := by
  refine fun s a b h => ⟨fun hc => ?consumeRange, fun h32 hlog => ⟨fun hread => ?readRange, fun hread =>
    ⟨_, tasksAfterConsume a.toNat s.audit.tasks, rfl, fun ha => ?noneConsumed, fun ha x => ?released, ?answered⟩⟩⟩
  case consumeRange => rw [exec_logRead h, runLogRead_of_consume_gt (s := s.heard) hc, answer_refuse]
  case readRange => rw [exec_logRead h, runLogRead_of_read_gt (s := s.heard) h32 hlog hread, answer_refuse]
  case noneConsumed => rw [ha]; exact tasksAfterConsume_zero _
  case released =>
    have hn : a.toNat ≠ 0 := fun h0 => ha (BitVec.eq_of_toNat_eq h0)
    exact get_tasksAfterConsume hn s.audit.tasks x
  case answered =>
    rw [exec_logRead h, runLogRead_of_inRange (s := s.heard) h32 hlog hread, answer_ack, consumeLog_eq, heard_audit]
    rfl

end Sys2Proof.Certificates

/-! SUPPORT. The induction over a step's commands, packaged once. A property that is closed under the changes of `WorkClosed` (what
the requests and events do to the records) and of `LineClosed` (what the line does to the link unit) is kept by every step; a
proof that a step keeps an invariant shows the two closures and cites `keeps_step`. -/

namespace Sys2Proof.Machine

open Sys2Proof

/-! ## Names for the records that the closure speaks of -/

/-- A group without what the position counters, the torque monitor and the notes of the scheduler keep in it. -/
def Group.noteless (grp : Group) : Group :=
  { grp with
    encoder := 0, markCount := 0, homeSteps := 0, homeDir := .fresh, revolution := 0, arrivalOpen := false,
    startedHere := Quad.fill false, lastSample := none, invalidCount := 0, moveDir := .forward, moveMarks := 0, compared := 0,
    outside := 0, lastCompared := none, deviant := 0, suspect := false, watch := none }

/-- A group that differs from another in notes alone, with the counters in their ranges. -/
structure Group.NotedFrom (grp' grp : Group) : Prop where
  core : grp'.noteless = grp.noteless
  deviant : grp.deviant ≤ 3 → grp'.deviant ≤ 3
  invalid : grp.invalidCount ≤ 4 → grp'.invalidCount ≤ 4

/-- A group as a fault leaves it (R18). -/
def Group.faultedBy (grp : Group) (cause : FaultCause) : Group :=
  { grp with state := .faulted, k := none, cause := cause, current := none, next := none, pausePending := false,
             arrivalOpen := false, startedHere := Quad.fill false, settle := false }

/-- A referencing group that has found home (R12). -/
def Group.homeFound (grp : Group) : Group :=
  { grp with k := some 0, encoder := 0, settle := true, homeSteps := 0, homeDir := .fresh }

/-- A referencing group at a mark (R12). -/
def Group.referencingMarked (grp : Group) : Group :=
  { grp with markCount := grp.markCount + 1, encoder := 0, stallTimer := some grp.params.stallTime }

/-- A travelling group that stops (R67, R69). -/
def Group.stopped (grp : Group) : Group :=
  if grp.pausePending then grp.paused else { grp with current := none, next := none, settle := true }

/-- A travelling group that arrives (R66). -/
def Group.arrived (grp : Group) : Group :=
  { grp with settle := true, current := grp.current.map fun m => { m with phase := .settling } }

/-- The station once its diversion has ended (R131). -/
def Station.diversionEnded (st : Station) : Station := { st with diverter := .idle, send := false, diversionTimer := none }

/-- The station once its fault has been cleared (R134). -/
def Station.faultLeft (st : Station) : Station :=
  { st with
    fault := none
    drive := true
    diverter := match st.diverter with
      | .diverting _ => .idle
      | d => d }

/-- The station once the head `e` of the collector has joined a lane (R131). -/
def Station.delivered (st : Station) (dest : Lane) (e : CollectorItem) (rest : List CollectorItem) : Station :=
  match dest with
  | .order i =>
    { st with
      collector := rest
      lanes := st.lanes.set i
        { st.lanes.get i with stack := (st.lanes.get i).stack ++ [{ tag := e.tag, line := e.line }] } }
  | .reject => { st with collector := rest, reject := st.reject ++ [{ tag := e.tag, order := e.order }] }

/-- The state of a line that has been delivered (R131). -/
def deliveredState : Lane → LineState
  | .order _ => .arrived
  | .reject => .withdrawn

/-! ## The closure under what requests and events do -/

/-- A property `P` that the changes of the drive groups, the watchdog and the torque monitor keep. `W` is what remains of it
while RUN lines fall one after another and the measurement engine has not followed yet (R151; log 48). -/
structure DriveClosed (P W : State → Prop) : Prop where
  event : ∀ s e, P s → P (raiseEvent e s)
  unscanned : ∀ s p, P s → P (s.modPort p fun port => { port with scan := none })
  tasks : ∀ s ts, P s → P (s.setAudit { s.audit with tasks := ts })
  generation : ∀ s, P s → P (s.setAudit { s.audit with generation := countUp s.audit.generation })
  -- RUN lines that fall before the engine follows
  holding : ∀ s, s.link.wdTimer ≠ none → P s → W (s.setLink { s.link with mode := .hold, wdTimer := none })
  eased : ∀ s, P s → W s
  followed : ∀ s, W s → P (followRun s)
  easedEvent : ∀ s e, W s → W (raiseEvent e s)
  easedScan : ∀ s p, W s → W (s.modPort p fun port => { port with scan := none })
  easedTasks : ∀ s ts, W s → W (s.setAudit { s.audit with tasks := ts })
  easedHold : ∀ s g, W s → W (holdGroup s g)
  easedIdle : ∀ s g grp, s.groups.get g = some grp → grp.state = .idle → W s → W (s.setGroup g (some grp.paused))
  easedMoving : ∀ s g grp, s.groups.get g = some grp → grp.state = .moving → W s →
    W (s.setGroup g (some { grp with pausePending := true }))
  easedReferencing : ∀ s g grp, s.groups.get g = some grp → grp.state = .referencing → W s →
    W ((lowerRun g s).modGroup g fun grp => { grp.paused with k := none })
  easedFault : ∀ s g grp cause, s.groups.get g = some grp → grp.state ≠ .offline → grp.state ≠ .faulted → cause ≠ .none →
    W s → W ((lowerRun g s).modGroup g fun grp => grp.faultedBy cause)
  easedHome : ∀ s g grp, s.groups.get g = some grp → grp.state = .referencing → W s →
    W ((lowerRun g s).modGroup g Group.homeFound)
  easedStop : ∀ s g grp m, s.groups.get g = some grp → grp.state = .moving → grp.current = some m → m.phase = .travel → W s →
    W ((lowerRun g s).modGroup g Group.stopped)
  easedArrival : ∀ s g grp m, s.groups.get g = some grp → grp.state = .moving → grp.current = some m → m.phase = .travel →
    W s → W ((lowerRun g s).modGroup g Group.arrived)
  -- the groups
  idlePaused : ∀ s g grp, s.groups.get g = some grp → grp.state = .idle → P s → P (s.setGroup g (some grp.paused))
  movingPaused : ∀ s g grp, s.groups.get g = some grp → grp.state = .moving → P s →
    P (s.setGroup g (some { grp with pausePending := true }))
  noted : ∀ s g grp grp', s.groups.get g = some grp → grp'.NotedFrom grp → P s → P (s.setGroup g (some grp'))
  visited : ∀ s, P s → P (beginVisit s)
  referencingMarked : ∀ s g grp, s.groups.get g = some grp → grp.state = .referencing → (s.channels.get g).run = true → P s →
    P (s.setGroup g (some grp.referencingMarked))
  travelMarked : ∀ s g grp m k home v, s.groups.get g = some grp → grp.state = .moving → grp.current = some m →
    m.phase = .travel → P s → P (s.setGroup g (some (grp.atMark k home v)))

/-- A property `P` that every change of a request or an event keeps. -/
structure WorkClosed (P W : State → Prop) : Prop extends TurnClosed P, DriveClosed P W where
  -- the link unit
  acked : ∀ s n, P s → P (s.setLink { s.link with flags := clearFlags n s.link.flags })
  linkSet : ∀ s code mask, s.link.receiver ≠ .off → (code ≤ 5 ∨ code = 7) → P s → P (s.setLink (s.link.configure code mask))
  resumed : ∀ s, s.link.mode = .hold → P s →
    P (s.setLink { s.link with mode := .normal, wdTimer := watchdogTimeout s.link.wdCode })
  -- the drive groups
  dflt : ∀ s g b, P s → P (s.modChannel g fun ch => { ch with dflt := b })
  slotBegun : ∀ s g, P s → P { s with startSlot := g }
  settled : ∀ s g grp, s.groups.get g = some grp → grp.state = .moving → grp.settle = true → P s →
    P (s.setGroup g (some grp.settled))
  referenced : ∀ s g grp, s.groups.get g = some grp → grp.state = .referencing → grp.settle = true → P s →
    P (s.setGroup g (some { grp with state := .idle, settle := false }))
  continued : ∀ s g grp, s.groups.get g = some grp → P s → P (s.setGroup g (some grp.continued))
  groupCleared : ∀ s g grp, s.groups.get g = some grp → grp.state = .faulted → P s → P (s.setGroup g (some grp.cleared))
  commissioned : ∀ s g grp, s.groups.get g = some grp → firstFailure (commissionChecks s grp) = none → P s →
    P (s.setGroup g (some (grp.commissioned (s.freshProfile g))))
  unloaded : ∀ s g grp, s.groups.get g = some grp → grp.state = .offline → P s →
    P (s.setGroup g (some (grp.unloaded (s.geometry g).carriers)))
  configured : ∀ s x r, firstFailure (carouselFieldChecks r) = none → indexOf r.carousel = some x →
    firstFailure (carouselGroupChecks s x r) = none → P s → P (configureCarousel x r.config s)
  defined : ∀ s g r, firstFailure (groupFieldChecks r) = none → indexOf r.group = some g →
    firstFailure (groupStateChecks s g r.memberList) = none → P s → P (defineGroup g r.memberList r.params s)
  groupReset : ∀ s g grp, s.groups.get g = some grp → firstFailure (resetGroupChecks s grp) = none → P s →
    P (resetGroup g grp s)
  -- the slot map, the stores, the orders and the audits
  mapSet : ∀ s x m, P s → P (s.setMap x m)
  stored : ∀ s p o, (∀ r, o = some r → r.waited.getD 0 ≤ 65535) → P s → P (s.setStore p o)
  opened : ∀ s os, P s → P (s.setSched { s.sched with orders := os, openCounter := countUp s.sched.openCounter })
  consumed : ∀ s n, P s → P (s.setAudit { s.audit with log := s.audit.log.drop n })
  -- the ports
  restJudged : ∀ s p home extended load, (s.ports.get p).awaitingRest = true → P s →
    P (s.modPort p fun port => port.judged home extended load)
  inputTaken : ∀ s p i v, P s → P (s.modPort p fun port => port.take i v)
  infeedSet : ∀ s p i, P s → P (s.modPort p fun port => { port with infeed := i })
  rescanned : ∀ s p sc sc', (s.ports.get p).scan = some sc → P s → P (s.modPort p fun port => { port with scan := some sc' })
  insertionEnded : ∀ s p, (s.ports.get p).shuttle = .inserting → P s →
    P (s.modPort p fun port =>
      { port with shuttle := .homeEmpty, insertOut := false, job := none, transferTimer := none })
  extractionEnded : ∀ s p lr, (s.ports.get p).shuttle = .extracting → P s →
    P (s.modPort p fun port =>
      { port with shuttle := .homeLoaded, extractOut := false, job := none, transferTimer := none, loadRec := some lr })
  insertionJammed : ∀ s p c l, (s.ports.get p).shuttle = .inserting → P s →
    P (s.modPort p fun port =>
      { port with shuttle := .faulted, insertOut := false, job := none, transferTimer := none, fault := some (.insert p c l p) })
  extractionJammed : ∀ s p c l id seq, (s.ports.get p).shuttle = .extracting → P s →
    P (s.modPort p fun port =>
      { port with shuttle := .faulted, extractOut := false, job := none, transferTimer := none,
                  fault := some (.extract c l id seq) })
  releaseJammed : ∀ s p, (s.ports.get p).shuttle = .releasing → P s →
    P ((s.modPort p fun port =>
      { port with shuttle := .faulted, releaseOut := false, transferTimer := none, fault := some .release }).setStation
        { s.station with releasePort := none })
  releaseEnded : ∀ s p e, s.station.releasePort = some p → P s →
    P (judgeHigh ((s.modPort p fun port =>
      { port with shuttle := .homeEmpty, releaseOut := false, transferTimer := none, loadRec := none }).setStation
        { s.station with releasePort := none, collector := s.station.collector ++ [e] }))
  portCleared : ∀ s p, firstFailure (clearPortChecks (s.ports.get p)) = none → P s →
    P (s.setPort p (s.ports.get p).cleared)
  -- the station
  rejectEmptied : ∀ s, P s → P (s.setStation { s.station with reject := [] })
  settingsReplaced : ∀ s r, firstFailure (settingsChecks r) = none → P s → P (replaceSettings r s)
  unpaused : ∀ s, s.station.collector.length ≤ s.station.settings.low → P s →
    P (s.setStation { s.station with paused := false })
  noDiversion : ∀ s, s.station.divertingNow = false → P s → P (s.setStation { s.station with diverter := .idle })
  waitsForRoom : ∀ s, s.station.divertingNow = false → P s → P (s.setStation { s.station with diverter := .waitingRoom })
  diversionBegun : ∀ s e rest, s.station.divertingNow = false → s.station.collector = e :: rest →
    s.station.reject.length < 8 → s.station.fault = none → P s → P (beginDiversion e s)
  diversionEnded : ∀ s, s.station.fault = none → P s → P (s.setStation s.station.diversionEnded)
  diversionDelivered : ∀ s e rest dest, s.station.fault = none → s.station.divertingNow = true →
    s.station.collector = e :: rest → P s → P (s.setStation (s.station.diversionEnded.delivered dest e rest))
  faultLeft : ∀ s, s.station.fault ≠ none → P s → P (s.setStation s.station.faultLeft)
  faultDelivered : ∀ s f e rest dest, s.station.fault = some f → f.diversion ≠ none → s.station.collector = e :: rest → P s →
    P (s.setStation (s.station.faultLeft.delivered dest e rest))
  redirected : ∀ s i, s.station.diverter = .diverting (.order i) → P s →
    P (s.setStation { s.station with diverter := .diverting .reject, position := .reject })
  stationFaulted : ∀ s kind, s.station.fault = none → P s →
    P (s.setStation { s.station with
      fault := some { kind := kind, diversion := s.diversionInFlight, lateArrival := none, strayCount := 0 }
      drive := false, send := false, diversionTimer := none })
  strayCounted : ∀ s f, s.station.fault = some f → P s →
    P (s.setStation { s.station with fault := some { f with strayCount := min (f.strayCount + 1) 255 } })
  lateEntered : ∀ s f lane, s.station.fault = some f → P s →
    P (s.setStation { s.station with fault := some (f.lateEntry lane) })

/-! ## What the compound changes are made of -/

theorem modGroup_followRun (s : State) (g : Index) (f : Group → Group) :
    (followRun s).modGroup g f = followRun (s.modGroup g f) := by
  obtain ⟨e, he, -⟩ := followRun_spec s
  rw [modGroup_eq, modGroup_eq s, followRun_groups s (s.groups.set g ((s.groups.get g).map f)), he]
  rfl

theorem dropRun_modGroup (s : State) (g : Index) (f : Group → Group) :
    (dropRun g s).modGroup g f = followRun ((lowerRun g s).modGroup g f) := modGroup_followRun _ _ _

theorem firstFailure_none_iff {cs : List (Bool × Reason × Nat)} : firstFailure cs = none ↔ ∀ c ∈ cs, c.1 = true := by
  induction cs with
  | nil => simp [firstFailure]
  | cons c cs ih =>
    obtain ⟨ok, reason, detail⟩ := c
    cases ok <;> simp [firstFailure, ih]

/-- What is kept by a body under its checks, and by refusing, is kept by the checked body. -/
theorem keeps_checked {P : State → Prop} {s : State} (cs : List (Bool × Reason × Nat)) (b : State × Answer) (hs : P s)
    (hb : firstFailure cs = none → P b.1) : P (checked s cs b).1 := by
  unfold checked
  split
  · exact hs
  · exact hb ‹_›

theorem keeps_withGroup {P : State → Prop} {s : State} (n : Nat) (body : Index → Group → State × Answer) (hs : P s)
    (hb : ∀ g grp, s.groups.get g = some grp → P (body g grp).1) : P (withGroup n s body).1 := by
  unfold withGroup
  split
  · exact hs
  · split
    · exact hs
    · exact hb _ _ ‹_›

theorem keeps_withCarousel {P : State → Prop} {s : State} (n : Nat) (body : Index → State × Answer) (hs : P s)
    (hb : ∀ x, P (body x).1) : P (withCarousel n s body).1 := by
  unfold withCarousel
  split
  · exact hs
  · exact hb _

theorem deliverHead_cons {s : State} {e : CollectorItem} {rest : List CollectorItem} (h : s.station.collector = e :: rest)
    (dest : Lane) : deliverHead dest s =
      judgeOrder e.order ((s.setStation (s.station.delivered dest e rest)).setLine e.order e.line (deliveredState dest)) := by
  unfold deliverHead
  rw [h]
  cases dest <;> rfl

theorem deliverHead_nil {s : State} (h : s.station.collector = []) (dest : Lane) : deliverHead dest s = s := by
  unfold deliverHead
  rw [h]

theorem leaveFault_eq (s : State) : leaveFault s = s.setStation s.station.faultLeft := by
  unfold leaveFault Station.faultLeft
  cases s.station.diverter <;> rfl

theorem keeps_judgeHigh {P : State → Prop} {s : State}
    (hp : s.station.settings.high ≤ s.station.collector.length → P s → P (s.setStation { s.station with paused := true }))
    (hs : P s) : P (judgeHigh s) := by
  unfold judgeHigh
  split
  · exact hp ‹_› hs
  · exact hs

/-! ## The shared operations -/

namespace DriveClosed

variable {P W : State → Prop} (h : DriveClosed P W)
include h

theorem modTask {s : State} (x : Index) (f : AuditTask → AuditTask) (hs : P s) : P (s.modTask x f) := by
  unfold State.modTask
  split
  · exact h.tasks _ _ hs
  · exact hs

theorem modGroupNoted {s : State} (g : Index) (f : Group → Group) (hf : ∀ grp, (f grp).NotedFrom grp) (hs : P s) :
    P (s.modGroup g f) :=
  TurnClosed.modGroupIf (fun _ hg => h.noted _ _ _ _ hg (hf _) hs) hs

theorem discardScan {s : State} (p : Index) (hs : P s) : P (discardScan p s) := by
  unfold Machine.discardScan
  split
  · have h1 := h.unscanned _ p hs
    dsimp only
    split
    · exact h.modTask _ _ h1
    · exact h1
    · exact h1
  · exact hs

theorem discardScans {s : State} (g : Index) (hs : P s) : P (discardScans g s) :=
  TurnClosed.foldl _ (fun _ p hs => h.discardScan p hs) _ _ hs

theorem easedDiscardScan {s : State} (p : Index) (hs : W s) : W (Machine.discardScan p s) := by
  unfold Machine.discardScan
  split
  · have h1 := h.easedScan _ p hs
    dsimp only
    split
    · unfold State.modTask
      split
      · exact h.easedTasks _ _ h1
      · exact h1
    · exact h1
    · exact h1
  · exact hs

theorem easedDiscardScans {s : State} (g : Index) (hs : W s) : W (Machine.discardScans g s) :=
  TurnClosed.foldl _ (fun _ p hs => h.easedDiscardScan p hs) _ _ hs

theorem groupFault {s : State} (g : Index) (cause : FaultCause) (hc : cause ≠ .none) (hs : P s) : P (groupFault g cause s) := by
  unfold Machine.groupFault
  split
  · exact hs
  · rename_i grp hg
    split
    · exact hs
    · rename_i hst
      have h1 := h.easedFault s g grp cause hg (fun e => hst (.inl e)) (fun e => hst (.inr e)) hc (h.eased _ hs)
      have h2 := h.event _ .groupFault (h.discardScans g (h.followed _ h1))
      dsimp only
      rw [dropRun_modGroup]
      split
      · exact h.event _ _ h2
      · exact h2

theorem startTask {s : State} (x : Index) (o : Origin) (k : Check) (sel : Selection) (l : List Nat) (hs : P s) :
    P (startTask x o k sel l s) := h.tasks _ _ (h.generation _ hs)

theorem startAutoTasks {s : State} (g : Index) (xs : List Index) (hs : P s) : P (startAutoTasks g xs s) := by
  refine TurnClosed.foldl _ (fun s x hs => ?_) _ _ hs
  split
  · exact hs
  · exact h.startTask _ _ _ _ _ hs

theorem becomeSuspect {s : State} (g : Index) (hs : P s) : P (becomeSuspect g s) := by
  unfold Machine.becomeSuspect
  split
  · exact hs
  · have h1 := h.event _ .balanceSuspect (h.modGroupNoted (s := s) g (fun grp => { grp with suspect := true, watch := none })
      (fun _ => ⟨rfl, id, id⟩) hs)
    dsimp only
    split
    · split
      · exact h.startAutoTasks _ _ h1
      · exact h.modGroupNoted _ _ (fun _ => ⟨rfl, id, id⟩) (h.startAutoTasks _ _ h1)
    · exact h1

theorem judgeMove {s : State} (g : Index) (hs : P s) : P (judgeMove g s) := by
  unfold Machine.judgeMove
  split
  · exact hs
  · rename_i grp hg
    have h1 : P (s.modGroup g fun grp' => { grp' with deviant := grp.deviantAfter }) := by
      rw [modGroup_some s hg]
      refine h.noted _ _ _ _ hg ⟨rfl, fun hd => ?_, id⟩ hs
      change grp.deviantAfter ≤ 3
      unfold Group.deviantAfter
      split
      · omega
      · split <;> omega
    dsimp only
    split
    · exact h.becomeSuspect _ h1
    · exact h1

theorem endVisit {s : State} (g : Index) (t : Option Int) (hs : P s) : P (endVisit g t s) := by
  unfold Machine.endVisit
  have h1 : P (s.modGroup g fun grp => grp.sampled t) := by
    refine h.modGroupNoted _ _ (fun grp => ?_) hs
    cases t with
    | none => exact ⟨rfl, id, fun _ => Nat.min_le_right _ _⟩
    | some v => exact ⟨rfl, id, fun _ => Nat.zero_le _⟩
  dsimp only
  generalize s.modGroup g (fun grp => grp.sampled t) = s1 at h1 ⊢
  have goOn : ∀ s2, P s2 → P (if s2.audit.engine.measuring = some g then beginVisit s2 else s2) := by
    intro s2 h2
    split
    · exact h.visited _ h2
    · exact h2
  refine goOn _ ?_
  split
  · split
    · exact h.groupFault _ _ (by decide) h1
    · exact h1
  · exact h1

end DriveClosed

namespace WorkClosed

variable {P W : State → Prop} (h : WorkClosed P W)
include h

/-! ### The station -/

theorem judgeLow {s : State} (hs : P s) : P (judgeLow s) := by
  unfold Machine.judgeLow
  split
  · rename_i hc
    simp only [Bool.and_eq_true, decide_eq_true_eq] at hc
    exact h.toTurnClosed.judgeGate (h.unpaused _ hc.2 hs)
  · exact hs

theorem testDiversion {s : State} (hs : P s) : P (testDiversion s) := by
  unfold Machine.testDiversion
  split
  · exact hs
  · rename_i hd
    have hn : s.station.divertingNow = false := by
      unfold Station.divertingNow
      split
      · exact absurd ‹_› (hd _)
      · rfl
    split
    · exact h.noDiversion _ hn hs
    · rename_i e rest hc
      split
      · exact h.waitsForRoom _ hn hs
      · rename_i hr
        split
        · exact hs
        · rename_i hf
          exact h.diversionBegun _ _ _ hn hc (Nat.lt_of_not_le hr) (by simpa using hf) hs

theorem afterDelivery {s : State} (hs : P s) : P (afterDelivery s) :=
  h.toTurnClosed.judgeGate (h.judgeLow (h.testDiversion hs))

theorem stationFault {s : State} (kind : StationFaultKind) (hs : P s) : P (stationFault kind s) := by
  unfold Machine.stationFault
  split
  · exact hs
  · exact h.event _ _ (h.stationFaulted _ _ ‹_› hs)

theorem releaseLane {s : State} (lane : Lane) (hs : P s) : P (releaseLane lane s) := by
  unfold Machine.releaseLane
  cases lane with
  | reject => exact h.testDiversion (h.toTurnClosed.judgeGate (h.rejectEmptied _ hs))
  | order i =>
    refine h.toTurnClosed.judgeActivation (h.toTurnClosed.freeLaneRecord _ ?_)
    split
    · exact h.toTurnClosed.freeOrder _ hs
    · exact hs

/-! ### The audit unit -/

theorem consumeLog {s : State} (n : Nat) (hs : P s) : P (consumeLog n s) := by
  unfold Machine.consumeLog
  have h1 := h.consumed _ n hs
  dsimp only
  split
  · exact h1
  · exact TurnClosed.foldl _ (fun _ x hs => h.toTurnClosed.modTask x _ hs) _ _ h1

theorem stopTask {s : State} (x : Index) (t : AuditTask) (hs : P s) : P (stopTask x t s) := by
  unfold Machine.stopTask
  have h1 : P (match t.scan with
      | some _ => Machine.discardScan x s
      | none => s) := by
    split
    · exact h.discardScan _ hs
    · exact hs
  have h2 := h.toTurnClosed.modTask x (fun t => { t with state := .stopped, scan := none }) h1
  dsimp only
  split
  · exact h.toTurnClosed.reportAutoEnd _ _ h2
  · exact h2

end WorkClosed

end Sys2Proof.Machine

/-! SUPPORT. What is closed in the way of `WorkClosed` is kept by the work of every request and of every event. -/

namespace Sys2Proof.Machine

open Sys2Proof

/-! ## What the shared operations leave in single fields -/

@[simp] theorem handMass_planned_stores (s : State) (x : Index) (c : Nat) (dm : Int) :
    (handMass x c dm .planned s).stores = s.stores := by
  unfold handMass
  split
  · rfl
  · split
    · rfl
    · simp [Named.hasE]

@[simp] theorem releaseInbound_stores (s : State) (p : Index) (c l : Nat) : (releaseInbound p c l s).stores = s.stores := by
  unfold releaseInbound
  split
  · rfl
  · split
    · simp
    · rfl

/-! ### The broadcasts -/

/-- The broadcasts are RESUME, PAUSE to all groups and CONTINUE to all groups (R165). -/
theorem broadcast_cases {r : Request} (hr : r ∈ requestKinds) {act : State → State} (hb : r.broadcast = some act) :
    act = resumeDevice ∨ act = pauseAll ∨ act = continueGroups allIndices := by
  have hall : ∀ r ∈ requestKinds, r.broadcast = none ∨ r.broadcast = some resumeDevice
      ∨ r.broadcast = some pauseAll ∨ r.broadcast = some (continueGroups allIndices) := by
    simp [requestKinds, identRequest, statusRequest, setLinkRequest, ackEventsRequest, resumeRequest, resetAllRequest,
      setCarouselRequest, setGroupRequest, commissionRequest, pauseRequest, continueRequest, clearFaultRequest,
      resetGroupRequest, balanceReadRequest, mapBeginRequest, mapPutRequest, mapCommitRequest, mapReadRequest,
      slotQueryRequest, slotResolveRequest, storeRequest, storeWithdrawRequest, storeQueryRequest, orderOpenRequest,
      orderCancelRequest, orderQueryRequest, laneReleaseRequest, setStationRequest, stationQueryRequest, auditStartRequest,
      auditStopRequest, auditQueryRequest, logReadRequest, plainRequest]
  rcases hall r hr with e | e | e | e <;> rw [hb] at e <;> cases e <;> simp

/-! ### The drive groups -/

namespace DriveClosed

variable {P W : State → Prop} (h : DriveClosed P W)
include h

theorem enterReferencing {s : State} (g : Index) (hs : P s) : P (enterReferencing g s) := by
  unfold Machine.enterReferencing
  split
  · exact h.groupFault _ _ (by decide) hs
  · exact hs

theorem easedPause {s : State} (g : Index) (hs : W s) : W (pauseGroup g s) := by
  unfold Machine.pauseGroup
  split
  · exact hs
  · rename_i grp hg
    split <;> rename_i hst
    · exact h.easedDiscardScans _ (h.easedIdle _ _ _ hg hst hs)
    · exact h.easedMoving _ _ _ hg hst hs
    · exact h.easedReferencing _ _ _ hg hst hs
    · exact hs

theorem pauseAll {s : State} (hs : P s) : P (pauseAll s) :=
  h.followed _ (TurnClosed.foldl _ (fun _ g hs => h.easedPause g hs) _ _ (h.eased _ hs))

theorem pauseOne {s : State} {g : Index} {grp : Group} (hg : s.groups.get g = some grp) (hs : P s) : P (pauseOne g grp s) := by
  unfold Machine.pauseOne
  split
  · exact h.followed _ (h.easedPause g (h.eased _ hs))
  · rename_i hr
    unfold Machine.pauseGroup
    simp only [hg]
    split <;> rename_i hst
    · exact h.discardScans _ (h.idlePaused _ _ _ hg hst hs)
    · exact h.movingPaused _ _ _ hg hst hs
    · exact absurd hst hr
    · exact hs

end DriveClosed

namespace WorkClosed

variable {P W : State → Prop} (h : WorkClosed P W)
include h

/-! ### Requests to the link unit -/

theorem runSetLink {s : State} (p : List Byte) (hr : s.link.receiver ≠ .off) (hs : P s) : P (runSetLink p s).1 := by
  refine keeps_checked _ _ hs fun hc => h.linkSet _ _ _ hr ?_ hs
  have h1 := firstFailure_none_iff.mp hc _ List.mem_cons_self
  simpa using h1

theorem runAckEvents {s : State} (p : List Byte) (hs : P s) : P (runAckEvents p s).1 :=
  keeps_checked _ _ hs fun _ => h.acked _ _ hs

theorem resumeDevice {s : State} (hs : P s) : P (resumeDevice s) := by
  unfold Machine.resumeDevice
  split
  · exact hs
  · exact h.toTurnClosed.giveTurns _ _ _ (h.resumed _ ‹_› hs)

/-! ### Requests to carousels, groups and profiles -/

theorem runSetCarousel {s : State} (p : List Byte) (hs : P s) : P (runSetCarousel p s).1 := by
  refine keeps_checked _ _ hs fun hc => ?_
  split
  · exact keeps_checked _ _ hs fun hc' => h.configured _ _ _ hc ‹_› hc' hs
  · exact hs

theorem runSetGroup {s : State} (p : List Byte) (hs : P s) : P (runSetGroup p s).1 := by
  refine keeps_checked _ _ hs fun hc => ?_
  split
  · exact keeps_checked _ _ hs fun hc' => h.defined _ _ _ hc ‹_› hc' hs
  · exact hs

theorem runCommission {s : State} (p : List Byte) (hs : P s) : P (runCommission p s).1 := by
  refine keeps_withGroup _ _ hs fun g grp hg => keeps_checked _ _ hs fun hc => ?_
  have hst : grp.state = .offline := by
    simpa using firstFailure_none_iff.mp hc (grp.state == .offline, .state, 0xFF) (by simp [commissionChecks])
  dsimp only
  split
  · exact h.enterReferencing _ (h.commissioned _ _ _ hg hc hs)
  · exact h.unloaded _ _ _ hg hst hs

theorem runPause {s : State} (p : List Byte) (hs : P s) : P (runPause p s).1 := by
  unfold Machine.runPause
  split
  · exact h.pauseAll hs
  · refine keeps_withGroup _ _ hs fun g grp hg => ?_
    split
    · exact hs
    · exact h.pauseOne hg hs

theorem continueGroups {s : State} (gs : List Index) (hs : P s) : P (continueGroups gs s) :=
  h.toTurnClosed.giveTurns _ _ _ (TurnClosed.foldl _
    (fun s _ hs => TurnClosed.modGroupIf (fun _ hg => h.continued s _ _ hg hs) hs) _ _ hs)

theorem runContinue {s : State} (p : List Byte) (hs : P s) : P (runContinue p s).1 := by
  unfold Machine.runContinue
  split
  · exact h.continueGroups _ hs
  · refine keeps_withGroup _ _ hs fun g grp _ => ?_
    split
    · exact h.continueGroups _ hs
    · exact hs

theorem runResetGroup {s : State} (p : List Byte) (hs : P s) : P (runResetGroup p s).1 :=
  keeps_withGroup _ _ hs fun _ _ hg => keeps_checked _ _ hs fun hc => h.groupReset _ _ _ hg hc hs

omit h in
theorem runBalanceRead {s : State} (p : List Byte) (hs : P s) : P (runBalanceRead p s).1 :=
  keeps_withGroup _ _ hs fun _ _ _ => keeps_checked _ _ hs fun _ => hs

/-! ### CLEAR_FAULT -/

theorem clearGroup {s : State} {g : Index} {grp : Group} (hg : s.groups.get g = some grp) (hs : P s) :
    P (clearGroup g grp s).1 := by
  refine keeps_checked _ _ hs fun hc => h.enterReferencing _ (h.groupCleared _ _ _ hg ?_ hs)
  simpa using firstFailure_none_iff.mp hc _ List.mem_cons_self

theorem clearBalance {s : State} {g : Index} {grp : Group} (hg : s.groups.get g = some grp) (hs : P s) :
    P (clearBalance g grp s).1 :=
  keeps_checked _ _ hs fun _ => h.noted _ _ _ _ hg ⟨rfl, fun _ => Nat.zero_le _, id⟩ hs

theorem afterPortClear {s : State} (old : Port) (hs : P s) : P (afterPortClear old s) := by
  unfold Machine.afterPortClear
  split
  · split
    · exact h.toTurnClosed.judgeGate hs
    · exact h.toTurnClosed.makeShort _ _ _ hs
  · exact hs

theorem clearPort {s : State} (p : Index) (hs : P s) : P (clearPort p s).1 :=
  keeps_checked _ _ hs fun hc => h.toTurnClosed.giveTurns _ _ _ (h.afterPortClear _ (h.portCleared _ _ hc hs))

theorem clearStationFault {s : State} {f : StationFault} (hf : s.station.fault = some f) (delivered : Bool) (hs : P s) :
    P (clearStationFault f delivered s) := by
  have hl : P (leaveFault s) := leaveFault_eq s ▸ h.faultLeft _ (by simp [hf]) hs
  unfold Machine.clearStationFault
  dsimp only
  split
  · rename_i hd
    have hdiv : f.diversion ≠ none := by
      intro hn; simp [hn] at hd
    unfold deliverFaulted
    split
    · rename_i e rest hc
      rw [leaveFault_eq] at hc ⊢
      refine h.afterDelivery ?_
      rw [deliverHead_cons hc]
      exact h.toTurnClosed.judgeOrder _ (h.toTurnClosed.setLine _ _ _ (h.faultDelivered _ _ _ _ _ hf hdiv hc hs))
    · exact h.afterDelivery hl
  · exact h.toTurnClosed.judgeGate (h.testDiversion hl)

theorem clearStation {s : State} (n : Nat) (hs : P s) : P (clearStation n s).1 := by
  unfold Machine.clearStation
  split
  · exact hs
  · exact keeps_checked _ _ hs fun _ => h.toTurnClosed.giveTurns _ _ _ (h.clearStationFault ‹_› _ hs)

theorem runClearFault {s : State} (p : List Byte) (hs : P s) : P (runClearFault p s).1 := by
  unfold Machine.runClearFault
  dsimp only
  split
  · split
    · exact hs
    · split
      · exact keeps_withGroup _ _ hs fun _ _ hg => h.clearGroup hg hs
      · split
        · exact keeps_withGroup _ _ hs fun _ _ hg => h.clearBalance hg hs
        · exact hs
  · split
    · exact hs
    · split
      · exact h.clearPort _ hs
      · exact hs
  · split
    · exact h.clearStation _ hs
    · exact hs
  · exact hs

/-! ### Requests to the slot map -/

theorem runMapBegin {s : State} (p : List Byte) (hs : P s) : P (runMapBegin p s).1 := by
  refine keeps_withCarousel _ _ hs fun x => ?_
  split
  · exact hs
  · exact keeps_checked _ _ hs fun _ => h.mapSet _ _ _ hs

theorem runMapPut {s : State} (p : List Byte) (hs : P s) : P (runMapPut p s).1 :=
  keeps_withCarousel _ _ hs fun _ => keeps_checked _ _ hs fun _ => h.mapSet _ _ _ hs

theorem runMapCommit {s : State} (p : List Byte) (hs : P s) : P (runMapCommit p s).1 := by
  refine keeps_withCarousel _ _ hs fun x => ?_
  dsimp only
  split
  · split <;> exact h.mapSet _ _ _ hs
  · exact hs

omit h in
theorem runMapRead {s : State} (p : List Byte) (hs : P s) : P (runMapRead p s).1 :=
  keeps_withCarousel _ _ hs fun _ => keeps_checked _ _ hs fun _ => hs

omit h in
theorem runSlotQuery {s : State} (p : List Byte) (hs : P s) : P (runSlotQuery p s).1 :=
  keeps_withCarousel _ _ hs fun _ => keeps_checked _ _ hs fun _ => hs

theorem runSlotResolve {s : State} (p : List Byte) (hs : P s) : P (runSlotResolve p s).1 := by
  refine keeps_withCarousel _ _ hs fun x => ?_
  split
  · refine keeps_checked _ _ hs fun _ => ?_
    split
    · exact keeps_checked _ _ hs fun _ =>
        h.toTurnClosed.giveTurns _ _ _ (h.toTurnClosed.handMass _ _ _ _ (h.slot _ _ _ _ _ hs))
    · exact hs
  · exact hs

/-! ### Requests to the put-away unit -/

theorem openStore {s : State} (p : Index) (r : StoreRequest) (hs : P s) : P (openStore p r s) :=
  h.infeedSet _ _ _ (h.stored _ _ _ (fun _ e => by cases e; exact Nat.zero_le _) hs)

theorem runStore {s : State} (p : List Byte) (hs : P s) : P (runStore p s).1 := by
  refine keeps_checked _ _ hs fun _ => ?_
  split
  · exact keeps_checked _ _ hs fun _ => h.openStore _ _ hs
  · exact hs

theorem releaseInbound {s : State} (p : Index) (c l : Nat) (hs : P s) : P (releaseInbound p c l s) := by
  unfold Machine.releaseInbound
  split
  · exact hs
  · split
    · exact h.toTurnClosed.handMass _ _ _ _ (h.slot _ _ _ _ _ hs)
    · exact hs

theorem withdrawStore {s : State} {p : Index} {r : StoreRecord} (hr : s.stores.get p = some r) (hs : P s) :
    P (withdrawStore p r s) := by
  unfold Machine.withdrawStore
  split
  · exact h.infeedSet _ _ _ (h.store _ _ r _ hr rfl hs)
  · have h1 : P (match r.chosen with
        | some (c, l) => Machine.releaseInbound p c l s
        | none => s) ∧ (match r.chosen with
        | some (c, l) => Machine.releaseInbound p c l s
        | none => s).stores = s.stores := by
      split
      · exact ⟨h.releaseInbound _ _ _ hs, releaseInbound_stores _ _ _ _⟩
      · exact ⟨hs, rfl⟩
    exact h.store _ _ r _ (by rw [setSched_stores]; exact (congrArg (·.get p) h1.2).trans hr) rfl (h.placed _ _ h1.1)
  · exact h.stored _ _ _ (fun _ e => by cases e) hs
  · exact hs

theorem runStoreWithdraw {s : State} (p : List Byte) (hs : P s) : P (runStoreWithdraw p s).1 := by
  unfold Machine.runStoreWithdraw
  split
  · exact hs
  · split
    · exact hs
    · split
      · exact hs
      · exact h.toTurnClosed.giveTurns _ _ _ (h.withdrawStore ‹_› hs)

theorem runStoreQuery {s : State} (p : List Byte) (hs : P s) : P (runStoreQuery p s).1 := by
  unfold Machine.runStoreQuery
  split
  · exact hs
  · dsimp only
    unfold queryStore
    split
    · split
      · exact h.stored _ _ _ (fun _ e => by cases e) hs
      · exact hs
    · exact hs

theorem judgePromotion {s : State} (p : Index) (n : Nat) (hs : P s) : P (s.modStore p fun r => r.judged n) :=
  h.toTurnClosed.modStore _ _ (fun r => by unfold StoreRecord.judged; split <;> rfl) hs

theorem tick {s : State} (p : Index) (n : Nat) (hs : P s) : P (s.modStore p fun r => r.aged.judged n) := by
  unfold State.modStore
  split
  · rename_i r hr
    by_cases hp : r.state = .placed
    · refine h.stored _ _ _ (fun r' e => ?_) hs
      cases e
      have hw : (r.aged.judged n).waited = r.aged.waited := by unfold StoreRecord.judged; split <;> rfl
      rw [hw, StoreRecord.aged, if_pos hp]
      exact Nat.min_le_right _ _
    · have ha : r.aged = r := if_neg hp
      refine h.store _ _ r _ hr ?_ hs
      change (r.aged.judged n).waited = r.waited
      rw [ha, StoreRecord.judged]
      split <;> rfl
  · exact hs

/-! ### Requests to the order scheduler -/

theorem reserveOut {s : State} (id : Id32) (l : Line) (hs : P s) : P (reserveOut id s l) :=
  h.toTurnClosed.handMass _ _ _ _ (h.toTurnClosed.modSlot _ _ _ _ hs)

theorem openOrder {s : State} (r : OrderRequest) (hs : P s) : P (openOrder r s) := by
  have h1 := h.opened s (s.sched.orders.set s.freeEntry (some (newOrder s r))) hs
  have hseq : (newOrder s r).openSeq = countUp s.sched.openCounter := rfl
  unfold Machine.openOrder
  dsimp only
  rw [hseq]
  exact h.toTurnClosed.judgeActivation
    (TurnClosed.foldl (Machine.reserveOut r.id) (fun _ l hs => h.reserveOut r.id l hs) (newOrder s r).lines _ h1)

theorem runOrderOpen {s : State} (p : List Byte) (hs : P s) : P (runOrderOpen p s).1 := by
  refine keeps_checked _ _ hs fun _ => ?_
  dsimp only
  exact h.toTurnClosed.giveTurns _ _ _ (h.openOrder _ hs)

theorem releaseOut {s : State} (id : Id32) (l : Line) (hs : P s) : P (releaseOut id s l) := by
  unfold Machine.releaseOut
  split
  · split
    · split
      · exact h.toTurnClosed.handMass _ _ _ _ (h.slot _ _ _ _ _ hs)
      · exact hs
    · exact hs
  · exact hs

theorem loseCheck {s : State} (id : Id32) (l : Line) (hs : P s) : P (loseCheck id s l) := by
  unfold Machine.loseCheck
  split
  · cases hsc : (s.ports.get l.carousel).scan with
    | none =>
      have : (s.modPort l.carousel fun port => { port with scan := port.scan.map fun sc => sc.withdraw id l.seq }) = s := by
        have same : ∀ q : Port, q.scan = none → { q with scan := q.scan.map fun sc => sc.withdraw id l.seq } = q := by
          intro q hq
          cases q
          cases hq
          rfl
        unfold State.modPort State.setPort
        dsimp only
        rw [same _ hsc, Quad.set_eq_self rfl]
      rw [this]
      exact hs
    | some sc =>
      have h1 := h.rescanned s l.carousel sc (sc.withdraw id l.seq) hsc hs
      unfold State.modPort at h1 ⊢
      dsimp only
      rw [hsc]
      exact h1
  · exact hs

theorem redirect {s : State} (hs : P s) : P (redirect s) := by
  unfold Machine.redirect
  split
  · split
    · exact h.redirected _ _ ‹_› hs
    · exact hs
  · exact hs

theorem cancelLines {s : State} (o : Order) (hs : P s) : P (cancelLines o s) := by
  have h1 := TurnClosed.foldl (Machine.releaseOut o.id) (fun _ l hs => h.releaseOut o.id l hs) o.lines s hs
  have h2 := TurnClosed.foldl (Machine.loseCheck o.id) (fun _ l hs => h.loseCheck o.id l hs) o.lines _ h1
  exact h.toTurnClosed.judgeGate (h.toTurnClosed.judgeOrder _ (h.redirect (h.toTurnClosed.modOrder _ _ h2)))

theorem runOrderCancel {s : State} (p : List Byte) (hs : P s) : P (runOrderCancel p s).1 := by
  unfold Machine.runOrderCancel
  split
  · exact hs
  · split
    · exact h.toTurnClosed.giveTurns _ _ _ (h.cancelLines _ hs)
    · exact hs

omit h in
theorem runOrderQuery {s : State} (p : List Byte) (hs : P s) : P (runOrderQuery p s).1 := by
  unfold Machine.runOrderQuery
  split <;> exact hs

/-! ### Requests to the station and the audit unit -/

theorem runLaneRelease {s : State} (p : List Byte) (hs : P s) : P (runLaneRelease p s).1 := by
  unfold Machine.runLaneRelease
  split
  · exact hs
  · split
    · exact hs
    · exact h.toTurnClosed.giveTurns _ _ _ (h.releaseLane _ hs)

theorem runSetStation {s : State} (p : List Byte) (hs : P s) : P (runSetStation p s).1 :=
  keeps_checked _ _ hs fun hc => h.toTurnClosed.giveTurns _ _ _ (h.settingsReplaced _ _ hc hs)

omit h in
theorem runStationQuery {s : State} (p : List Byte) (hs : P s) : P (runStationQuery p s).1 := by
  unfold Machine.runStationQuery
  split <;> exact hs

theorem runAuditStart {s : State} (p : List Byte) (hs : P s) : P (runAuditStart p s).1 :=
  keeps_withCarousel _ _ hs fun _ => keeps_checked _ _ hs fun _ => h.toTurnClosed.giveTurns _ _ _ (h.startTask _ _ _ _ _ hs)

theorem runAuditStop {s : State} (p : List Byte) (hs : P s) : P (runAuditStop p s).1 := by
  refine keeps_withCarousel _ _ hs fun x => ?_
  split
  · exact hs
  · split
    · exact h.toTurnClosed.giveTurns _ _ _ (h.stopTask _ _ hs)
    · exact hs

theorem runLogRead {s : State} (p : List Byte) (hs : P s) : P (runLogRead p s).1 :=
  keeps_checked _ _ hs fun _ => h.toTurnClosed.giveTurns _ _ _ (h.consumeLog _ hs)

/-- Every request keeps what is closed. -/
theorem run {s : State} {r : Request} (hr : r ∈ requestKinds) (p : List Byte) (hon : s.link.receiver ≠ .off) (hs : P s) : P (r.run p s).1 := by
  simp only [requestKinds, List.mem_cons, List.not_mem_nil, or_false] at hr
  rcases hr with rfl | rfl | rfl | rfl | rfl | rfl | rfl | rfl | rfl | rfl | rfl | rfl | rfl | rfl | rfl | rfl | rfl | rfl |
    rfl | rfl | rfl | rfl | rfl | rfl | rfl | rfl | rfl | rfl | rfl | rfl | rfl | rfl | rfl
  · exact hs
  · exact hs
  · exact h.runSetLink p hon hs
  · exact h.runAckEvents p hs
  · exact h.resumeDevice hs
  · exact hs
  · exact h.runSetCarousel p hs
  · exact h.runSetGroup p hs
  · exact h.runCommission p hs
  · exact h.runPause p hs
  · exact h.runContinue p hs
  · exact h.runClearFault p hs
  · exact h.runResetGroup p hs
  · exact runBalanceRead p hs
  · exact h.runMapBegin p hs
  · exact h.runMapPut p hs
  · exact h.runMapCommit p hs
  · exact runMapRead p hs
  · exact runSlotQuery p hs
  · exact h.runSlotResolve p hs
  · exact h.runStore p hs
  · exact h.runStoreWithdraw p hs
  · exact h.runStoreQuery p hs
  · exact h.runOrderOpen p hs
  · exact h.runOrderCancel p hs
  · exact runOrderQuery p hs
  · exact h.runLaneRelease p hs
  · exact h.runSetStation p hs
  · exact runStationQuery p hs
  · exact h.runAuditStart p hs
  · exact h.runAuditStop p hs
  · exact keeps_withCarousel _ _ hs fun _ => hs
  · exact h.runLogRead p hs

/-- Every broadcast keeps what is closed. -/
theorem broadcast {s : State} {r : Request} (hr : r ∈ requestKinds) {act : State → State} (hb : r.broadcast = some act)
    (hs : P s) : P (act s) := by
  rcases broadcast_cases hr hb with rfl | rfl | rfl
  · exact h.resumeDevice hs
  · exact h.pauseAll hs
  · exact h.continueGroups _ hs

end WorkClosed

end Sys2Proof.Machine

/-! SUPPORT. What is closed in the way of `WorkClosed` is kept by every event; with the closure under what the line does, by every
step. -/

namespace Sys2Proof.Machine

open Sys2Proof

/-- Reporting a mark changes what the torque monitor keeps and nothing else. -/
theorem reportMark_noted (grp : Group) (k : Nat) (last : Bool) : (grp.reportMark k last).NotedFrom grp := by
  unfold Group.reportMark Group.compareAt
  dsimp only
  split
  · exact ⟨rfl, id, id⟩
  · split
    · exact ⟨rfl, id, id⟩
    · exact ⟨rfl, id, id⟩

@[simp] theorem reportMark_state (grp : Group) (k : Nat) (last : Bool) : (grp.reportMark k last).state = grp.state :=
  show (grp.reportMark k last).noteless.state = grp.noteless.state by rw [(reportMark_noted grp k last).core]

@[simp] theorem reportMark_current (grp : Group) (k : Nat) (last : Bool) : (grp.reportMark k last).current = grp.current :=
  show (grp.reportMark k last).noteless.current = grp.noteless.current by rw [(reportMark_noted grp k last).core]

/-- What a mark leaves of a group besides the offset, the stall timer and the counters. -/
theorem atMark_kept (grp : Group) (k : Nat) (home : Bool) (v : MarkVerdict) :
    (grp.atMark k home v).state = grp.state ∧ (grp.atMark k home v).current = grp.current := by
  unfold Group.atMark
  cases v with
  | recrossing => exact ⟨rfl, rfl⟩
  | fault => exact ⟨rfl, rfl⟩
  | step d => cases home <;> exact ⟨rfl, rfl⟩

namespace DriveClosed

variable {P W : State → Prop} (h : DriveClosed P W)
include h

/-! ### Events of the drive groups -/

theorem watchdogExpiry {s : State} (hw : s.link.wdTimer ≠ none) (hs : P s) :
    P (followRun (allIndices.foldl holdGroup (raiseEvent .hold (s.setLink { s.link with mode := .hold, wdTimer := none })))) :=
  h.followed _ (TurnClosed.foldl _ (fun _ g hs => h.easedHold _ g hs) _ _ (h.easedEvent _ _ (h.holding _ hw hs)))

theorem zeroCount {s : State} (g : Index) (hs : P s) : P (zeroCount g s) :=
  h.modGroupNoted _ _ (fun _ => ⟨rfl, id, id⟩) hs

theorem positionFault {s : State} (g : Index) (hs : P s) : P (Machine.groupFault g .position s) :=
  h.groupFault g _ (by decide) hs

theorem stationaryMark {s : State} (g : Index) (grp : Group) (k : Nat) (home : Bool) (hs : P s) :
    P (stationaryMark g grp k home s) := by
  unfold Machine.stationaryMark
  split
  · have h1 : P ((Machine.zeroCount g s).modGroup g Group.countRecrossing) :=
      h.modGroupNoted _ _ (fun _ => ⟨rfl, id, id⟩) (h.zeroCount g hs)
    dsimp only
    split
    · exact h1
    · exact h.positionFault g h1
  · split
    · exact h.positionFault g (h.zeroCount g hs)
    · exact h.positionFault g hs

theorem findHome {s : State} {g : Index} {grp : Group} (hg : s.groups.get g = some grp) (hst : grp.state = .referencing)
    (hs : P s) : P (findHome g s) := by
  have h1 := h.followed _ (h.easedHome _ _ _ hg hst (h.eased _ hs))
  rwa [← dropRun_modGroup] at h1

theorem referencingMark {s : State} {g : Index} {grp : Group} (home : Bool) (hg : s.groups.get g = some grp)
    (hst : grp.state = .referencing) (hr : (s.channels.get g).run = true) (hs : P s) : P (referencingMark g grp home s) := by
  have h1 := h.referencingMarked _ _ _ hg hst hr hs
  have hm : (s.modGroup g fun grp' =>
      { grp' with markCount := grp.markCount + 1, encoder := 0, stallTimer := some grp'.params.stallTime }) =
      s.setGroup g (some grp.referencingMarked) := modGroup_some s hg
  unfold Machine.referencingMark
  dsimp only
  rw [hm]
  split
  · exact h.positionFault g h1
  · split
    · exact h.findHome (grp := grp.referencingMarked) (by simp) hst h1
    · split
      · exact h.positionFault g h1
      · exact h1

theorem stopMove {s : State} {g : Index} {grp : Group} {m : Move} (hg : s.groups.get g = some grp) (hst : grp.state = .moving)
    (hc : grp.current = some m) (hm : m.phase = .travel) (hs : P s) : P (stopMove g s) := by
  have h1 := h.followed _ (h.easedStop _ _ _ _ hg hst hc hm (h.eased _ hs))
  rw [← dropRun_modGroup] at h1
  exact h.judgeMove g h1

theorem arrive {s : State} {g : Index} {grp : Group} {m : Move} (hg : s.groups.get g = some grp) (hst : grp.state = .moving)
    (hc : grp.current = some m) (hm : m.phase = .travel) (hs : P s) : P (arrive g s) := by
  have h1 := h.followed _ (h.easedArrival _ _ _ _ hg hst hc hm (h.eased _ hs))
  rw [← dropRun_modGroup] at h1
  exact h.judgeMove g h1

theorem dealWithMark {s : State} {g : Index} {grp : Group} {m : Move} (k : Nat) (hg : s.groups.get g = some grp)
    (hst : grp.state = .moving) (hc : grp.current = some m) (hm : m.phase = .travel) (hs : P s) : P (dealWithMark g m k s) := by
  unfold Machine.dealWithMark
  simp only [hg]
  have h1 := h.modGroupNoted (s := s) g (fun grp' => grp'.reportMark k ((grp.pausePending || m.holdStop) || k == m.target))
    (fun _ => reportMark_noted _ _ _) hs
  have hg1 : (s.modGroup g fun grp' => grp'.reportMark k ((grp.pausePending || m.holdStop) || k == m.target)).groups.get g
      = some (grp.reportMark k ((grp.pausePending || m.holdStop) || k == m.target)) := by simp [hg]
  split
  · exact h.stopMove hg1 (by simpa) (by simpa) hm h1
  · split
    · exact h.arrive hg1 (by simpa) (by simpa) hm h1
    · exact h1

theorem travelMark {s : State} {g : Index} {grp : Group} {m : Move} (k : Nat) (home : Bool) (hg : s.groups.get g = some grp)
    (hst : grp.state = .moving) (hc : grp.current = some m) (hm : m.phase = .travel) (hs : P s) :
    P (travelMark g grp m k home s) := by
  unfold Machine.travelMark
  dsimp only
  split
  · exact h.positionFault g (h.zeroCount g hs)
  · have goOn : ∀ k' v, P (if homeAgrees home k' then Machine.dealWithMark g m k' (s.setGroup g (some (grp.atMark k' home v)))
        else Machine.groupFault g .position (s.setGroup g (some (grp.atMark k' home v)))) := by
      intro k' v
      have h1 := h.travelMarked s g grp m k' home v hg hst hc hm hs
      obtain ⟨hst', hc'⟩ := atMark_kept grp k' home v
      split
      · exact h.dealWithMark _ (by simp) (hst'.trans hst) (hc'.trans hc) hm h1
      · exact h.positionFault g h1
    exact goOn _ _

theorem takeMark {s : State} (g : Index) (home : Bool) (hs : P s) : P (takeMark g home s) := by
  unfold Machine.takeMark
  split
  · exact hs
  · rename_i grp hg
    split <;> rename_i hst
    · exact hs
    · exact hs
    · split
      · exact h.referencingMark home hg hst ‹_› hs
      · split
        · exact h.stationaryMark _ _ _ _ hs
        · exact hs
    · split
      · exact h.stationaryMark _ _ _ _ hs
      · exact hs
    · split
      · exact h.stationaryMark _ _ _ _ hs
      · exact hs
    · split
      · exact hs
      · split
        · split
          · exact h.travelMark _ _ hg hst ‹_› ‹_› hs
          · exact h.stationaryMark _ _ _ _ hs
        · exact h.stationaryMark _ _ _ _ hs

theorem pulse {s : State} (g : Index) (forward : Bool) (hs : P s) : P (s.modGroup g fun grp => grp.pulse forward) := by
  refine h.modGroupNoted _ _ (fun grp => ?_) hs
  unfold Group.pulse
  split
  · exact ⟨rfl, id, id⟩
  · exact ⟨rfl, id, id⟩

end DriveClosed

namespace WorkClosed

variable {P W : State → Prop} (h : WorkClosed P W)
include h

/-! ### Events of the ports -/

theorem completeInsertion {s : State} (p : Index) (hp : (s.ports.get p).shuttle = .inserting) (hs : P s) :
    P (completeInsertion p s) := by
  unfold Machine.completeInsertion
  split
  · rename_i j r _ hr
    have h1 := h.toTurnClosed.modSlot p j.carrier j.level (fun sl => sl.filled r) hs
    have h2 := h.store _ p r { r with state := .done } (by simpa using hr) rfl h1
    exact h.event _ _ (h.insertionEnded _ p (by simpa using hp) h2)
  · exact hs

theorem completeExtraction {s : State} (p : Index) (hp : (s.ports.get p).shuttle = .extracting) (hs : P s) :
    P (completeExtraction p s) := by
  unfold Machine.completeExtraction
  split
  · exact hs
  · split
    · exact hs
    · split
      · exact hs
      · refine h.toTurnClosed.judgeGate (h.toTurnClosed.setLine _ _ _ (h.extractionEnded _ p _ ?_ (h.slot _ _ _ _ _ hs)))
        simpa using hp

theorem takeInput {s : State} (p : Index) (i : PortInput) (v : Bool) (hs : P s) : P (takeInput p i v s).1 := by
  unfold Machine.takeInput
  have h1 : P (judgeInterlock p i v (s.modPort p fun port => port.take i v)) := by
    have h0 := h.inputTaken s p i v hs
    unfold judgeInterlock
    split
    · split
      · exact h.groupFault _ _ (by decide) h0
      · exact h0
    · exact h0
  generalize judgeInterlock p i v (s.modPort p fun port => port.take i v) = s1 at h1
  dsimp only
  split
  · rename_i hd
    refine h.completeInsertion p ?_ h1
    unfold Port.insertionDone at hd
    split at hd
    · assumption
    · cases hd
  · split
    · rename_i hd
      refine h.completeExtraction p ?_ h1
      unfold Port.extractionDone at hd
      split at hd
      · assumption
      · cases hd
    · exact h1

theorem jam {s : State} (p : Index) (hs : P s) : P (jam p s) := by
  unfold Machine.jam
  split <;> rename_i hp
  · unfold jamInsertion
    split
    · rename_i j r _ hr
      have h1 := h.toTurnClosed.modSlot p j.carrier j.level
        (fun sl => { sl.filled r with condition := .blocked, finding := some .insertJam }) hs
      have h2 := h.store _ p r { r with state := .rejected .jam } (by simpa using hr) rfl h1
      exact h.event _ _ (h.event _ _ (h.insertionJammed _ p _ _ (by simpa using hp) h2))
    · exact hs
  · unfold jamExtraction
    split
    · exact hs
    · split
      · exact hs
      · split
        · exact hs
        · refine h.toTurnClosed.makeShort _ _ _ (h.event _ _ (h.extractionJammed _ p _ _ _ _ ?_ (h.slot _ _ _ _ _ hs)))
          simpa using hp
  · unfold jamRelease
    split
    · exact hs
    · exact h.toTurnClosed.judgeGate (h.event _ _ (h.toTurnClosed.setLine _ _ _ (h.releaseJammed _ p hp hs)))
  · exact hs

theorem rejectStore {s : State} (p : Index) (why : StoreReason) (hs : P s) : P (rejectStore p why s) :=
  h.event _ _ (h.toTurnClosed.modStore _ _ (fun _ => rfl) (h.infeedSet _ _ _ hs))

theorem place {s : State} (p : Index) (cand : Candidate) (t m : Nat) (r : StoreRecord) (hs : P s) :
    P (place p cand t m r s) :=
  h.stored _ _ _ (fun _ e => by cases e; exact Nat.zero_le _)
    (h.placed _ _ (h.infeedSet _ _ _ (h.toTurnClosed.handMass _ _ _ _ (h.toTurnClosed.modSlot _ _ _ _ hs))))

theorem runPlacement {s : State} (p : Index) (r : StoreRecord) (m : Nat) (hs : P s) : P (runPlacement p r m s) := by
  unfold Machine.runPlacement
  split
  · split
    · exact h.rejectStore _ _ hs
    · dsimp only
      split
      · exact h.place _ _ _ _ _ hs
      · exact h.rejectStore _ _ hs
  · exact h.rejectStore _ _ hs

theorem judgeWeighing {s : State} (p : Index) (made sum hi lo : Nat) (hs : P s) : P (judgeWeighing p made sum hi lo s) := by
  unfold Machine.judgeWeighing
  split
  · split
    · exact h.rejectStore _ _ hs
    · exact h.infeedSet _ _ _ hs
  · dsimp only
    split
    · exact h.rejectStore _ _ hs
    · unfold endWithMass
      split
      · exact hs
      · exact h.runPlacement _ _ _ (h.store _ _ _ _ ‹_› (by rfl) hs)

theorem takeSample {s : State} (p : Index) (reading : Int) (hs : P s) : P (takeSample p reading s) := by
  unfold Machine.takeSample
  split
  · have h1 := h.toTurnClosed.modStore p (fun r => { r with weighings := r.weighings + 1 }) (fun _ => rfl) hs
    dsimp only
    split
    · exact h.rejectStore _ _ h1
    · split
      · exact h.judgeWeighing _ _ _ _ _ h1
      · exact h.infeedSet _ _ _ hs
  · exact hs

theorem takeInfeedTag {s : State} (p : Index) (answer : Option Id32) (hs : P s) : P (takeInfeedTag p answer s) := by
  unfold Machine.takeInfeedTag
  split
  · split
    · exact h.infeedSet _ _ _ hs
    · exact h.rejectStore _ _ hs
  · exact hs

theorem answerFaceTag {s : State} (p : Index) (level : Nat) (answer : Option Id32) (hs : P s) :
    P (answerFaceTag p level answer s) := by
  unfold Machine.answerFaceTag
  split
  · exact hs
  · have goOn : ∀ sc' : Scan, P (if sc'.complete then endScan p (s.modPort p fun port => { port with scan := some sc' })
        else s.modPort p fun port => { port with scan := some sc' }) := by
      intro sc'
      have h1 := h.rescanned s p _ sc' ‹_› hs
      split
      · exact h.toTurnClosed.endScan _ h1
      · exact h1
    exact goOn _

/-! ### Events of the station -/

theorem completeRelease {s : State} (p : Index) (hp : s.station.releasePort = some p) (hs : P s) : P (completeRelease p s) := by
  unfold Machine.completeRelease
  split
  · exact hs
  · rename_i lr _
    have h1 := h.releaseEnded s p { tag := lr.tag, order := lr.order, line := lr.line } hp hs
    have hcomm : ∀ (t : State) (st : Station), judgeHigh ((t.setLine lr.order lr.line .inTransit).setStation st) =
        (judgeHigh (t.setStation st)).setLine lr.order lr.line .inTransit := by
      intro t st
      unfold judgeHigh
      by_cases hh : st.settings.high ≤ st.collector.length <;> simp only [setStation_station, hh, if_true, if_false] <;> rfl
    have h2 := h.toTurnClosed.setLine lr.order lr.line .inTransit h1
    dsimp only
    rw [hcomm]
    refine h.toTurnClosed.judgeGate ?_
    split
    · exact h.testDiversion h2
    · exact h2

theorem strayEntry {s : State} (hs : P s) : P (strayEntry s) := by
  unfold Machine.strayEntry
  split
  · exact h.strayCounted _ _ ‹_› hs
  · exact h.stationFault _ hs

theorem takeLaneEntry {s : State} (lane : Lane) (hs : P s) : P (takeLaneEntry lane s) := by
  unfold Machine.takeLaneEntry
  split
  · exact h.lateEntered _ _ _ ‹_› hs
  · rename_i d hf hd
    split
    · refine h.afterDelivery ?_
      have he : endDiversion s = s.setStation s.station.diversionEnded := rfl
      rw [he]
      cases hc : s.station.collector with
      | nil => rw [deliverHead_nil (by exact hc)]; exact h.diversionEnded _ hf hs
      | cons e rest =>
        rw [deliverHead_cons (by exact hc)]
        refine h.toTurnClosed.judgeOrder _ (h.toTurnClosed.setLine _ _ _ ?_)
        exact h.diversionDelivered s e rest d hf (by unfold Station.divertingNow; rw [hd]) hc hs
    · exact h.stationFault _ hs
  · exact h.stationFault _ hs

end WorkClosed

/-! ## Requests and events -/

/-- A property that every request and every broadcast keeps. -/
structure RequestClosed (P : State → Prop) : Prop where
  run : ∀ {s : State} {r : Request}, r ∈ requestKinds → ∀ p : List Byte, s.link.receiver ≠ .off → P s → P (r.run p s).1
  broadcast : ∀ {s : State} {r : Request}, r ∈ requestKinds → ∀ {act : State → State}, r.broadcast = some act → P s → P (act s)

/-- A property `P` that every event leaves where the state before it had `A`. -/
structure EventClosed (A P : State → Prop) : Prop where
  weak : ∀ s, A s → P s
  turns : ∀ events before s, P s → P (giveTurns events before s)
  groupFault : ∀ s g cause, cause ≠ .none → P s → P (groupFault g cause s)
  aged : ∀ s p n, P s → P (s.modStore p fun r => r.aged.judged n)
  restJudged : ∀ s p home extended load, (s.ports.get p).awaitingRest = true → A s →
    P (s.modPort p fun port => port.judged home extended load)
  watchdogExpiry : ∀ s, s.link.wdTimer ≠ none → A s →
    P (followRun (allIndices.foldl holdGroup (raiseEvent .hold (s.setLink { s.link with mode := .hold, wdTimer := none }))))
  takeMark : ∀ s g home, A s → P (takeMark g home s)
  pulse : ∀ s g forward, A s → P (s.modGroup g fun grp => grp.pulse forward)
  settled : ∀ s g grp, s.groups.get g = some grp → grp.state = .moving → grp.settle = true → A s →
    P (s.setGroup g (some grp.settled))
  referenced : ∀ s g grp, s.groups.get g = some grp → grp.state = .referencing → grp.settle = true → A s →
    P (s.setGroup g (some { grp with state := .idle, settle := false }))
  dflt : ∀ s g b, A s → P (s.modChannel g fun ch => { ch with dflt := b })
  endVisit : ∀ s g t, A s → P (endVisit g t s)
  takeInput : ∀ s p i v, A s → P (takeInput p i v s).1
  takeInfeedTag : ∀ s p answer, A s → P (takeInfeedTag p answer s)
  takeSample : ∀ s p reading, A s → P (takeSample p reading s)
  answerFaceTag : ∀ s p level answer, A s → P (answerFaceTag p level answer s)
  endScan : ∀ s p, A s → P (endScan p s)
  jam : ∀ s p, A s → P (jam p s)
  completeRelease : ∀ s p, s.station.releasePort = some p → A s → P (completeRelease p s)
  strayEntry : ∀ s, A s → P (strayEntry s)
  takeLaneEntry : ∀ s lane, A s → P (takeLaneEntry lane s)
  stationFault : ∀ s kind, A s → P (stationFault kind s)
  releaseLane : ∀ s lane, A s → P (releaseLane lane s)

namespace WorkClosed

variable {P W : State → Prop} (h : WorkClosed P W)
include h

theorem requests : RequestClosed P := ⟨fun hr p hon hs => h.run hr p hon hs, fun hr _ hb hs => h.broadcast hr hb hs⟩

theorem events : EventClosed P P where
  weak _ := id
  turns events before _ hs := h.toTurnClosed.giveTurns events before _ hs
  groupFault _ g _ hc hs := h.groupFault g _ hc hs
  aged _ p n hs := h.tick p n hs
  restJudged := h.restJudged
  watchdogExpiry _ hw hs := h.watchdogExpiry hw hs
  takeMark _ g home hs := h.takeMark g home hs
  pulse _ g forward hs := h.pulse g forward hs
  settled := h.settled
  referenced := h.referenced
  dflt := h.dflt
  endVisit _ g t hs := h.endVisit g t hs
  takeInput _ p i v hs := h.takeInput p i v hs
  takeInfeedTag _ p answer hs := h.takeInfeedTag p answer hs
  takeSample _ p reading hs := h.takeSample p reading hs
  answerFaceTag _ p level answer hs := h.answerFaceTag p level answer hs
  endScan _ p hs := h.toTurnClosed.endScan p hs
  jam _ p hs := h.jam p hs
  completeRelease _ p hp hs := h.completeRelease p hp hs
  strayEntry _ hs := h.strayEntry hs
  takeLaneEntry _ lane hs := h.takeLaneEntry lane hs
  stationFault _ kind hs := h.stationFault kind hs
  releaseLane _ lane hs := h.releaseLane lane hs

end WorkClosed

/-! ## What the line does -/

/-- A property `P` of the part between frames, and a stronger `Q` of the part that has just heard one, as the line's changes of
the link unit keep them. -/
structure LineClosed (P Q : State → Prop) : Prop where
  weak : ∀ s, Q s → P s
  powered : ∀ s, P s → P { State.reset with choices := s.choices, pending := s.pending }
  reset : ∀ s, P s → P (deviceReset s)
  queued : ∀ s cs, P s → P { s with pending := cs }
  sampled : ∀ s a b, s.link.sampled = false → P s → P (s.setLink { s.link with
    address := a, baud := b, sampled := true, receiver := .hunt, wdTimer := watchdogTimeout s.link.wdCode })
  received : ∀ s r, r ≠ .off → s.link.receiver ≠ .off → (∀ rep, s.link.reply ≠ .waiting rep) → P s → P (s.setReceiver r)
  gap : ∀ s taken, s.link.receiver = .inFrame taken → P s → P (s.setReceiver .hunt)
  dropped : ∀ s r rep, r ≠ .off → s.link.reply = .waiting rep → P s →
    P ((s.setLink { s.link with reply := .none, lineOut := [] }).setReceiver r)
  replyEnded : ∀ s rep, s.link.reply = .waiting rep → P s → P (s.setLink { s.link with reply := .none, lineOut := [] })
  replySent : ∀ s rep, s.link.reply = .sending rep → P s →
    P ((s.setLink { s.link with reply := .none, lineOut := [] }).setReceiver .hunt)
  replySends : ∀ s rep, s.link.reply = .waiting rep → P s → P (s.setLink { s.link with
    reply := .sending rep, receiver := .off, lineOut := replyFrame s.link.address rep })
  heard : ∀ s, s.link.receiver ≠ .off → s.link.resetWaits = false → P s → Q s.heard
  answered : ∀ s rep, Q s → P (s.setLink { s.link with reply := .waiting rep })

/-- A property that does not depend on the link unit is closed under the line's changes once power-on and the reset keep it. -/
theorem LineClosed.of_linkFree {P : State → Prop} (link : ∀ s l, P s → P (s.setLink l))
    (powered : ∀ s, P s → P { State.reset with choices := s.choices, pending := s.pending })
    (reset : ∀ s, P s → P (deviceReset s)) (queued : ∀ s cs, P s → P { s with pending := cs }) : LineClosed P P where
  weak _ := id
  powered := powered
  reset := reset
  queued := queued
  sampled _ _ _ _ := link _ _
  received _ _ _ _ _ := link _ _
  gap _ _ _ := link _ _
  dropped _ _ _ _ _ hs := link _ _ (link _ _ hs)
  replyEnded _ _ _ := link _ _
  replySent _ _ _ hs := link _ _ (link _ _ hs)
  replySends _ _ _ := link _ _
  heard _ _ _ := link _ _
  answered _ _ := link _ _

theorem hearFrame_cases (len : Nat) (act : State → State) (s : State) :
    hearFrame len act s = s ∨ (s.link.resetWaits = true ∧ hearFrame len act s = dropWaiting s)
      ∨ (s.Listens ∧ 200 < len ∧ hearFrame len act s = (dropWaiting s).setReceiver .hunt)
      ∨ (s.Listens ∧ len ≤ 200 ∧ hearFrame len act s = act s.heard) := by
  by_cases hr : s.link.receiver = .off
  · left; unfold hearFrame; rw [hr]
  · right
    cases hw : s.link.resetWaits with
    | true =>
      left; refine ⟨rfl, ?_⟩
      unfold hearFrame
      split
      · exact absurd ‹_› hr
      · rw [if_pos hw]
    | false =>
      right
      have hl : s.Listens := ⟨hr, hw⟩
      rcases Nat.lt_or_ge 200 len with h | h
      · exact .inl ⟨hl, h, hearFrame_of_long hl h act⟩
      · exact .inr ⟨hl, h, hearFrame_of_listens hl h act⟩

namespace LineClosed

variable {P Q : State → Prop} (h : LineClosed P Q)
include h

theorem dropWaiting {s : State} (hs : P s) : P (dropWaiting s) := by
  unfold Machine.dropWaiting
  split
  · unfold endReply
    split
    · exact h.reset _ hs
    · exact h.replyEnded _ _ ‹_› hs
  · exact hs

omit h in
theorem dropWaiting_reply (s : State) (rep : Reply) : (Machine.dropWaiting s).link.reply ≠ .waiting rep := by
  unfold Machine.dropWaiting
  split
  · unfold endReply
    split
    · intro he; cases he
    · intro he; cases he
  · rename_i hn
    exact hn rep

omit h in
theorem dropWaiting_receiver {s : State} (hr : s.link.receiver ≠ .off) : (Machine.dropWaiting s).link.receiver ≠ .off := by
  unfold Machine.dropWaiting
  split
  · unfold endReply
    split
    · intro he; cases he
    · exact hr
  · exact hr

/-- The receiver set by bytes that come while it is on. -/
theorem dropThenReceive {s : State} (r : Receiver) (hn : r ≠ .off) (hr : s.link.receiver ≠ .off) (hs : P s) :
    P ((Machine.dropWaiting s).setReceiver r) :=
  h.received _ _ hn (dropWaiting_receiver hr) (dropWaiting_reply s) (h.dropWaiting hs)

theorem hearFrame {s : State} (len : Nat) (act : State → State) (ha : ∀ s, s.link.receiver ≠ .off → Q s → P (act s))
    (hs : P s) :
    P (hearFrame len act s) := by
  rcases hearFrame_cases len act s with he | ⟨-, he⟩ | ⟨hl, -, he⟩ | ⟨hl, -, he⟩ <;> rw [he]
  · exact hs
  · exact h.dropWaiting hs
  · exact h.dropThenReceive .hunt (by simp) hl.1 hs
  · exact ha _ (by simp) (h.heard _ hl.1 hl.2 hs)

variable (w : RequestClosed Q)
include w

theorem takeRequest {s : State} {r : Request} (hr : r ∈ requestKinds) (p : List Byte) (hs : P s) : P (takeRequest r p s) := by
  refine h.hearFrame _ _ (fun s hon hq => h.answered _ _ ?_) hs
  unfold Request.serve
  split
  · split
    · exact hq
    · exact w.run hr p hon hq
  · exact hq

theorem takeBroadcast {s : State} {r : Request} (hr : r ∈ requestKinds) (p : List Byte) (hs : P s) : P (takeBroadcast r p s) := by
  refine h.hearFrame _ _ (fun s _ hq => h.weak _ ?_) hs
  split
  · split
    · exact w.broadcast hr ‹_› hq
    · exact hq
  · exact hq

theorem takeFrame {s : State} (addr kind : Byte) (p : List Byte) (hs : P s) : P (takeFrame addr kind p s) := by
  have hmem : ∀ {r}, requestOf kind = some r → r ∈ requestKinds := List.mem_of_find?_eq_some
  unfold Machine.takeFrame
  split
  · unfold takeOwnRequest
    split
    · exact h.takeRequest w (hmem ‹_›) p hs
    · exact h.hearFrame _ _ (fun _ _ hq => h.answered _ _ hq) hs
  · unfold takeBroadcastKind
    split
    · exact h.takeBroadcast w (hmem ‹_›) p hs
    · exact h.hearFrame _ _ (fun s _ => h.weak s) hs
  · exact h.hearFrame _ _ (fun s _ => h.weak s) hs

theorem takeByte {s : State} (b : LineByte) (hn : ∀ rep, s.link.reply ≠ .waiting rep) (hs : P s) : P (takeByte b s) := by
  unfold Machine.takeByte
  split
  · exact hs
  · rename_i hr
    split
    · exact h.received _ _ (by simp) (by simp [hr]) hn hs
    · exact hs
  · rename_i taken hr
    split
    · exact h.received _ _ (by simp) (by simp [hr]) hn hs
    · exact h.received _ _ (by simp) (by simp [hr]) hn hs
    · exact h.takeFrame w _ _ _ hs

theorem takeBytes (lost : Option (List Byte)) (bs : List LineByte) (s : State) (hs : P s) : P (takeBytes lost bs s) := by
  induction bs generalizing lost s with
  | nil => exact hs
  | cons b bs ih =>
    unfold Machine.takeBytes
    split
    · exact hs
    · exact ih _ _ hs
    · split
      · exact ih _ _ (h.dropWaiting hs)
      · exact ih _ _ (h.takeByte w b (dropWaiting_reply s) (h.dropWaiting hs))

omit w in
theorem replyComplete {s : State} (hs : P s) : P (match s.link.reply with
    | .sending r => (endReply r s).setReceiver .hunt
    | _ => s) := by
  split
  · unfold endReply
    split
    · exact h.received _ _ (by simp) (by intro he; cases he) (by intro rep he; cases he) (h.reset _ hs)
    · exact h.replySent _ _ ‹_› hs
  · exact hs

omit w in
theorem replyDrop {s : State} (byte : Byte) (hs : P s) : P (match s.link.reply with
    | .waiting r =>
      if r.kind = resetAllKind then endReply r s
      else (endReply r s).setReceiver (if byte = syncByte then .inFrame [byte] else .hunt)
    | _ => s) := by
  split
  · split
    · have hd : endReply ‹_› s = deviceReset s := if_pos ‹_›
      rw [hd]
      exact h.reset _ hs
    · unfold endReply
      rw [if_neg ‹_›]
      exact h.dropped _ _ _ (by split <;> simp) ‹_› hs
  · exact hs

end LineClosed

/-! ## Every command -/

/-- The two starts of a start slot (R12, R63), in which RUN rises. -/
structure StartClosed (P : State → Prop) : Prop where
  referencing : ∀ s g grp, s.groups.get g = some grp → runStarts s g grp = true → P s →
    P (raiseRun g .forward .creep (s.setGroup g (some { grp with markCount := 0 })))
  move : ∀ s g grp m k a, s.groups.get g = some grp → grp.current = some m → grp.k = some k → m.phase = .waiting →
    moveStarts s g grp = true → moveAnswer (s.geometry g) grp k m.target = some a → P s → P (startMove g a s)

theorem StartClosed.beginSlot {P : State → Prop} (h : StartClosed P) {s : State} (g : Index) (hs : P s) : P (beginSlot g s) := by
  unfold Machine.beginSlot
  split
  · exact hs
  · rename_i grp hg
    split
    · exact h.referencing _ _ _ hg ‹_› hs
    · split
      · rename_i m k hc hk
        split
        · rename_i hcond
          split
          · exact h.move _ _ _ _ _ _ hg hc hk hcond.1 hcond.2 ‹_› hs
          · exact hs
        · exact hs
      · exact hs

section

variable {A P Q : State → Prop} (line : LineClosed P Q) (work : EventClosed A P) (own : RequestClosed Q)
include line work own

/-- Every command but the beginning of a start slot keeps what is closed. -/
theorem keeps_exec_of_not_startSlot {c : Instr} {s t : State} (hc : ∀ g, c ≠ .startSlot g) (ha : A s)
    (he : exec c s = .next t) : P t := by
  have hs : P s := work.weak _ ha
  have req : ∀ {r : Request}, r ∈ requestKinds → ∀ p, P (takeRequest r p s) := fun hr p => line.takeRequest own hr p hs
  have turns : ∀ events before {u : State}, P u → P (giveTurns events before u) :=
    fun events before _ hu => work.turns events before _ hu
  cases c <;> cases he
  case powerOn => exact line.powered _ hs
  case addressSampling =>
    split
    · exact hs
    · rename_i hn
      exact line.sampled _ _ _ (by simpa using hn) hs
  case portRestJudgement =>
    split
    · exact work.restJudged _ _ _ _ _ ‹_› ha
    · exact hs
  case frameGapTimeout =>
    split
    · exact line.gap _ _ ‹_› hs
    · exact hs
  case invalidFrame bytes => exact line.takeBytes own _ _ _ hs
  case frameNotAddressed => exact line.takeFrame own _ _ _ hs
  case unknownKind kind p =>
    unfold takeOwnRequest
    split
    · exact req (List.mem_of_find?_eq_some ‹_›) p
    · exact line.hearFrame _ _ (fun _ _ hq => line.answered _ _ hq) hs
  case replySend =>
    split
    · exact line.replySends _ _ ‹_› hs
    · exact hs
  case replyDrop byte => exact line.replyDrop byte hs
  case replyComplete => exact line.replyComplete hs
  case ident p => exact req (by simp [requestKinds]) p
  case status p => exact req (by simp [requestKinds]) p
  case setLink p => exact req (by simp [requestKinds]) p
  case ackEvents p => exact req (by simp [requestKinds]) p
  case resume b p =>
    cases b
    · exact req (by simp [requestKinds]) p
    · exact line.takeBroadcast own (r := resumeRequest) (by simp [requestKinds]) p hs
  case resetAll p => exact req (by simp [requestKinds]) p
  case setCarousel p => exact req (by simp [requestKinds]) p
  case setGroup p => exact req (by simp [requestKinds]) p
  case commission p => exact req (by simp [requestKinds]) p
  case pause b p =>
    cases b
    · exact req (by simp [requestKinds]) p
    · exact line.takeBroadcast own (r := pauseRequest) (by simp [requestKinds]) p hs
  case cont b p =>
    cases b
    · exact req (by simp [requestKinds]) p
    · exact line.takeBroadcast own (r := continueRequest) (by simp [requestKinds]) p hs
  case clearFaultGroup p => exact req (by simp [requestKinds]) p
  case clearFaultBalance p => exact req (by simp [requestKinds]) p
  case clearFaultPort p => exact req (by simp [requestKinds]) p
  case clearFaultStation p => exact req (by simp [requestKinds]) p
  case resetGroup p => exact req (by simp [requestKinds]) p
  case balanceRead p => exact req (by simp [requestKinds]) p
  case mapBegin p => exact req (by simp [requestKinds]) p
  case mapPut p => exact req (by simp [requestKinds]) p
  case mapCommit p => exact req (by simp [requestKinds]) p
  case mapRead p => exact req (by simp [requestKinds]) p
  case slotQuery p => exact req (by simp [requestKinds]) p
  case slotResolve p => exact req (by simp [requestKinds]) p
  case store p => exact req (by simp [requestKinds]) p
  case storeWithdraw p => exact req (by simp [requestKinds]) p
  case storeQuery p => exact req (by simp [requestKinds]) p
  case orderOpen p => exact req (by simp [requestKinds]) p
  case orderCancel p => exact req (by simp [requestKinds]) p
  case orderQuery p => exact req (by simp [requestKinds]) p
  case laneRelease p => exact req (by simp [requestKinds]) p
  case setStation p => exact req (by simp [requestKinds]) p
  case stationQuery p => exact req (by simp [requestKinds]) p
  case auditStart p => exact req (by simp [requestKinds]) p
  case auditStop p => exact req (by simp [requestKinds]) p
  case auditQuery p => exact req (by simp [requestKinds]) p
  case logRead p => exact req (by simp [requestKinds]) p
  case watchdogExpiry =>
    split
    · exact hs
    · rename_i v hv
      exact work.watchdogExpiry _ (by simp [hv]) ha
  case startSlot g => exact absurd rfl (hc g)
  case carrierMark g home => exact turns _ _ (work.takeMark _ g home ha)
  case encoderPulse g forward => exact work.pulse _ g forward ha
  case settleTimerExpiry g =>
    split
    · exact hs
    · split
      · rename_i grp hg hcond
        exact turns _ _ (work.settled _ _ _ hg hcond.1 hcond.2 ha)
      · exact hs
  case referencingSettled g =>
    split
    · exact hs
    · split
      · rename_i grp hg hcond
        exact turns _ _ (work.referenced _ _ _ hg hcond.1 hcond.2 ha)
      · exact hs
  case stallTimerExpiry g =>
    split
    · split
      · exact work.groupFault _ _ _ (by decide) hs
      · exact hs
    · exact hs
  case driveFault g active =>
    have h1 := work.dflt s g active ha
    dsimp only
    split
    · exact work.groupFault _ _ _ (by decide) h1
    · exact h1
  case torqueMeasurement =>
    split
    · exact work.endVisit _ _ _ ha
    · exact hs
  case torqueVisitTimeout =>
    split
    · exact work.endVisit _ _ _ ha
    · exact hs
  case shuttleInputChange p i v => exact turns _ _ (work.takeInput _ p i v ha)
  case insertionComplete p i v => exact turns _ _ (work.takeInput _ p i v ha)
  case extractionComplete p i v => exact turns _ _ (work.takeInput _ p i v ha)
  case infeedTagAnswer p a => exact work.takeInfeedTag _ p a ha
  case infeedTagTimeout p => exact work.takeInfeedTag _ p none ha
  case weighingSample p z => exact turns _ _ (work.takeSample _ p z ha)
  case faceTagAnswer p l a => exact turns _ _ (work.answerFaceTag _ p l.val a ha)
  case scanTimeout p => exact turns _ _ (work.endScan _ p ha)
  case transferTimerExpiry p =>
    split
    · exact turns _ _ (work.jam _ p ha)
    · exact hs
  case storeTimeTick ports =>
    refine turns _ _ (TurnClosed.foldl _ (fun s p hs => ?_) _ _ hs)
    split
    · exact work.aged _ _ _ hs
    · exact hs
  case collectorEntry =>
    split
    · exact turns _ _ (work.completeRelease _ _ ‹_› ha)
    · exact work.strayEntry _ ha
  case laneEntry lane => exact turns _ _ (work.takeLaneEntry _ lane ha)
  case diversionTimeout =>
    split
    · exact work.stationFault _ _ ha
    · exact hs
  case laneButton lane =>
    split
    · exact hs
    · exact turns _ _ (work.releaseLane _ lane ha)

end

/-- What is closed is kept by every step. -/
theorem keeps_step {P Q W W' : State → Prop} (line : LineClosed P Q) (work : WorkClosed P W) (own : WorkClosed Q W')
    (start : StartClosed P) {s t : State} (hs : P s) (he : step s = .next t) : P t := by
  unfold step at he
  split at he
  · cases he; exact hs
  · rename_i c cs _
    have hq := line.queued s cs hs
    by_cases hc : ∃ g, c = .startSlot g
    · obtain ⟨g, rfl⟩ := hc
      cases he
      exact start.beginSlot g (work.slotBegun _ g hq)
    · exact keeps_exec_of_not_startSlot line work.events own.requests (fun g e => hc ⟨g, e⟩) hq he

end Sys2Proof.Machine

/-! SUPPORT. What the compound changes below a command leave in each field of the state: one lemma for each field of each. -/

namespace Sys2Proof.Machine

open Sys2Proof

/-! ### The engine that follows RUN -/

@[simp] theorem beginVisit_link (s : State)  : (beginVisit s).link = s.link := by rw [beginVisit_spec]; rfl
@[simp] theorem beginVisit_carousels (s : State)  : (beginVisit s).carousels = s.carousels := by rw [beginVisit_spec]; rfl
@[simp] theorem beginVisit_channels (s : State)  : (beginVisit s).channels = s.channels := by rw [beginVisit_spec]; rfl
@[simp] theorem beginVisit_groups (s : State)  : (beginVisit s).groups = s.groups := by rw [beginVisit_spec]; rfl
@[simp] theorem beginVisit_startSlot (s : State)  : (beginVisit s).startSlot = s.startSlot := by rw [beginVisit_spec]; rfl
@[simp] theorem beginVisit_ports (s : State)  : (beginVisit s).ports = s.ports := by rw [beginVisit_spec]; rfl
@[simp] theorem beginVisit_stores (s : State)  : (beginVisit s).stores = s.stores := by rw [beginVisit_spec]; rfl
@[simp] theorem beginVisit_sched (s : State)  : (beginVisit s).sched = s.sched := by rw [beginVisit_spec]; rfl
@[simp] theorem beginVisit_station (s : State)  : (beginVisit s).station = s.station := by rw [beginVisit_spec]; rfl
@[simp] theorem beginVisit_choices (s : State)  : (beginVisit s).choices = s.choices := by rw [beginVisit_spec]; rfl
@[simp] theorem beginVisit_pending (s : State)  : (beginVisit s).pending = s.pending := by rw [beginVisit_spec]; rfl

@[simp] theorem followRun_link (s : State)  : (followRun s).link = s.link := by obtain ⟨e, he, -⟩ := followRun_spec s; rw [he]; rfl
@[simp] theorem followRun_carousels (s : State)  : (followRun s).carousels = s.carousels := by obtain ⟨e, he, -⟩ := followRun_spec s; rw [he]; rfl
@[simp] theorem followRun_channels (s : State)  : (followRun s).channels = s.channels := by obtain ⟨e, he, -⟩ := followRun_spec s; rw [he]; rfl
@[simp] theorem followRun_groups_eq (s : State)  : (followRun s).groups = s.groups := by obtain ⟨e, he, -⟩ := followRun_spec s; rw [he]; rfl
@[simp] theorem followRun_startSlot (s : State)  : (followRun s).startSlot = s.startSlot := by obtain ⟨e, he, -⟩ := followRun_spec s; rw [he]; rfl
@[simp] theorem followRun_ports (s : State)  : (followRun s).ports = s.ports := by obtain ⟨e, he, -⟩ := followRun_spec s; rw [he]; rfl
@[simp] theorem followRun_stores (s : State)  : (followRun s).stores = s.stores := by obtain ⟨e, he, -⟩ := followRun_spec s; rw [he]; rfl
@[simp] theorem followRun_sched (s : State)  : (followRun s).sched = s.sched := by obtain ⟨e, he, -⟩ := followRun_spec s; rw [he]; rfl
@[simp] theorem followRun_station (s : State)  : (followRun s).station = s.station := by obtain ⟨e, he, -⟩ := followRun_spec s; rw [he]; rfl
@[simp] theorem followRun_choices (s : State)  : (followRun s).choices = s.choices := by obtain ⟨e, he, -⟩ := followRun_spec s; rw [he]; rfl
@[simp] theorem followRun_pending (s : State)  : (followRun s).pending = s.pending := by obtain ⟨e, he, -⟩ := followRun_spec s; rw [he]; rfl

/-! ### RUN that falls and rises -/

@[simp] theorem lowerRun_link (s : State) (g : Index) : (lowerRun g s).link = s.link := by rw [lowerRun_eq]
@[simp] theorem lowerRun_carousels (s : State) (g : Index) : (lowerRun g s).carousels = s.carousels := by rw [lowerRun_eq]
@[simp] theorem lowerRun_startSlot (s : State) (g : Index) : (lowerRun g s).startSlot = s.startSlot := by rw [lowerRun_eq]
@[simp] theorem lowerRun_ports (s : State) (g : Index) : (lowerRun g s).ports = s.ports := by rw [lowerRun_eq]
@[simp] theorem lowerRun_stores (s : State) (g : Index) : (lowerRun g s).stores = s.stores := by rw [lowerRun_eq]
@[simp] theorem lowerRun_sched (s : State) (g : Index) : (lowerRun g s).sched = s.sched := by rw [lowerRun_eq]
@[simp] theorem lowerRun_station (s : State) (g : Index) : (lowerRun g s).station = s.station := by rw [lowerRun_eq]
@[simp] theorem lowerRun_audit (s : State) (g : Index) : (lowerRun g s).audit = s.audit := by rw [lowerRun_eq]
@[simp] theorem lowerRun_choices (s : State) (g : Index) : (lowerRun g s).choices = s.choices := by rw [lowerRun_eq]
@[simp] theorem lowerRun_pending (s : State) (g : Index) : (lowerRun g s).pending = s.pending := by rw [lowerRun_eq]

@[simp] theorem dropRun_link (s : State) (g : Index) : (dropRun g s).link = s.link := by simp [dropRun]
@[simp] theorem dropRun_carousels (s : State) (g : Index) : (dropRun g s).carousels = s.carousels := by simp [dropRun]
@[simp] theorem dropRun_startSlot (s : State) (g : Index) : (dropRun g s).startSlot = s.startSlot := by simp [dropRun]
@[simp] theorem dropRun_ports (s : State) (g : Index) : (dropRun g s).ports = s.ports := by simp [dropRun]
@[simp] theorem dropRun_stores (s : State) (g : Index) : (dropRun g s).stores = s.stores := by simp [dropRun]
@[simp] theorem dropRun_sched (s : State) (g : Index) : (dropRun g s).sched = s.sched := by simp [dropRun]
@[simp] theorem dropRun_station (s : State) (g : Index) : (dropRun g s).station = s.station := by simp [dropRun]
@[simp] theorem dropRun_choices (s : State) (g : Index) : (dropRun g s).choices = s.choices := by simp [dropRun]
@[simp] theorem dropRun_pending (s : State) (g : Index) : (dropRun g s).pending = s.pending := by simp [dropRun]

@[simp] theorem raiseRun_link (s : State) (g : Index) (dir : Direction) (v : SpeedClass) : (raiseRun g dir v s).link = s.link := by simp [raiseRun]
@[simp] theorem raiseRun_carousels (s : State) (g : Index) (dir : Direction) (v : SpeedClass) : (raiseRun g dir v s).carousels = s.carousels := by simp [raiseRun]
@[simp] theorem raiseRun_startSlot (s : State) (g : Index) (dir : Direction) (v : SpeedClass) : (raiseRun g dir v s).startSlot = s.startSlot := by simp [raiseRun]
@[simp] theorem raiseRun_ports (s : State) (g : Index) (dir : Direction) (v : SpeedClass) : (raiseRun g dir v s).ports = s.ports := by simp [raiseRun]
@[simp] theorem raiseRun_stores (s : State) (g : Index) (dir : Direction) (v : SpeedClass) : (raiseRun g dir v s).stores = s.stores := by simp [raiseRun]
@[simp] theorem raiseRun_sched (s : State) (g : Index) (dir : Direction) (v : SpeedClass) : (raiseRun g dir v s).sched = s.sched := by simp [raiseRun]
@[simp] theorem raiseRun_station (s : State) (g : Index) (dir : Direction) (v : SpeedClass) : (raiseRun g dir v s).station = s.station := by simp [raiseRun]
@[simp] theorem raiseRun_choices (s : State) (g : Index) (dir : Direction) (v : SpeedClass) : (raiseRun g dir v s).choices = s.choices := by simp [raiseRun]
@[simp] theorem raiseRun_pending (s : State) (g : Index) (dir : Direction) (v : SpeedClass) : (raiseRun g dir v s).pending = s.pending := by simp [raiseRun]

@[simp] theorem holdGroup_link (s : State) (g : Index) : (holdGroup s g).link = s.link := by unfold holdGroup; split <;> (try dsimp only; split) <;> simp
@[simp] theorem holdGroup_carousels (s : State) (g : Index) : (holdGroup s g).carousels = s.carousels := by unfold holdGroup; split <;> (try dsimp only; split) <;> simp
@[simp] theorem holdGroup_startSlot (s : State) (g : Index) : (holdGroup s g).startSlot = s.startSlot := by unfold holdGroup; split <;> (try dsimp only; split) <;> simp
@[simp] theorem holdGroup_ports (s : State) (g : Index) : (holdGroup s g).ports = s.ports := by unfold holdGroup; split <;> (try dsimp only; split) <;> simp
@[simp] theorem holdGroup_stores (s : State) (g : Index) : (holdGroup s g).stores = s.stores := by unfold holdGroup; split <;> (try dsimp only; split) <;> simp
@[simp] theorem holdGroup_sched (s : State) (g : Index) : (holdGroup s g).sched = s.sched := by unfold holdGroup; split <;> (try dsimp only; split) <;> simp
@[simp] theorem holdGroup_station (s : State) (g : Index) : (holdGroup s g).station = s.station := by unfold holdGroup; split <;> (try dsimp only; split) <;> simp
@[simp] theorem holdGroup_audit (s : State) (g : Index) : (holdGroup s g).audit = s.audit := by unfold holdGroup; split <;> (try dsimp only; split) <;> simp
@[simp] theorem holdGroup_choices (s : State) (g : Index) : (holdGroup s g).choices = s.choices := by unfold holdGroup; split <;> (try dsimp only; split) <;> simp
@[simp] theorem holdGroup_pending (s : State) (g : Index) : (holdGroup s g).pending = s.pending := by unfold holdGroup; split <;> (try dsimp only; split) <;> simp

/-! ### Configuration -/

@[simp] theorem configureCarousel_link (s : State) (x : Index) (cfg : CarouselConfig) : (configureCarousel x cfg s).link = s.link := by unfold configureCarousel; dsimp only; split <;> (try split) <;> simp
@[simp] theorem configureCarousel_channels (s : State) (x : Index) (cfg : CarouselConfig) : (configureCarousel x cfg s).channels = s.channels := by unfold configureCarousel; dsimp only; split <;> (try split) <;> simp
@[simp] theorem configureCarousel_startSlot (s : State) (x : Index) (cfg : CarouselConfig) : (configureCarousel x cfg s).startSlot = s.startSlot := by unfold configureCarousel; dsimp only; split <;> (try split) <;> simp
@[simp] theorem configureCarousel_ports (s : State) (x : Index) (cfg : CarouselConfig) : (configureCarousel x cfg s).ports = s.ports := by unfold configureCarousel; dsimp only; split <;> (try split) <;> simp
@[simp] theorem configureCarousel_stores (s : State) (x : Index) (cfg : CarouselConfig) : (configureCarousel x cfg s).stores = s.stores := by unfold configureCarousel; dsimp only; split <;> (try split) <;> simp
@[simp] theorem configureCarousel_sched (s : State) (x : Index) (cfg : CarouselConfig) : (configureCarousel x cfg s).sched = s.sched := by unfold configureCarousel; dsimp only; split <;> (try split) <;> simp
@[simp] theorem configureCarousel_station (s : State) (x : Index) (cfg : CarouselConfig) : (configureCarousel x cfg s).station = s.station := by unfold configureCarousel; dsimp only; split <;> (try split) <;> simp
@[simp] theorem configureCarousel_audit (s : State) (x : Index) (cfg : CarouselConfig) : (configureCarousel x cfg s).audit = s.audit := by unfold configureCarousel; dsimp only; split <;> (try split) <;> simp
@[simp] theorem configureCarousel_choices (s : State) (x : Index) (cfg : CarouselConfig) : (configureCarousel x cfg s).choices = s.choices := by unfold configureCarousel; dsimp only; split <;> (try split) <;> simp
@[simp] theorem configureCarousel_pending (s : State) (x : Index) (cfg : CarouselConfig) : (configureCarousel x cfg s).pending = s.pending := by unfold configureCarousel; dsimp only; split <;> (try split) <;> simp

@[simp] theorem takeMembers_link (s : State) (g : Index) (ms : List Index) : (takeMembers g ms s).link = s.link := foldl_field State.link _ (fun s a => by split <;> (try split) <;> rfl) _ _
@[simp] theorem takeMembers_carousels (s : State) (g : Index) (ms : List Index) : (takeMembers g ms s).carousels = s.carousels := foldl_field State.carousels _ (fun s a => by split <;> (try split) <;> rfl) _ _
@[simp] theorem takeMembers_channels (s : State) (g : Index) (ms : List Index) : (takeMembers g ms s).channels = s.channels := foldl_field State.channels _ (fun s a => by split <;> (try split) <;> rfl) _ _
@[simp] theorem takeMembers_startSlot (s : State) (g : Index) (ms : List Index) : (takeMembers g ms s).startSlot = s.startSlot := foldl_field State.startSlot _ (fun s a => by split <;> (try split) <;> rfl) _ _
@[simp] theorem takeMembers_ports (s : State) (g : Index) (ms : List Index) : (takeMembers g ms s).ports = s.ports := foldl_field State.ports _ (fun s a => by split <;> (try split) <;> rfl) _ _
@[simp] theorem takeMembers_stores (s : State) (g : Index) (ms : List Index) : (takeMembers g ms s).stores = s.stores := foldl_field State.stores _ (fun s a => by split <;> (try split) <;> rfl) _ _
@[simp] theorem takeMembers_sched (s : State) (g : Index) (ms : List Index) : (takeMembers g ms s).sched = s.sched := foldl_field State.sched _ (fun s a => by split <;> (try split) <;> rfl) _ _
@[simp] theorem takeMembers_station (s : State) (g : Index) (ms : List Index) : (takeMembers g ms s).station = s.station := foldl_field State.station _ (fun s a => by split <;> (try split) <;> rfl) _ _
@[simp] theorem takeMembers_audit (s : State) (g : Index) (ms : List Index) : (takeMembers g ms s).audit = s.audit := foldl_field State.audit _ (fun s a => by split <;> (try split) <;> rfl) _ _
@[simp] theorem takeMembers_choices (s : State) (g : Index) (ms : List Index) : (takeMembers g ms s).choices = s.choices := foldl_field State.choices _ (fun s a => by split <;> (try split) <;> rfl) _ _
@[simp] theorem takeMembers_pending (s : State) (g : Index) (ms : List Index) : (takeMembers g ms s).pending = s.pending := foldl_field State.pending _ (fun s a => by split <;> (try split) <;> rfl) _ _

@[simp] theorem defineGroup_link (s : State) (g : Index) (ms : List Index) (ps : GroupParams) : (defineGroup g ms ps s).link = s.link := takeMembers_link s g ms
@[simp] theorem defineGroup_carousels (s : State) (g : Index) (ms : List Index) (ps : GroupParams) : (defineGroup g ms ps s).carousels = s.carousels := takeMembers_carousels s g ms
@[simp] theorem defineGroup_startSlot (s : State) (g : Index) (ms : List Index) (ps : GroupParams) : (defineGroup g ms ps s).startSlot = s.startSlot := takeMembers_startSlot s g ms
@[simp] theorem defineGroup_ports (s : State) (g : Index) (ms : List Index) (ps : GroupParams) : (defineGroup g ms ps s).ports = s.ports := takeMembers_ports s g ms
@[simp] theorem defineGroup_stores (s : State) (g : Index) (ms : List Index) (ps : GroupParams) : (defineGroup g ms ps s).stores = s.stores := takeMembers_stores s g ms
@[simp] theorem defineGroup_sched (s : State) (g : Index) (ms : List Index) (ps : GroupParams) : (defineGroup g ms ps s).sched = s.sched := takeMembers_sched s g ms
@[simp] theorem defineGroup_station (s : State) (g : Index) (ms : List Index) (ps : GroupParams) : (defineGroup g ms ps s).station = s.station := takeMembers_station s g ms
@[simp] theorem defineGroup_audit (s : State) (g : Index) (ms : List Index) (ps : GroupParams) : (defineGroup g ms ps s).audit = s.audit := takeMembers_audit s g ms
@[simp] theorem defineGroup_choices (s : State) (g : Index) (ms : List Index) (ps : GroupParams) : (defineGroup g ms ps s).choices = s.choices := takeMembers_choices s g ms
@[simp] theorem defineGroup_pending (s : State) (g : Index) (ms : List Index) (ps : GroupParams) : (defineGroup g ms ps s).pending = s.pending := takeMembers_pending s g ms

/-! ### Scans that are discarded -/

@[simp] theorem discardScan_link (s : State) (p : Index) : (discardScan p s).link = s.link := by obtain ⟨a, h⟩ := discardScan_spec p s; rw [h]
@[simp] theorem discardScan_carousels (s : State) (p : Index) : (discardScan p s).carousels = s.carousels := by obtain ⟨a, h⟩ := discardScan_spec p s; rw [h]
@[simp] theorem discardScan_channels (s : State) (p : Index) : (discardScan p s).channels = s.channels := by obtain ⟨a, h⟩ := discardScan_spec p s; rw [h]
@[simp] theorem discardScan_groups (s : State) (p : Index) : (discardScan p s).groups = s.groups := by obtain ⟨a, h⟩ := discardScan_spec p s; rw [h]
@[simp] theorem discardScan_startSlot (s : State) (p : Index) : (discardScan p s).startSlot = s.startSlot := by obtain ⟨a, h⟩ := discardScan_spec p s; rw [h]
@[simp] theorem discardScan_stores (s : State) (p : Index) : (discardScan p s).stores = s.stores := by obtain ⟨a, h⟩ := discardScan_spec p s; rw [h]
@[simp] theorem discardScan_sched (s : State) (p : Index) : (discardScan p s).sched = s.sched := by obtain ⟨a, h⟩ := discardScan_spec p s; rw [h]
@[simp] theorem discardScan_station (s : State) (p : Index) : (discardScan p s).station = s.station := by obtain ⟨a, h⟩ := discardScan_spec p s; rw [h]
@[simp] theorem discardScan_choices (s : State) (p : Index) : (discardScan p s).choices = s.choices := by obtain ⟨a, h⟩ := discardScan_spec p s; rw [h]
@[simp] theorem discardScan_pending (s : State) (p : Index) : (discardScan p s).pending = s.pending := by obtain ⟨a, h⟩ := discardScan_spec p s; rw [h]

@[simp] theorem discardScans_link (s : State) (g : Index) : (discardScans g s).link = s.link := foldl_field State.link _ (fun s p => discardScan_link s p) _ _
@[simp] theorem discardScans_carousels (s : State) (g : Index) : (discardScans g s).carousels = s.carousels := foldl_field State.carousels _ (fun s p => discardScan_carousels s p) _ _
@[simp] theorem discardScans_channels (s : State) (g : Index) : (discardScans g s).channels = s.channels := foldl_field State.channels _ (fun s p => discardScan_channels s p) _ _
@[simp] theorem discardScans_groups (s : State) (g : Index) : (discardScans g s).groups = s.groups := foldl_field State.groups _ (fun s p => discardScan_groups s p) _ _
@[simp] theorem discardScans_startSlot (s : State) (g : Index) : (discardScans g s).startSlot = s.startSlot := foldl_field State.startSlot _ (fun s p => discardScan_startSlot s p) _ _
@[simp] theorem discardScans_stores (s : State) (g : Index) : (discardScans g s).stores = s.stores := foldl_field State.stores _ (fun s p => discardScan_stores s p) _ _
@[simp] theorem discardScans_sched (s : State) (g : Index) : (discardScans g s).sched = s.sched := foldl_field State.sched _ (fun s p => discardScan_sched s p) _ _
@[simp] theorem discardScans_station (s : State) (g : Index) : (discardScans g s).station = s.station := foldl_field State.station _ (fun s p => discardScan_station s p) _ _
@[simp] theorem discardScans_choices (s : State) (g : Index) : (discardScans g s).choices = s.choices := foldl_field State.choices _ (fun s p => discardScan_choices s p) _ _
@[simp] theorem discardScans_pending (s : State) (g : Index) : (discardScans g s).pending = s.pending := foldl_field State.pending _ (fun s p => discardScan_pending s p) _ _

@[simp] theorem resetMember_link (s : State) (x : Index) : (resetMember s x).link = s.link := discardScan_link s x
@[simp] theorem resetMember_channels (s : State) (x : Index) : (resetMember s x).channels = s.channels := discardScan_channels s x
@[simp] theorem resetMember_groups (s : State) (x : Index) : (resetMember s x).groups = s.groups := discardScan_groups s x
@[simp] theorem resetMember_startSlot (s : State) (x : Index) : (resetMember s x).startSlot = s.startSlot := discardScan_startSlot s x
@[simp] theorem resetMember_stores (s : State) (x : Index) : (resetMember s x).stores = s.stores := discardScan_stores s x
@[simp] theorem resetMember_sched (s : State) (x : Index) : (resetMember s x).sched = s.sched := discardScan_sched s x
@[simp] theorem resetMember_station (s : State) (x : Index) : (resetMember s x).station = s.station := discardScan_station s x
@[simp] theorem resetMember_choices (s : State) (x : Index) : (resetMember s x).choices = s.choices := discardScan_choices s x
@[simp] theorem resetMember_pending (s : State) (x : Index) : (resetMember s x).pending = s.pending := discardScan_pending s x

@[simp] theorem resetGroup_link (s : State) (g : Index) (grp : Group) : (resetGroup g grp s).link = s.link := by
  unfold resetGroup
  exact (foldl_field State.link _ (fun s x => resetMember_link s x) _ _).trans (dropRun_link s g)
@[simp] theorem resetGroup_startSlot (s : State) (g : Index) (grp : Group) : (resetGroup g grp s).startSlot = s.startSlot := by
  unfold resetGroup
  exact (foldl_field State.startSlot _ (fun s x => resetMember_startSlot s x) _ _).trans (dropRun_startSlot s g)
@[simp] theorem resetGroup_stores (s : State) (g : Index) (grp : Group) : (resetGroup g grp s).stores = s.stores := by
  unfold resetGroup
  exact (foldl_field State.stores _ (fun s x => resetMember_stores s x) _ _).trans (dropRun_stores s g)
@[simp] theorem resetGroup_sched (s : State) (g : Index) (grp : Group) : (resetGroup g grp s).sched = s.sched := by
  unfold resetGroup
  exact (foldl_field State.sched _ (fun s x => resetMember_sched s x) _ _).trans (dropRun_sched s g)
@[simp] theorem resetGroup_station (s : State) (g : Index) (grp : Group) : (resetGroup g grp s).station = s.station := by
  unfold resetGroup
  exact (foldl_field State.station _ (fun s x => resetMember_station s x) _ _).trans (dropRun_station s g)
@[simp] theorem resetGroup_choices (s : State) (g : Index) (grp : Group) : (resetGroup g grp s).choices = s.choices := by
  unfold resetGroup
  exact (foldl_field State.choices _ (fun s x => resetMember_choices s x) _ _).trans (dropRun_choices s g)
@[simp] theorem resetGroup_pending (s : State) (g : Index) (grp : Group) : (resetGroup g grp s).pending = s.pending := by
  unfold resetGroup
  exact (foldl_field State.pending _ (fun s x => resetMember_pending s x) _ _).trans (dropRun_pending s g)

/-! ### The collector -/

@[simp] theorem judgeHigh_link (s : State)  : (judgeHigh s).link = s.link := by unfold judgeHigh; split <;> rfl
@[simp] theorem judgeHigh_carousels (s : State)  : (judgeHigh s).carousels = s.carousels := by unfold judgeHigh; split <;> rfl
@[simp] theorem judgeHigh_channels (s : State)  : (judgeHigh s).channels = s.channels := by unfold judgeHigh; split <;> rfl
@[simp] theorem judgeHigh_groups (s : State)  : (judgeHigh s).groups = s.groups := by unfold judgeHigh; split <;> rfl
@[simp] theorem judgeHigh_startSlot (s : State)  : (judgeHigh s).startSlot = s.startSlot := by unfold judgeHigh; split <;> rfl
@[simp] theorem judgeHigh_ports (s : State)  : (judgeHigh s).ports = s.ports := by unfold judgeHigh; split <;> rfl
@[simp] theorem judgeHigh_stores (s : State)  : (judgeHigh s).stores = s.stores := by unfold judgeHigh; split <;> rfl
@[simp] theorem judgeHigh_sched (s : State)  : (judgeHigh s).sched = s.sched := by unfold judgeHigh; split <;> rfl
@[simp] theorem judgeHigh_audit (s : State)  : (judgeHigh s).audit = s.audit := by unfold judgeHigh; split <;> rfl
@[simp] theorem judgeHigh_choices (s : State)  : (judgeHigh s).choices = s.choices := by unfold judgeHigh; split <;> rfl
@[simp] theorem judgeHigh_pending (s : State)  : (judgeHigh s).pending = s.pending := by unfold judgeHigh; split <;> rfl

end Sys2Proof.Machine

/-! SUPPORT. The link unit and the counters stay sound (R160 to R167; R41, R103, R108, R133, R139, R146, R153, R155): how each
depends on what a command changes. -/

namespace Sys2Proof.Machine

open Sys2Proof

/-- New settings are kept by what keeps each of the changes that they bring (R137). -/
theorem keeps_replaceSettings {P : State → Prop} (h : TurnClosed P) {s : State} {r : Settings}
    (set : P (s.setStation { s.station with settings := r }))
    (paused : ∀ s, s.station.settings.high ≤ s.station.collector.length → P s →
      P (s.setStation { s.station with paused := true }))
    (unpaused : ∀ s, s.station.collector.length ≤ s.station.settings.low → P s →
      P (s.setStation { s.station with paused := false })) : P (replaceSettings r s) := by
  have h1 : P (judgePromotions (s.setStation { s.station with settings := r })) :=
    TurnClosed.foldl _ (fun _ p hs => h.modStore p _ (fun r => by unfold StoreRecord.judged; split <;> rfl) hs) _ _ set
  have low : ∀ s, P s → P (judgeLow s) := by
    intro s hs
    unfold judgeLow
    split
    · rename_i hc
      simp only [Bool.and_eq_true, decide_eq_true_eq] at hc
      exact h.judgeGate (unpaused _ hc.2 hs)
    · exact hs
  have both : ∀ s, P s → P (judgeLow (judgeHigh s)) := fun s hs => low _ (keeps_judgeHigh (paused s) hs)
  unfold replaceSettings
  dsimp only
  split <;> split
  · exact h1
  · exact h.judgeActivation h1
  · exact both _ h1
  · exact both _ (h.judgeActivation h1)

/-! ## The link unit -/

/-- A property of the link unit that the changes of a request or of an event keep. -/
structure LinkClosed (L : Link → Prop) : Prop where
  flagged : ∀ l f, (l.sampled = false → l.flags = 0#13 → f = 0#13) → L l → L { l with flags := f }
  configured : ∀ l code mask, l.receiver ≠ .off → (code ≤ 5 ∨ code = 7) → L l → L (l.configure code mask)
  resumed : ∀ l, l.mode = .hold → L l → L { l with mode := .normal, wdTimer := watchdogTimeout l.wdCode }
  held : ∀ l, l.wdTimer ≠ none → L l → L { l with mode := .hold, wdTimer := none }

theorem LinkClosed.raised {L : Link → Prop} (h : LinkClosed L) (e : Event) (l : Link) (hl : L l) :
    L { l with flags := if l.sampled then setFlag e l.flags else l.flags } :=
  h.flagged l _ (fun hs hf => by simp [hs, hf]) hl

/-- Of the changes below a turn only an event reaches the link unit. -/
theorem LinkClosed.turn {L : Link → Prop} (h : LinkClosed L) : TurnClosed fun s => L s.link := by
  constructor
  case event => exact fun s e hs => h.raised e s.link hs
  all_goals (intros; rename_i hs; simpa using hs)

/-- Of the changes of a command only those of the link unit's own requests and events reach it. -/
theorem LinkClosed.work {L : Link → Prop} (h : LinkClosed L) : WorkClosed (fun s => L s.link) fun s => L s.link := by
  constructor
  case toTurnClosed => exact h.turn
  case acked => exact fun s n hs => h.flagged s.link _ (fun _ hf => by simp [hf, clearFlags]) hs
  case linkSet => exact fun s code mask hr hc hs => h.configured s.link code mask hr hc hs
  case resumed => exact fun s hm hs => h.resumed s.link hm hs
  case holding => exact fun s hw hs => h.held s.link hw hs
  case easedEvent => exact fun s e hs => h.raised e s.link hs
  case settingsReplaced => exact fun s r _ hs => keeps_replaceSettings h.turn hs (fun _ _ => id) (fun _ _ => id)
  case diversionBegun => exact fun s e rest _ _ _ _ hs => hs
  all_goals (intros; rename_i hs; simpa using hs)

theorem watchdogTimeout_isSome {code : Nat} (h : code ≤ 5) : (watchdogTimeout code).isSome = true := by
  interval_cases code <;> rfl

/-- A link unit whose receiver is on, or that is in HOLD, or whose watchdog runs, has ended its sampling. -/
theorem LinkInv.sampled_of {l : Link} (hl : LinkInv l) (h : l.receiver ≠ .off ∨ l.mode = .hold ∨ l.wdTimer ≠ none) :
    l.sampled = true := by
  by_contra hn
  obtain ⟨hr, -, hm, -, hw⟩ := hl.unsampled (by simpa using hn)
  rcases h with h | h | h
  · exact h hr
  · rw [hm] at h; cases h
  · exact h hw

theorem linkInv_closed : LinkClosed LinkInv where
  flagged l f hf hl := { hl with
    unsampled := fun hs => by
      obtain ⟨h1, h2, h3, h4, h5⟩ := hl.unsampled hs
      exact ⟨h1, h2, h3, hf hs h4, h5⟩ }
  configured l code mask hr hc hl := { hl with
    code := hc
    timer := fun hs => by
      have ht := hl.timer hs
      unfold Link.configure
      cases hm : l.mode with
      | normal => rfl
      | hold => rw [hm] at ht; exact ht
    unsampled := fun hs => absurd (hl.sampled_of (.inl hr)) (by simp [show l.sampled = false from hs]) }
  resumed l hm hl := { hl with
    timer := fun _ => rfl
    unsampled := fun hs => absurd (hl.sampled_of (.inr (.inl hm))) (by simpa using hs) }
  held l hw hl := { hl with
    timer := fun _ => rfl
    unsampled := fun hs => absurd (hl.sampled_of (.inr (.inr hw))) (by simpa using hs) }

/-- A sound link unit that has just heard a frame: the receiver hunts, and no reply is there. -/
structure LinkHeard (l : Link) : Prop where
  sound : LinkInv l
  hunting : l.receiver = .hunt
  unanswered : ∀ rep, l.reply ≠ .sending rep

theorem linkHeard_closed : LinkClosed LinkHeard where
  flagged l f hf hl := ⟨linkInv_closed.flagged l f hf hl.sound, hl.hunting, hl.unanswered⟩
  configured l code mask hr hc hl := ⟨linkInv_closed.configured l code mask hr hc hl.sound, hl.hunting, hl.unanswered⟩
  resumed l hm hl := ⟨linkInv_closed.resumed l hm hl.sound, hl.hunting, hl.unanswered⟩
  held l hw hl := ⟨linkInv_closed.held l hw hl.sound, hl.hunting, hl.unanswered⟩

theorem linkInv_powerOn : LinkInv Link.powerOn where
  code := .inl (by decide)
  timer h := by cases h
  unsampled _ := ⟨rfl, rfl, rfl, rfl, rfl⟩
  off h := by cases h
  waiting rep h := by cases h
  sent := rfl

theorem linkInv_afterReset (l : Link) : LinkInv l.afterReset where
  code := .inl (show 2 ≤ 5 by decide)
  timer _ := rfl
  unsampled h := by cases h
  off _ := by simp [Link.afterReset, Link.powerOn]
  waiting rep h := by cases h
  sent := rfl

/-- A sound link unit that sends nothing, and whose receiver is on, stays sound with another state of the receiver. -/
theorem LinkInv.received {l : Link} {r : Receiver} (hl : LinkInv l) (hr : r ≠ .off) (hon : l.receiver ≠ .off)
    (hn : ∀ rep, l.reply ≠ .waiting rep) : LinkInv { l with receiver := r } := by
  have hs := hl.sampled_of (.inl hon)
  exact { hl with
    unsampled := fun h => absurd hs (by simpa using h)
    off := fun _ => by
      have := hl.off hs
      simp only [hr, hon, false_iff] at this ⊢
      exact this
    waiting := fun rep h => absurd h (hn rep) }

theorem LinkInv.replyEnded {l : Link} (hl : LinkInv l) {rep : Reply} (hw : l.reply = .waiting rep) :
    LinkInv { l with reply := .none, lineOut := [] } :=
  have hon : l.receiver ≠ .off := by rw [hl.waiting rep hw]; simp
  { hl with
    unsampled := fun h => absurd (hl.sampled_of (.inl hon)) (by simpa using h)
    off := fun _ => by simp [hon]
    waiting := fun _ h => by cases h
    sent := rfl }

/-- Sampling that ends leaves a sound link unit that hunts (R160). -/
theorem LinkInv.sampledNow {l : Link} (hl : LinkInv l) (a : Nat) (b : BitVec 2) (hn : l.sampled = false) :
    LinkInv { l with address := a, baud := b, sampled := true, receiver := .hunt, wdTimer := watchdogTimeout l.wdCode } := by
  obtain ⟨-, hrep, hm, -, -⟩ := hl.unsampled hn
  exact {
    code := hl.code
    timer := fun _ => by
      dsimp only
      rw [hm]
    unsampled := fun h => by cases h
    off := fun _ => by simp [hrep]
    waiting := fun _ _ => rfl
    sent := by
      have := hl.sent
      rw [hrep] at this
      dsimp only
      rw [this, hrep] }

theorem linkLine : LineClosed (fun s => LinkInv s.link) fun s => LinkHeard s.link where
  weak _ hq := hq.sound
  powered _ _ := linkInv_powerOn
  reset s _ := linkInv_afterReset s.link
  queued _ _ := id
  sampled _ a b hn hs := hs.sampledNow a b hn
  received _ _ hr hon hn hs := hs.received hr hon hn
  gap s taken hr hs := hs.received (by simp) (by simp [hr]) fun rep hw => by
    have := hs.waiting rep hw
    rw [hr] at this
    cases this
  dropped s r rep hr hw hs := by
    have h1 := hs.replyEnded hw
    exact LinkInv.received h1 hr (by show s.link.receiver ≠ .off; rw [hs.waiting rep hw]; simp) (fun _ h => by cases h)
  replyEnded _ _ hw hs := hs.replyEnded hw
  replySent s rep hrep hs :=
    have hsam : s.link.sampled = true := by
      by_contra hn
      have := (hs.unsampled (by simpa using hn)).2.1
      rw [hrep] at this
      cases this
    { code := hs.code
      timer := hs.timer
      unsampled := fun h => absurd hsam (by simpa using h)
      off := fun _ => by simp
      waiting := fun _ h => by cases h
      sent := rfl }
  replySends s rep hw hs :=
    have hon : s.link.receiver ≠ .off := by rw [hs.waiting rep hw]; simp
    { code := hs.code
      timer := hs.timer
      unsampled := fun h => absurd (hs.sampled_of (.inl hon)) (by simpa using h)
      off := fun _ => by simp
      waiting := fun _ h => by cases h
      sent := rfl }
  heard s hon hw hs := by
    have hsam := hs.sampled_of (.inl hon)
    have hsend : ∀ rep, s.link.reply ≠ .sending rep := fun rep h => hon ((hs.off hsam).mpr ⟨rep, h⟩)
    have hrep : s.link.heard.reply = .none := by
      cases h : s.link.reply with
      | none => simp [Link.heard, h]
      | waiting r => simp [Link.heard, h]
      | sending r => exact absurd h (hsend r)
    refine ⟨⟨hs.code, fun _ => ?_, fun h => absurd hsam (by simpa using h), fun _ => by simp [hrep],
      fun rep h => rfl, ?_⟩, rfl, fun rep h => by rw [heard_link, hrep] at h; cases h⟩
    · have ht := hs.timer hsam
      show (if s.link.wdTimer.isSome then watchdogTimeout s.link.wdCode else none) = _
      rw [ht, heard_link, Link.heard_mode]
      cases s.link.mode with
      | hold => rfl
      | normal =>
        show (if (watchdogTimeout s.link.wdCode).isSome = true then _ else _) = watchdogTimeout s.link.wdCode
        cases watchdogTimeout s.link.wdCode <;> rfl
    · rw [heard_link, hrep]
      have := hs.sent
      cases h : s.link.reply with
      | none => simpa [Link.heard, h] using this
      | waiting r => simp [Link.heard, h]
      | sending r => exact absurd h (hsend r)
  answered s rep hq :=
    have hs := hq.sound
    have hon : s.link.receiver ≠ .off := by rw [hq.hunting]; simp
    { code := hs.code
      timer := hs.timer
      unsampled := fun h => absurd (hs.sampled_of (.inl hon)) (by simpa using h)
      off := fun _ => by simp [hon]
      waiting := fun _ _ => hq.hunting
      sent := by
        have := hs.sent
        show s.link.lineOut = []
        rw [this]
        cases h : s.link.reply with
        | none => rfl
        | waiting r => rfl
        | sending r => exact absurd h (hq.unanswered r) }

theorem linkStart : StartClosed fun s => LinkInv s.link where
  referencing s g grp _ _ hs := by simpa using hs
  move s g grp m k a _ _ _ _ _ _ hs := by simpa [startMove] using hs

theorem linkInv_step {s t : State} (hs : LinkInv s.link) (he : step s = .next t) : LinkInv t.link :=
  keeps_step linkLine linkInv_closed.work linkHeard_closed.work linkStart hs he

/-! ## The counters -/

/-- The counters of a group are in their ranges (R41, R153, R155). -/
def Group.Counts (grp : Group) : Prop := grp.invalidCount ≤ 4 ∧ grp.deviant ≤ 3 ∧ grp.changeNo ≤ 65535

/-- The counters beside those of the groups are what they were. -/
structure SameCounts (s t : State) : Prop where
  log : t.audit.log = s.audit.log
  entry : t.audit.entryCounter = s.audit.entryCounter
  generation : t.audit.generation = s.audit.generation
  opened : t.sched.openCounter = s.sched.openCounter
  activated : t.sched.activationCounter = s.sched.activationCounter
  fault : t.station.fault = s.station.fault
  stores : t.stores = s.stores

namespace CounterInv

variable {s : State}

theorem group (hs : CounterInv s) {g : Index} {grp : Group} (hg : s.groups.get g = some grp) : grp.Counts :=
  ⟨hs.invalid g grp hg, hs.deviant g grp hg, hs.change g grp hg⟩

theorem of_groups (hs : CounterInv s) {t : State} (h : SameCounts s t)
    (hg : ∀ g grp, t.groups.get g = some grp → grp.Counts) : CounterInv t where
  log := h.log ▸ hs.log
  entry := h.entry ▸ hs.entry
  generation := h.generation ▸ hs.generation
  opened := h.opened ▸ hs.opened
  activated := h.activated ▸ hs.activated
  stray := h.fault ▸ hs.stray
  waited := h.stores ▸ hs.waited
  invalid g grp he := (hg g grp he).1
  deviant g grp he := (hg g grp he).2.1
  change g grp he := (hg g grp he).2.2

theorem of_same (hs : CounterInv s) {t : State} (h : SameCounts s t) (hg : t.groups = s.groups) : CounterInv t :=
  hs.of_groups h fun _ _ he => hs.group (hg ▸ he)

theorem setGroup (hs : CounterInv s) (g : Index) {grp : Group} (hc : grp.Counts) : CounterInv (s.setGroup g (some grp)) :=
  hs.of_groups ⟨rfl, rfl, rfl, rfl, rfl, rfl, rfl⟩ fun h b hb => by
    rw [setGroup_groups, Quad.get_set] at hb
    split at hb
    · cases hb; exact hc
    · exact hs.group hb

theorem changeGroup (hs : CounterInv s) {g : Index} {grp grp' : Group} (hg : s.groups.get g = some grp)
    (h : grp.Counts → grp'.Counts) : CounterInv (s.setGroup g (some grp')) := hs.setGroup g (h (hs.group hg))

theorem modGroup (hs : CounterInv s) (g : Index) {f : Group → Group} (hf : ∀ grp, grp.Counts → (f grp).Counts) :
    CounterInv (s.modGroup g f) :=
  TurnClosed.modGroupIf (fun _ hg => hs.setGroup g (hf _ (hs.group hg))) hs

theorem followRun (hs : CounterInv s) : CounterInv (followRun s) := by
  obtain ⟨e, he, -⟩ := followRun_spec s
  rw [he]
  exact hs.of_same ⟨rfl, rfl, rfl, rfl, rfl, rfl, rfl⟩ rfl

theorem beginVisit (hs : CounterInv s) : CounterInv (beginVisit s) := by
  rw [beginVisit_spec]
  exact hs.of_same ⟨rfl, rfl, rfl, rfl, rfl, rfl, rfl⟩ rfl

theorem lowerRun (hs : CounterInv s) (g : Index) : CounterInv (lowerRun g s) :=
  CounterInv.modGroup (s := s.modChannel g _) (hs.of_same ⟨rfl, rfl, rfl, rfl, rfl, rfl, rfl⟩ rfl) g fun _ h => h

theorem raiseRun (hs : CounterInv s) (g : Index) (d : Direction) (v : SpeedClass) : CounterInv (raiseRun g d v s) :=
  CounterInv.followRun (CounterInv.modGroup (s := s.modChannel g _) (hs.of_same ⟨rfl, rfl, rfl, rfl, rfl, rfl, rfl⟩ rfl) g
    fun _ h => ⟨Nat.zero_le _, h.2⟩)

theorem setStore (hs : CounterInv s) (p : Index) {o : Option StoreRecord}
    (ho : ∀ r, o = some r → r.waited.getD 0 ≤ 65535) : CounterInv (s.setStore p o) :=
  { hs with
    waited := fun q r hq => by
      rw [setStore_stores, Quad.get_set] at hq
      split at hq
      · exact ho r hq
      · exact hs.waited q r hq }

theorem setFault (hs : CounterInv s) {st : Station} (hf : ∀ f, st.fault = some f → f.strayCount ≤ 255) :
    CounterInv (s.setStation st) := { hs with stray := hf }

end CounterInv

theorem leaveWatch_counts {grp : Group} (x : Index) (clean : Bool) (h : grp.Counts) : (grp.leaveWatch x clean).Counts := by
  obtain ⟨hi, hd, hc⟩ := h
  unfold Group.leaveWatch
  split
  · exact ⟨hi, hd, hc⟩
  · split
    · dsimp only
      split
      · split
        · exact ⟨hi, hd, hc⟩
        · exact ⟨hi, Nat.zero_le _, hc⟩
      · exact ⟨hi, hd, hc⟩
    · exact ⟨hi, hd, hc⟩

theorem holdEntry_counts {grp : Group} (run : Bool) (h : grp.Counts) : (grp.holdEntry run).Counts := by
  unfold Group.holdEntry
  split
  · exact h
  · split
    · split <;> exact h
    · exact h
  · split <;> exact h
  · exact h

theorem continued_counts {grp : Group} (h : grp.Counts) : grp.continued.Counts := by
  unfold Group.continued
  split
  · split <;> exact h
  · exact h
  · exact h

theorem atMark_counts {grp : Group} (k : Nat) (home : Bool) (v : MarkVerdict) (h : grp.Counts) :
    (grp.atMark k home v).Counts := by
  unfold Group.atMark
  cases v with
  | recrossing => exact h
  | fault => exact h
  | step d => cases home <;> exact h

theorem counterTurn : TurnClosed CounterInv := by
  constructor
  case store =>
    intro s p r r' hr hw hs
    exact hs.setStore p fun r'' e => by cases e; rw [hw]; exact hs.waited p r hr
  case activated => exact fun s hs => { hs with activated := countUp_le _ }
  case mass => exact fun s g x c dm w _ hs => hs.modGroup g fun _ h => ⟨h.1, h.2.1, by
    show (_ + 1) % 65536 ≤ 65535
    omega⟩
  case logged =>
    intro s e hl hs
    exact { hs with
      log := by
        show (s.audit.log ++ [e]).length ≤ 32
        rw [List.length_append, List.length_singleton]
        exact hl
      entry := countUp_le _ }
  case watched => exact fun s g x clean hs => hs.modGroup g fun _ => leaveWatch_counts x clean
  case moveTasks => exact fun s g grp m ts hg _ hs => hs.changeGroup hg fun h => h
  case filled => exact fun s g grp m n hg _ _ _ _ hs => hs.changeGroup hg fun h => h
  case nextSet => exact fun s g grp n hg _ hs => hs.changeGroup hg fun h => h
  case nextEnded => exact fun s g grp n b hg _ hs => hs.changeGroup hg fun h => h
  case arrival => exact fun s g grp b hg hs => hs.changeGroup hg fun h => h
  case started => exact fun s g grp b hg hs => hs.changeGroup hg fun h => h
  -- no other change of a turn reaches a counter
  all_goals (intros; rename_i hs; exact CounterInv.of_same hs ⟨rfl, rfl, rfl, rfl, rfl, rfl, rfl⟩ rfl)

theorem counter_configureCarousel {s : State} (hs : CounterInv s) (x : Index) (cfg : CarouselConfig) :
    CounterInv (configureCarousel x cfg s) := by
  unfold configureCarousel
  have h1 := fun c => CounterInv.of_same (t := s.setCarousel x c) hs ⟨rfl, rfl, rfl, rfl, rfl, rfl, rfl⟩ rfl
  dsimp only
  split
  · split
    · exact CounterInv.modGroup (h1 _) _ fun _ h => ⟨h.1, h.2.1, Nat.zero_le _⟩
    · exact h1 _
  · exact h1 _

theorem counts_fresh (ms : List Index) (ps : GroupParams) (c r : Nat) : (Group.fresh ms ps c r).Counts :=
  ⟨Nat.zero_le _, Nat.zero_le _, Nat.zero_le _⟩

theorem counts_without {grp b : Group} {ms : List Index} (h : grp.Counts) (hb : grp.without ms = some b) : b.Counts := by
  unfold Group.without at hb
  dsimp only at hb
  split at hb
  · cases hb; exact h
  · split at hb
    · cases hb
    · cases hb; exact h

theorem counter_takeMembers {s : State} (hs : CounterInv s) (g : Index) (ms : List Index) : CounterInv (takeMembers g ms s) := by
  refine TurnClosed.foldl _ (fun s h hs => ?_) _ _ hs
  split
  · exact hs
  · split
    · rename_i grp hg
      refine hs.of_groups ⟨rfl, rfl, rfl, rfl, rfl, rfl, rfl⟩ fun k b hb => ?_
      rw [setGroup_groups, Quad.get_set] at hb
      split at hb
      · exact counts_without (hs.group hg) hb
      · exact hs.group hb
    · exact hs

theorem counter_resetGroup {s : State} (hs : CounterInv s) (g : Index) (grp : Group) : CounterInv (resetGroup g grp s) := by
  have h1 : CounterInv (dropRun g s) := CounterInv.followRun (hs.lowerRun g)
  have h2 : CounterInv ((dropRun g s).modChannel g fun ch => { ch with dir := .forward }) :=
    h1.of_same ⟨rfl, rfl, rfl, rfl, rfl, rfl, rfl⟩ rfl
  refine CounterInv.setGroup (TurnClosed.foldl _ (fun s x hs => ?_) _ _ h2) g (counts_fresh _ _ _ _)
  obtain ⟨a, ha⟩ := discardScan_spec x s
  have hd : CounterInv (discardScan x s) := by
    unfold discardScan
    split
    · have h3 : CounterInv (s.modPort x fun port => { port with scan := none }) := counterTurn.unscanned _ _ hs
      dsimp only
      split
      · exact counterTurn.modTask _ _ h3
      · exact h3
      · exact h3
    · exact hs
  exact CounterInv.of_same (counterTurn.setTask x none hd) ⟨rfl, rfl, rfl, rfl, rfl, rfl, rfl⟩ rfl

theorem counter_judgeHigh {s : State} (hs : CounterInv s) : CounterInv (judgeHigh s) :=
  keeps_judgeHigh (fun _ hs => hs.setFault hs.stray) hs

theorem counterWork : WorkClosed CounterInv CounterInv := by
  constructor
  case toTurnClosed => exact counterTurn
  case eased => exact fun s hs => hs
  case followed => exact fun s hs => hs.followRun
  case easedHold =>
    intro s g hs
    unfold holdGroup
    split
    · exact hs
    · have h1 := hs.changeGroup ‹_› (holdEntry_counts (s.channels.get g).run)
      dsimp only
      split
      · exact h1.lowerRun g
      · exact h1
  case easedIdle => exact fun s g grp hg _ hs => hs.changeGroup hg fun h => h
  case easedMoving => exact fun s g grp hg _ hs => hs.changeGroup hg fun h => h
  case easedReferencing => exact fun s g grp _ _ hs => (hs.lowerRun g).modGroup g fun _ h => h
  case easedFault => exact fun s g grp cause _ _ _ _ hs => (hs.lowerRun g).modGroup g fun _ h => h
  case easedHome => exact fun s g grp _ _ hs => (hs.lowerRun g).modGroup g fun _ h => h
  case easedStop =>
    exact fun s g grp m _ _ _ _ hs => (hs.lowerRun g).modGroup g fun grp h => by
      unfold Group.stopped; split <;> exact h
  case easedArrival => exact fun s g grp m _ _ _ _ hs => (hs.lowerRun g).modGroup g fun _ h => h
  case idlePaused => exact fun s g grp hg _ hs => hs.changeGroup hg fun h => h
  case movingPaused => exact fun s g grp hg _ hs => hs.changeGroup hg fun h => h
  case noted =>
    refine fun s g grp grp' hg hn hs => hs.changeGroup hg fun h => ⟨hn.invalid h.1, hn.deviant h.2.1, ?_⟩
    have : grp'.noteless.changeNo = grp.noteless.changeNo := by rw [hn.core]
    exact this ▸ h.2.2
  case visited => exact fun s hs => hs.beginVisit
  case referencingMarked => exact fun s g grp hg _ _ hs => hs.changeGroup hg fun h => h
  case travelMarked => exact fun s g grp m k home v hg _ _ _ hs => hs.changeGroup hg (atMark_counts k home v)
  case settled =>
    exact fun s g grp hg _ _ hs => hs.changeGroup hg fun h => by unfold Group.settled; split <;> exact h
  case referenced => exact fun s g grp hg _ _ hs => hs.changeGroup hg fun h => h
  case continued => exact fun s g grp hg hs => hs.changeGroup hg continued_counts
  case groupCleared => exact fun s g grp hg _ hs => hs.changeGroup hg fun h => h
  case commissioned => exact fun s g grp hg _ hs => hs.changeGroup hg fun h => ⟨h.1, h.2.1, Nat.zero_le _⟩
  case unloaded => exact fun s g grp hg _ hs => hs.changeGroup hg fun h => ⟨h.1, h.2.1, Nat.zero_le _⟩
  case configured => exact fun s x r _ _ _ hs => counter_configureCarousel hs x _
  case defined =>
    intro s g r _ _ _ hs
    have h1 := (counter_takeMembers hs g r.memberList).setGroup g (counts_fresh r.memberList r.params (match r.memberList with
      | x :: _ => (s.geometryOf x).carriers
      | [] => 0) (keptRevolution s g r.memberList))
    exact h1.of_same ⟨rfl, rfl, rfl, rfl, rfl, rfl, rfl⟩ rfl
  case groupReset => exact fun s g grp _ _ hs => counter_resetGroup hs g grp
  case stored => exact fun s p o ho hs => hs.setStore p ho
  case opened => exact fun s os hs => { hs with opened := countUp_le _ }
  case generation => exact fun s hs => { hs with generation := countUp_le _ }
  case consumed =>
    exact fun s n hs => { hs with log := (List.drop_sublist n _).length_le.trans hs.log }
  case releaseEnded => exact fun s p e _ hs => counter_judgeHigh { hs with }
  case settingsReplaced =>
    exact fun s r _ hs => keeps_replaceSettings counterTurn (hs.setFault hs.stray) (fun _ _ hs => hs.setFault hs.stray)
      fun _ _ hs => hs.setFault hs.stray
  case faultLeft => exact fun s _ hs => hs.setFault fun f h => by cases h
  case diversionDelivered => exact fun s e rest dest hf _ _ hs => hs.setFault fun f h => by cases dest <;> exact hs.stray f h
  case faultDelivered => exact fun s f e rest dest _ _ _ hs => hs.setFault fun f h => by cases dest <;> cases h
  case stationFaulted => exact fun s kind _ hs => hs.setFault fun f h => by cases h; exact Nat.zero_le _
  case strayCounted => exact fun s f _ hs => hs.setFault fun f h => by cases h; exact Nat.min_le_right _ _
  case lateEntered => exact fun s f lane hf hs => hs.setFault fun f' h => by cases h; exact hs.stray f hf
  -- no other change of a command reaches a counter
  all_goals (intros; rename_i hs; exact CounterInv.of_same hs ⟨rfl, rfl, rfl, rfl, rfl, rfl, rfl⟩ rfl)

theorem counterInv_powerOn (cs : Nat) (is : List Instr) : CounterInv { State.reset with choices := cs, pending := is } where
  log := Nat.zero_le _
  entry := Nat.zero_le _
  generation := Nat.zero_le _
  opened := Nat.zero_le _
  activated := Nat.zero_le _
  stray _ h := by cases h
  waited p _ h := by simp [State.reset] at h
  invalid g _ h := by simp [State.reset] at h
  deviant g _ h := by simp [State.reset] at h
  change g _ h := by simp [State.reset] at h

theorem counterLine : LineClosed CounterInv CounterInv :=
  .of_linkFree (fun _ _ hs => { hs with }) (fun s _ => counterInv_powerOn s.choices s.pending)
    (fun s _ => { counterInv_powerOn s.choices s.pending with }) fun _ _ hs => { hs with }

theorem counterStart : StartClosed CounterInv where
  referencing _ _ grp hg _ hs := CounterInv.raiseRun (hs.changeGroup (grp' := { grp with markCount := 0 }) hg fun h => h) _ _ _
  move _ g _ _ _ _ _ _ _ _ _ _ hs := CounterInv.modGroup (hs.raiseRun _ _ _) g fun _ h => h

theorem counterInv_step {s t : State} (hs : CounterInv s) (he : step s = .next t) : CounterInv t :=
  keeps_step counterLine counterWork counterWork counterStart hs he

end Sys2Proof.Machine

namespace Sys2Proof.Certificates

open Sys2Proof Sys2Proof.Machine

/-- Settles O53, by the closures of `LinkInv` and of `CounterInv` under what commands change. -/
theorem stepKeepsLinkSound : Obligations.StepKeepsLinkSound :=
  ⟨fun _ _ => linkInv_step, fun _ _ => counterInv_step⟩

end Sys2Proof.Certificates

/-! SUPPORT. The ports stay sound, with the release in progress the one port that is RELEASING (R76, R77, R81, R87, R126, R127). -/

namespace Sys2Proof.Machine

open Sys2Proof

namespace PortInv

variable {s : State}

theorem of_same (hs : PortInv s) {t : State} (hp : t.ports = s.ports) (hr : t.station.releasePort = s.station.releasePort) :
    PortInv t where
  sound p := hp ▸ hs.sound p
  release p := by rw [hr, hp]; exact hs.release p

/-- One port changed, and with it the release in progress. -/
theorem of_change (hs : PortInv s) {t : State} {p : Index} {q : Port} (hp : t.ports = s.ports.set p q) (hq : PortSound q)
    (own : t.station.releasePort = some p ↔ q.shuttle = .releasing)
    (other : ∀ x, x ≠ p → (t.station.releasePort = some x ↔ s.station.releasePort = some x)) : PortInv t where
  sound x := by
    rw [hp, Quad.get_set]
    split
    · exact hq
    · exact hs.sound x
  release x := by
    rw [hp, Quad.get_set]
    split
    · rename_i hx
      rw [hx]
      exact own
    · rename_i hx
      exact (other x hx).trans (hs.release x)

/-- One port changed, that releases before and after or neither before nor after. -/
theorem setPort (hs : PortInv s) {p : Index} {q : Port} (hq : PortSound q)
    (hr : q.shuttle = .releasing ↔ (s.ports.get p).shuttle = .releasing) : PortInv (s.setPort p q) :=
  hs.of_change rfl hq ((hs.release p).trans hr.symm) fun _ _ => Iff.rfl

/-- A port changed besides its shuttle. -/
theorem modPort (hs : PortInv s) (p : Index) {f : Port → Port} (hf : PortSound (s.ports.get p) → PortSound (f (s.ports.get p)))
    (hr : (f (s.ports.get p)).shuttle = (s.ports.get p).shuttle) : PortInv (s.modPort p f) :=
  hs.setPort (hf (hs.sound p)) (by rw [hr])

theorem releasing (hs : PortInv s) {p : Index} (h : s.station.releasePort = some p) : (s.ports.get p).shuttle = .releasing :=
  (hs.release p).mp h

theorem only_release (hs : PortInv s) {p x : Index} (h : (s.ports.get p).shuttle = .releasing) (hx : x ≠ p) :
    s.station.releasePort ≠ some x := by
  rw [(hs.release p).mpr h]
  intro e
  exact hx (Option.some.inj e).symm

end PortInv

/-! ## What the changes of a port leave sound -/

namespace PortSound

variable {q : Port} (hq : PortSound q)
include hq

theorem grant (hl : q.shuttle = .homeLoaded) (n : Nat) :
    PortSound { q with shuttle := .releasing, releaseOut := true, transferTimer := some n } := by
  obtain ⟨fault, load, job, timer, insertOut, extractOut, releaseOut, scan, rest, lines⟩ := hq
  constructor <;> simp_all

theorem begin (hr : q.ready = true) (sh : ShuttleState) (hsh : sh = .inserting ∨ sh = .extracting) (j : Job) (n : Nat) :
    PortSound { q with shuttle := sh, insertOut := sh == .inserting, extractOut := sh == .extracting, job := some j,
                       transferTimer := some n } := by
  obtain ⟨fault, load, job, timer, insertOut, extractOut, releaseOut, scan, rest, lines⟩ := hq
  simp only [Port.ready, Bool.and_eq_true, beq_iff_eq, Option.isNone_iff_eq_none] at hr
  rcases hsh with rfl | rfl <;> constructor <;> simp_all

theorem scanSet (sc : Option Scan) (h : sc ≠ none → q.ready = true ∨ q.scan ≠ none) : PortSound { q with scan := sc } :=
  { hq with
    scan := fun hsc => by
      rcases h hsc with hr | hr
      · simp only [Port.ready, Bool.and_eq_true, beq_iff_eq] at hr
        rw [show _ = ShuttleState.homeEmpty from hr.1.1]
        simp
      · exact hq.scan hr }

theorem take (i : PortInput) (v : Bool) : PortSound (q.take i v) := by
  have hin : PortSound (q.setInput i v) := by
    cases i with
    | home => exact { hq with }
    | extended => exact { hq with }
    | load => exact { hq with }
    | presence l => exact { hq with lines := (List.length_set ..).trans hq.lines }
  unfold Port.take
  dsimp only
  split
  · refine { hin with job := ?_ }
    rw [← hin.job]
    simp
  · exact hin

theorem judged (ha : q.awaitingRest = true) (h e l : Bool) : PortSound (q.judged h e l) := by
  obtain ⟨fault, load, job, timer, insertOut, extractOut, releaseOut, scan, rest, lines⟩ := hq
  have hf := rest ha
  have hsh : q.shuttle = .faulted := fault.mpr (by simp [hf])
  unfold Port.judged
  dsimp only
  split <;> constructor <;> simp_all

theorem cleared (hf : q.shuttle = .faulted) : PortSound q.cleared := by
  obtain ⟨fault, load, job, timer, insertOut, extractOut, releaseOut, scan, rest, lines⟩ := hq
  unfold Port.cleared
  split
  · split <;> constructor <;> simp_all
  · constructor <;> simp_all

theorem insertionEnded (hi : q.shuttle = .inserting) :
    PortSound { q with shuttle := .homeEmpty, insertOut := false, job := none, transferTimer := none } := by
  obtain ⟨fault, load, job, timer, insertOut, extractOut, releaseOut, scan, rest, lines⟩ := hq
  constructor <;> simp_all

theorem extractionEnded (hi : q.shuttle = .extracting) (lr : LoadRecord) :
    PortSound { q with shuttle := .homeLoaded, extractOut := false, job := none, transferTimer := none, loadRec := some lr } := by
  obtain ⟨fault, load, job, timer, insertOut, extractOut, releaseOut, scan, rest, lines⟩ := hq
  constructor <;> simp_all

theorem insertionJammed (hi : q.shuttle = .inserting) (p : Index) (c l : Nat) :
    PortSound { q with shuttle := .faulted, insertOut := false, job := none, transferTimer := none,
                       fault := some (.insert p c l p) } := by
  obtain ⟨fault, load, job, timer, insertOut, extractOut, releaseOut, scan, rest, lines⟩ := hq
  constructor <;> simp_all

theorem extractionJammed (hi : q.shuttle = .extracting) (c l : Nat) (id : Id32) (seq : Nat) :
    PortSound { q with shuttle := .faulted, extractOut := false, job := none, transferTimer := none,
                       fault := some (.extract c l id seq) } := by
  obtain ⟨fault, load, job, timer, insertOut, extractOut, releaseOut, scan, rest, lines⟩ := hq
  constructor <;> simp_all

theorem releaseJammed (hi : q.shuttle = .releasing) :
    PortSound { q with shuttle := .faulted, releaseOut := false, transferTimer := none, fault := some .release } := by
  obtain ⟨fault, load, job, timer, insertOut, extractOut, releaseOut, scan, rest, lines⟩ := hq
  constructor <;> simp_all

theorem releaseEnded (hi : q.shuttle = .releasing) :
    PortSound { q with shuttle := .homeEmpty, releaseOut := false, transferTimer := none, loadRec := none } := by
  obtain ⟨fault, load, job, timer, insertOut, extractOut, releaseOut, scan, rest, lines⟩ := hq
  constructor <;> simp_all

end PortSound

theorem ready_shuttle {q : Port} (h : q.ready = true) : q.shuttle = .homeEmpty := by
  simp only [Port.ready, Bool.and_eq_true, beq_iff_eq] at h
  exact h.1.1

theorem cleared_shuttle (q : Port) : q.cleared.shuttle ≠ .releasing := by
  unfold Port.cleared
  split
  · split <;> simp
  · simp

/-! ## The closures -/

theorem portTurn : TurnClosed PortInv := by
  constructor
  case granted =>
    intro s p lr hrp _ _ hsh _ hs
    refine hs.of_change (p := p) rfl ((hs.sound p).grant hsh _) (by simp) fun x hx => ?_
    simp [hrp, Ne.symm hx]
  case inserted =>
    intro s p j n hr hs
    have hq := (hs.sound p).begin hr .inserting (.inl rfl) j n
    rw [show (ShuttleState.inserting == .extracting) = (s.ports.get p).extractOut from ?_] at hq
    · exact hs.setPort hq (by simp [ready_shuttle hr])
    · have := (hs.sound p).extractOut
      rw [ready_shuttle hr] at this
      simp at this
      exact this.symm
  case extracted =>
    intro s p j n hr hs
    have hq := (hs.sound p).begin hr .extracting (.inr rfl) j n
    rw [show (ShuttleState.extracting == .inserting) = (s.ports.get p).insertOut from ?_] at hq
    · exact hs.setPort hq (by simp [ready_shuttle hr])
    · have := (hs.sound p).insertOut
      rw [ready_shuttle hr] at this
      simp at this
      exact this.symm
  case scanned => exact fun s p sc hr hs => hs.modPort p (fun hq => hq.scanSet _ fun _ => .inl hr) rfl
  case unscanned => exact fun s p hs => hs.modPort p (fun hq => hq.scanSet _ fun h => absurd rfl h) rfl
  -- no other change of a turn reaches a port or the release in progress
  all_goals (intros; rename_i hs; exact hs.of_same (by simp) (by simp))

theorem port_followRun {s : State} (hs : PortInv s) : PortInv (followRun s) := hs.of_same (by simp) (by simp)

theorem discardScan_port {s : State} (hs : PortInv s) (p : Index) : PortInv (discardScan p s) := by
  unfold discardScan
  split
  · have h1 := portTurn.unscanned _ p hs
    dsimp only
    split
    · exact portTurn.modTask _ _ h1
    · exact h1
    · exact h1
  · exact hs

theorem port_resetGroup {s : State} (hs : PortInv s) (g : Index) (grp : Group) : PortInv (resetGroup g grp s) := by
  have h1 : PortInv ((dropRun g s).modChannel g fun ch => { ch with dir := .forward }) := hs.of_same (by simp) (by simp)
  have h2 : PortInv (grp.members.foldl resetMember ((dropRun g s).modChannel g fun ch => { ch with dir := .forward })) :=
    TurnClosed.foldl (P := PortInv) resetMember (fun s x hs => (discardScan_port hs x).of_same rfl rfl) _ _ h1
  exact h2.of_same rfl rfl

@[simp] theorem judgeHigh_releasePort (s : State) : (judgeHigh s).station.releasePort = s.station.releasePort := by
  unfold judgeHigh
  split <;> rfl

theorem portWork : WorkClosed PortInv PortInv := by
  constructor
  case toTurnClosed => exact portTurn
  case easedScan => exact portTurn.unscanned
  case groupReset => exact fun s g grp _ _ hs => port_resetGroup hs g grp
  case restJudged =>
    refine fun s p h e l ha hs => hs.setPort ((hs.sound p).judged ha h e l) ?_
    have hf : (s.ports.get p).shuttle = .faulted := (hs.sound p).fault.mpr (by simp [(hs.sound p).rest ha])
    rw [hf]
    unfold Port.judged
    dsimp only
    split <;> simp
  case inputTaken =>
    refine fun s p i v hs => hs.modPort p (fun hq => hq.take i v) ?_
    unfold Port.take
    cases i <;> dsimp only [Port.setInput] <;> split <;> rfl
  case infeedSet => exact fun s p i hs => hs.modPort p (fun hq => { hq with }) rfl
  case rescanned => exact fun s p sc sc' h hs => hs.modPort p (fun hq => hq.scanSet _ fun _ => .inr (by simp [h])) rfl
  case insertionEnded => exact fun s p hp hs => hs.setPort ((hs.sound p).insertionEnded hp) (by simp [hp])
  case extractionEnded => exact fun s p lr hp hs => hs.setPort ((hs.sound p).extractionEnded hp lr) (by simp [hp])
  case insertionJammed => exact fun s p c l hp hs => hs.setPort ((hs.sound p).insertionJammed hp p c l) (by simp [hp])
  case extractionJammed =>
    exact fun s p c l id seq hp hs => hs.setPort ((hs.sound p).extractionJammed hp c l id seq) (by simp [hp])
  case releaseJammed =>
    exact fun s p hp hs => hs.of_change rfl ((hs.sound p).releaseJammed hp) (by simp) fun x hx => by
      simpa using hs.only_release hp hx
  case releaseEnded =>
    intro s p e hr hs
    have hp := hs.releasing hr
    exact hs.of_change (p := p) (by simp) ((hs.sound p).releaseEnded hp) (by simp) fun x hx => by
      simpa using hs.only_release hp hx
  case portCleared =>
    intro s p hc hs
    have hf : (s.ports.get p).shuttle = .faulted := by simpa using firstFailure_none_iff.mp hc _ List.mem_cons_self
    exact hs.setPort ((hs.sound p).cleared hf) (by simp [hf, cleared_shuttle])
  case settingsReplaced =>
    exact fun s r _ hs => keeps_replaceSettings portTurn (hs.of_same rfl rfl) (fun _ _ hs => hs.of_same rfl rfl)
      fun _ _ hs => hs.of_same rfl rfl
  case slotBegun => exact fun s g hs => hs.of_same rfl rfl
  case diversionBegun => exact fun s e rest _ _ _ _ hs => hs.of_same rfl rfl
  case diversionEnded => exact fun s _ hs => hs.of_same rfl rfl
  case faultLeft => exact fun s _ hs => hs.of_same rfl rfl
  case diversionDelivered => exact fun s e rest dest _ _ _ hs => hs.of_same rfl (by cases dest <;> rfl)
  case faultDelivered => exact fun s f e rest dest _ _ _ hs => hs.of_same rfl (by cases dest <;> rfl)
  -- no other change of a command reaches a port or the release in progress
  all_goals (intros; rename_i hs; exact hs.of_same (by simp) (by simp))

theorem portSound_powerOn (p : Port) (h : p.presence.length = 6) : PortSound p.afterReset where
  fault := by simp [Port.afterReset, Port.powerOn]
  load := by simp [Port.afterReset, Port.powerOn]
  job := by simp [Port.afterReset, Port.powerOn]
  timer := by simp [Port.afterReset, Port.powerOn]
  insertOut := by simp [Port.afterReset, Port.powerOn]
  extractOut := by simp [Port.afterReset, Port.powerOn]
  releaseOut := by simp [Port.afterReset, Port.powerOn]
  scan := by simp [Port.afterReset, Port.powerOn]
  rest := by simp [Port.afterReset, Port.powerOn]
  lines := h

theorem portLine : LineClosed PortInv PortInv := by
  refine .of_linkFree (fun _ _ hs => hs.of_same rfl rfl) (fun s _ => ⟨fun p => ?_, fun p => ?_⟩) (fun s hs => ⟨fun p => ?_, fun p => ?_⟩)
    fun _ _ hs => hs.of_same rfl rfl
  · simp only [State.reset, Quad.get_fill]
    exact portSound_powerOn Port.powerOn rfl
  · simp [State.reset, Station.powerOn, Port.powerOn]
  · simp only [deviceReset, Quad.get_map]
    exact portSound_powerOn _ (hs.sound p).lines
  · simp [deviceReset, State.reset, Station.powerOn, Port.afterReset, Port.powerOn]

theorem portStarting : StartClosed PortInv where
  referencing _ _ _ _ _ hs := hs.of_same (by simp) (by simp)
  move _ _ _ _ _ _ _ _ _ _ _ _ hs := hs.of_same (by simp [startMove]) (by simp [startMove])

end Sys2Proof.Machine

namespace Sys2Proof.Certificates

open Sys2Proof Sys2Proof.Machine

/-- Settles O55, by the closure of `PortInv` under what commands change. -/
theorem stepKeepsPortsSound : Obligations.StepKeepsPortsSound :=
  fun _ _ => keeps_step portLine portWork portWork portStarting

end Sys2Proof.Certificates

/-! SUPPORT. The station stays sound (R124, R128 to R130, R133, R135, R137). While new settings are taken, the count of the
collector has not yet been judged against the new H; `StationRoom` is what holds until then. -/

namespace Sys2Proof.Machine

open Sys2Proof

/-- A station sound but for a count that has not been judged against H yet: a running collector has room for one entry more. -/
structure StationRoom (st : Station) : Prop where
  settings : 2 ≤ st.settings.high ∧ st.settings.high ≤ 12 ∧ st.settings.low < st.settings.high
    ∧ 1 ≤ st.settings.laneCount ∧ st.settings.laneCount ≤ 4
    ∧ 2 ≤ st.settings.transferTimeout ∧ st.settings.transferTimeout ≤ 30 ∧ st.settings.massTolerance ≤ 100
    ∧ 10 ≤ st.settings.storePatience ∧ st.settings.storePatience ≤ 300
  collector : st.collector.length ≤ 12
  room : st.paused = false → st.collector.length < 12
  released : st.releasePort ≠ none → st.collector.length < 12
  reject : st.reject.length ≤ 8
  diverting : st.divertingNow = true → st.collector ≠ [] ∧ st.reject.length < 8
  position : ∀ d, st.diverter = .diverting d → st.position = d
  send : st.send = true ↔ st.fault = none ∧ st.divertingNow = true
  drive : st.drive = true ↔ st.fault = none
  timer : st.diversionTimer ≠ none ↔ st.send = true
  inFlight : ∀ f, st.fault = some f → (f.diversion ≠ none ↔ st.divertingNow = true)

theorem StationInv.toRoom {st : Station} (h : StationInv st) : StationRoom st :=
  { h with room := fun hp => Nat.lt_of_lt_of_le (h.running hp) h.settings.2.1 }

theorem StationRoom.toInv {st : Station} (h : StationRoom st) (hr : st.paused = false → st.collector.length < st.settings.high) :
    StationInv st := { h with running := hr }

@[simp] theorem divertingNow_diverting {st : Station} {d : Lane} (h : st.diverter = .diverting d) : st.divertingNow = true := by
  unfold Station.divertingNow
  rw [h]

theorem stationRoomTurn : TurnClosed fun s => StationRoom s.station := by
  constructor
  case granted => exact fun s p lr _ _ hp _ _ hs => { hs with released := fun _ => hs.room hp }
  case lanes => exact fun s ls hs => { hs with }
  all_goals (intros; rename_i hs; simpa using hs)

theorem stationTurn : TurnClosed fun s => StationInv s.station := by
  constructor
  case granted => exact fun s p lr _ _ hp _ _ hs => { hs with released := fun _ => hs.toRoom.room hp }
  case lanes => exact fun s ls hs => { hs with }
  all_goals (intros; rename_i hs; simpa using hs)

namespace StationInv

variable {st : Station} (h : StationInv st)
include h

/-- Fewer entries on the collector, once no diversion runs, leave a sound station sound. -/
theorem shorter {c : List CollectorItem} (hc : c.length ≤ st.collector.length) (hd : st.divertingNow = false) :
    StationInv { st with collector := c } :=
  { h with
    collector := hc.trans h.collector
    running := fun hp => Nat.lt_of_le_of_lt hc (h.running hp)
    released := fun hr => Nat.lt_of_le_of_lt hc (h.released hr)
    diverting := fun he => absurd (show st.divertingNow = true from he) (by simp [hd]) }

/-- A head that joins a lane, once no diversion runs, leaves a sound station sound where the reject lane has room. -/
theorem delivered {e : CollectorItem} {rest : List CollectorItem} (dest : Lane) (hc : st.collector = e :: rest)
    (hd : st.divertingNow = false) (hroom : st.reject.length < 8) : StationInv (st.delivered dest e rest) := by
  have hlen : rest.length ≤ st.collector.length := by rw [hc]; exact Nat.le_succ _
  have h1 := h.shorter hlen hd
  cases dest with
  | order i => exact { h1 with }
  | reject =>
    exact { h1 with
      reject := by
        show (st.reject ++ [_]).length ≤ 8
        rw [List.length_append]
        exact hroom
      diverting := fun he => absurd (show st.divertingNow = true from he) (by simp [hd]) }

/-- An idle or waiting diverter in place of one that does not divert. -/
theorem notDiverting {d : Diverter} (hd : st.divertingNow = false) (hn : ({ st with diverter := d }).divertingNow = false) :
    StationInv { st with diverter := d } :=
  { h with
    diverting := fun he => absurd he (by simp [hn])
    position := fun x hx => absurd (divertingNow_diverting hx) (by simp [hn])
    send := by rw [hn, ← hd]; exact h.send
    inFlight := fun f hf => by rw [hn, ← hd]; exact h.inFlight f hf }

theorem begun {d : Lane} (hd : st.divertingNow = false) (hc : st.collector ≠ []) (hr : st.reject.length < 8)
    (hf : st.fault = none) (n : Nat) :
    StationInv { st with diverter := .diverting d, position := d, send := true, diversionTimer := some n } :=
  { h with
    diverting := fun _ => ⟨hc, hr⟩
    position := fun x hx => by cases hx; rfl
    send := by simp [hf, Station.divertingNow]
    timer := by simp
    inFlight := fun f he => absurd (hf.symm.trans he) (by simp) }

theorem ended (hf : st.fault = none) : StationInv st.diversionEnded :=
  { h with
    diverting := fun he => by cases he
    position := fun x hx => by cases hx
    send := ⟨fun he => (by cases he), fun he => (by cases he.2)⟩
    timer := by simp [Station.diversionEnded]
    inFlight := fun f he => absurd (hf.symm.trans he) (by simp) }

omit h in
theorem faultLeft_divertingNow (st : Station) : st.faultLeft.divertingNow = false := by
  unfold Station.faultLeft Station.divertingNow
  cases st.diverter <;> rfl

theorem left (hf : st.fault ≠ none) : StationInv st.faultLeft := by
  have hn := faultLeft_divertingNow st
  have hs : st.send = false := by
    by_contra hc
    exact hf (h.send.mp (by simpa using hc)).1
  exact { h with
    diverting := fun he => absurd he (by simp [hn])
    position := fun x hx => absurd (divertingNow_diverting hx) (by simp [hn])
    send := by rw [hn]; simp [Station.faultLeft, hs]
    drive := by simp [Station.faultLeft]
    inFlight := fun f he => by cases he }

theorem faulted (hf : st.fault = none) (f : StationFault) (hd : f.diversion ≠ none ↔ st.divertingNow = true) :
    StationInv { st with fault := some f, drive := false, send := false, diversionTimer := none } :=
  { h with
    send := by simp
    drive := by simp
    timer := by simp
    inFlight := fun f' he => by cases he; exact hd }

theorem refaulted {f f' : StationFault} (hf : st.fault = some f) (hd : f'.diversion = f.diversion) :
    StationInv { st with fault := some f' } :=
  { h with
    send := by have := h.send; simpa [hf] using this
    drive := by have := h.drive; simpa [hf] using this
    inFlight := fun f'' he => by cases he; rw [hd]; exact h.inFlight f hf }

theorem redirected {i : Index} (hd : st.diverter = .diverting (.order i)) :
    StationInv { st with diverter := .diverting .reject, position := .reject } := by
  have hn := divertingNow_diverting hd
  exact { h with
    diverting := fun _ => h.diverting hn
    position := fun x hx => by cases hx; rfl
    send := by have := h.send; rw [hn] at this; exact this
    inFlight := fun f hf => by have := h.inFlight f hf; rw [hn] at this; exact this }

end StationInv

/-- A diversion is in flight exactly while the diverter of a sound station is DIVERTING. -/
theorem diversionInFlight_iff {s : State} (hs : StationInv s.station) :
    s.diversionInFlight ≠ none ↔ s.station.divertingNow = true := by
  unfold State.diversionInFlight
  split
  · rename_i d e rest hd _
    simp [divertingNow_diverting hd]
  · rename_i hn
    simp only [ne_eq, not_true_eq_false, false_iff]
    intro hd
    obtain ⟨e, rest, hc⟩ := List.exists_cons_of_ne_nil (hs.diverting hd).1
    unfold Station.divertingNow at hd
    split at hd
    · exact hn _ _ _ ‹_› hc
    · cases hd

/-- What is sound but for a count at H is sound once the count has been judged. -/
theorem station_judgeHigh {s : State} (hs : StationInv { s.station with paused := true }) : StationInv (judgeHigh s).station := by
  unfold judgeHigh
  split
  · exact hs
  · exact { hs with running := fun _ => Nat.lt_of_not_le ‹_› }

theorem StationRoom.pausedSound {st : Station} (h : StationRoom st) : StationInv { st with paused := true } :=
  { h with running := fun h => by cases h }

theorem station_judgeLow {s : State} (hs : StationInv s.station) : StationInv (judgeLow s).station := by
  unfold judgeLow
  split
  · rename_i hc
    simp only [Bool.and_eq_true, decide_eq_true_eq] at hc
    refine stationTurn.judgeGate { hs with running := fun _ => ?_ }
    exact Nat.lt_of_le_of_lt hc.2 hs.settings.2.2.1
  · exact hs

theorem settings_of_checks {r : Settings} (h : firstFailure (settingsChecks r) = none) :
    2 ≤ r.high ∧ r.high ≤ 12 ∧ r.low < r.high ∧ 1 ≤ r.laneCount ∧ r.laneCount ≤ 4 ∧ 2 ≤ r.transferTimeout
      ∧ r.transferTimeout ≤ 30 ∧ r.massTolerance ≤ 100 ∧ 10 ≤ r.storePatience ∧ r.storePatience ≤ 300 := by
  have hall := firstFailure_none_iff.mp h
  simp only [settingsChecks, List.forall_mem_cons, decide_eq_true_eq] at hall
  omega

theorem judgePromotions_station (s : State) : (judgePromotions s).station = s.station :=
  foldl_field State.station _ (fun s p => modStore_station s p _) _ _

/-- Two stations with the same collector, pause and settings are judged alike against H. -/
theorem settings_judgeActivation (s : State) : (judgeActivation s).station.settings = s.station.settings :=
  show (judgeActivation s).turnCore.station.settings = s.turnCore.station.settings by rw [turnCore_judgeActivation]

theorem collector_judgeActivation (s : State) : (judgeActivation s).station.collector = s.station.collector :=
  show (judgeActivation s).turnCore.station.collector = s.turnCore.station.collector by rw [turnCore_judgeActivation]

theorem paused_judgeActivation (s : State) : (judgeActivation s).station.paused = s.station.paused :=
  show (judgeActivation s).turnCore.station.paused = s.turnCore.station.paused by rw [turnCore_judgeActivation]

theorem station_replaceSettings {s : State} {r : Settings} (hc : firstFailure (settingsChecks r) = none)
    (hs : StationInv s.station) : StationInv (replaceSettings r s).station := by
  have h1 : StationRoom (judgePromotions (s.setStation { s.station with settings := r })).station := by
    rw [judgePromotions_station]
    exact { hs.toRoom with settings := settings_of_checks hc }
  have same : s.station.settings.high = r.high → ∀ t : State, StationRoom t.station → t.station.settings = r →
      t.station.collector = s.station.collector → t.station.paused = s.station.paused → StationInv t.station := by
    intro hh t ht hset hcol hp
    refine ht.toInv fun hpf => ?_
    rw [hset, hcol, ← hh]
    exact hs.running (hp ▸ hpf)
  unfold replaceSettings
  dsimp only
  split <;> split
  · rename_i hh _
    exact same hh.1 _ h1 (by rw [judgePromotions_station]; rfl) (by rw [judgePromotions_station]; rfl)
      (by rw [judgePromotions_station]; rfl)
  · rename_i hh _
    refine same hh.1 _ (stationRoomTurn.judgeActivation h1) ?_ ?_ ?_
    · rw [settings_judgeActivation, judgePromotions_station]; rfl
    · rw [collector_judgeActivation, judgePromotions_station]; rfl
    · rw [paused_judgeActivation, judgePromotions_station]; rfl
  · exact station_judgeLow (station_judgeHigh h1.pausedSound)
  · exact station_judgeLow (station_judgeHigh (stationRoomTurn.judgeActivation h1).pausedSound)

theorem stationWork : WorkClosed (fun s => StationInv s.station) fun s => StationInv s.station := by
  constructor
  case toTurnClosed => exact stationTurn
  case releaseJammed => exact fun s p _ hs => { hs with released := fun h => absurd rfl h }
  case releaseEnded =>
    intro s p e hr hs
    have hl : s.station.collector.length < 12 := hs.released (by simp [hr])
    refine station_judgeHigh { hs with
      collector := ?_
      running := fun h => by cases h
      released := fun h => absurd rfl h
      diverting := fun h => ⟨by simp, (hs.diverting h).2⟩ }
    show (s.station.collector ++ [e]).length ≤ 12
    rw [List.length_append]
    exact hl
  case rejectEmptied =>
    exact fun s hs => { hs with reject := Nat.zero_le _, diverting := fun h => ⟨(hs.diverting h).1, Nat.zero_lt_succ 7⟩ }
  case settingsReplaced => exact fun s r hc hs => station_replaceSettings hc hs
  case unpaused => exact fun s hl hs => { hs with running := fun _ => Nat.lt_of_le_of_lt hl hs.settings.2.2.1 }
  case noDiversion => exact fun s hd hs => hs.notDiverting hd rfl
  case waitsForRoom => exact fun s hd hs => hs.notDiverting hd rfl
  case diversionBegun =>
    exact fun s e rest hd hc hr hf hs => hs.begun hd (by simp [hc]) hr hf _
  case diversionEnded => exact fun s hf hs => hs.ended hf
  case diversionDelivered =>
    exact fun s e rest dest hf hd hc hs => (hs.ended hf).delivered dest hc rfl (hs.diverting hd).2
  case faultLeft => exact fun s hf hs => hs.left hf
  case faultDelivered =>
    exact fun s f e rest dest hf hd hc hs => (hs.left (by simp [hf])).delivered dest hc (StationInv.faultLeft_divertingNow _)
      (hs.diverting ((hs.inFlight f hf).mp hd)).2
  case redirected => exact fun s i hd hs => hs.redirected hd
  case stationFaulted => exact fun s kind hf hs => hs.faulted hf _ (diversionInFlight_iff hs)
  case strayCounted => exact fun s f hf hs => hs.refaulted hf rfl
  case lateEntered => exact fun s f lane hf hs => hs.refaulted hf rfl
  -- no other change of a command reaches the station
  all_goals (intros; rename_i hs; simpa using hs)

theorem stationInv_powerOn : StationInv Station.powerOn where
  settings := by decide
  collector := by decide
  running _ := by decide
  released h := absurd rfl h
  reject := by decide
  diverting h := by cases h
  position d h := by cases h
  send := by decide
  drive := by decide
  timer := by decide
  inFlight f h := by cases h

theorem stationLine : LineClosed (fun s => StationInv s.station) fun s => StationInv s.station :=
  .of_linkFree (fun _ _ => id) (fun _ _ => stationInv_powerOn) (fun _ _ => stationInv_powerOn) fun _ _ => id

theorem stationStart : StartClosed fun s => StationInv s.station where
  referencing _ _ _ _ _ hs := by simpa using hs
  move _ _ _ _ _ _ _ _ _ _ _ _ hs := by simpa [startMove] using hs

end Sys2Proof.Machine

namespace Sys2Proof.Certificates

open Sys2Proof Sys2Proof.Machine

/-- Settles O56, by the closure of `StationInv` under what commands change. -/
theorem stepKeepsStationSound : Obligations.StepKeepsStationSound :=
  fun _ _ => keeps_step stationLine stationWork stationWork stationStart

end Sys2Proof.Certificates

/-! SUPPORT. The drive groups, channels and the measurement engine stay sound (R6, R9, R10, R12, R16, R18, R59, R151). `DriveCore`
is what holds while RUN lines fall one after another, before the engine follows. -/

namespace Sys2Proof.Machine

open Sys2Proof

/-! ## The measurement engine -/

/-- The engine measures a group whose RUN is high, and is IDLE only while none is (R151). -/
structure EngineOk (s : State) : Prop where
  measuring : ∀ g, s.audit.engine.measuring = some g → (s.channels.get g).run = true
  idle : s.audit.engine.measuring = none → ∀ g, (s.channels.get g).run = false

theorem EngineOk.of_same {s t : State} (h : EngineOk s) (he : t.audit.engine = s.audit.engine)
    (hc : ∀ g, (t.channels.get g).run = (s.channels.get g).run) : EngineOk t where
  measuring g hg := by rw [hc]; exact h.measuring g (he ▸ hg)
  idle hn g := by rw [hc]; exact h.idle (he ▸ hn) g

theorem run_of_nextDriving_none {s : State} {last : Index} (h : s.nextDriving last = none) (g : Index) :
    (s.channels.get g).run = false := by
  have hmem : ∀ g last : Index, g ∈ [last + 1, last + 2, last + 3, last] := by decide
  simpa using List.find?_eq_none.mp h g (hmem g last)

theorem beginVisit_engineOk (s : State) : EngineOk (beginVisit s) := by
  rw [beginVisit_spec]
  cases h : s.nextDriving s.audit.engine.last with
  | none => exact ⟨fun g hg => by simp at hg, fun _ g => run_of_nextDriving_none h g⟩
  | some g => exact ⟨fun g' hg => by simp at hg; exact hg ▸ run_of_nextDriving h, fun hn => by simp at hn⟩

/-- Whatever the RUN lines were, the engine that has followed them is right. -/
theorem followRun_engineOk (s : State) : EngineOk (followRun s) := by
  unfold followRun
  split
  · rename_i g hg
    split
    · exact ⟨fun g' h => by rw [hg] at h; cases h; assumption, fun h => by rw [hg] at h; cases h⟩
    · exact beginVisit_engineOk s
  · exact beginVisit_engineOk s

/-! ## One group with its channel -/

/-- What soundness of a group looks at. -/
def Group.driveCore (grp : Group) : Group := { grp.noteless with effective := [], planned := [], changeNo := 0 }

theorem groupSound_driveCore {grp : Group} {ch : Channel} : GroupSound grp.driveCore ch ↔ GroupSound grp ch :=
  ⟨fun h => { h with }, fun h => { h with }⟩

theorem GroupSound.of_core {grp grp' : Group} {ch : Channel} (h : GroupSound grp ch) (hc : grp'.driveCore = grp.driveCore) :
    GroupSound grp' ch := groupSound_driveCore.mp (hc ▸ groupSound_driveCore.mpr h)

theorem GroupSound.of_noteless {grp grp' : Group} {ch : Channel} (h : GroupSound grp ch) (hc : grp'.noteless = grp.noteless) :
    GroupSound grp' ch := h.of_core (by unfold Group.driveCore; rw [hc])

theorem members_of_noteless {grp grp' : Group} (hc : grp'.noteless = grp.noteless) : grp'.members = grp.members :=
  show grp'.noteless.members = grp.noteless.members by rw [hc]

theorem GroupSound.channel {grp : Group} {ch ch' : Channel} (h : GroupSound grp ch) (hr : ch'.run = ch.run)
    (hd : ch'.dir = ch.dir) : GroupSound grp ch' where
  run e := h.run (hr ▸ e)
  rest e := hd ▸ h.rest e
  invalid := h.invalid
  valid := h.valid
  slots := h.slots
  waiting := h.waiting
  travel e := hr ▸ h.travel e
  departed := h.departed
  settling := hr ▸ h.settling
  stall := hr ▸ h.stall
  pause := h.pause
  cause := h.cause

namespace GroupSound

variable {grp : Group} {ch : Channel} (h : GroupSound grp ch)
include h

theorem paused_idle (hi : grp.state = .idle) : GroupSound grp.paused ch := by
  obtain ⟨run, rest, invalid, valid, slots, waiting, travel, departed, settling, stall, pause, cause⟩ := h
  constructor <;> simp_all [Group.paused]

theorem pausing (hm : grp.state = .moving) : GroupSound { grp with pausePending := true } ch := { h with pause := fun _ => hm }

/-- RUN has fallen at the channel. -/
theorem paused_referencing (hr : grp.state = .referencing) (v : SpeedClass) :
    GroupSound { ({ grp with stallTimer := none } : Group).paused with k := none } { ch with run := false, speed := v } := by
  obtain ⟨run, rest, invalid, valid, slots, waiting, travel, departed, settling, stall, pause, cause⟩ := h
  constructor <;> simp_all [Group.paused]

theorem faultedBy (c : FaultCause) (hc : c ≠ .none) (v : SpeedClass) :
    GroupSound (({ grp with stallTimer := none } : Group).faultedBy c) { ch with run := false, speed := v } := by
  obtain ⟨run, rest, invalid, valid, slots, waiting, travel, departed, settling, stall, pause, cause⟩ := h
  constructor <;> simp_all [Group.faultedBy]

theorem homeFound (hr : grp.state = .referencing) (v : SpeedClass) :
    GroupSound ({ grp with stallTimer := none } : Group).homeFound { ch with run := false, speed := v } := by
  obtain ⟨run, rest, invalid, valid, slots, waiting, travel, departed, settling, stall, pause, cause⟩ := h
  constructor <;> simp_all [Group.homeFound]

theorem stopped (hm : grp.state = .moving) (v : SpeedClass) :
    GroupSound ({ grp with stallTimer := none } : Group).stopped { ch with run := false, speed := v } := by
  obtain ⟨run, rest, invalid, valid, slots, waiting, travel, departed, settling, stall, pause, cause⟩ := h
  unfold Group.stopped
  split <;> constructor <;> simp_all [Group.paused]

theorem arrived (hm : grp.state = .moving) (v : SpeedClass) :
    GroupSound ({ grp with stallTimer := none } : Group).arrived { ch with run := false, speed := v } := by
  obtain ⟨run, rest, invalid, valid, slots, waiting, travel, departed, settling, stall, pause, cause⟩ := h
  constructor <;> simp_all [Group.arrived]

theorem holdEntry (hrun : ¬(grp.state = .referencing ∧ ch.run = true)) : GroupSound (grp.holdEntry ch.run) ch := by
  unfold Group.holdEntry
  split <;> rename_i hst
  · exact { h with
      slots := fun hi => absurd hst hi
      waiting := fun _ m hm => by cases hm
      travel := fun hm => absurd (hst.symm.trans hm) (by simp)
      departed := fun hm => absurd (hst.symm.trans hm) (by simp) }
  · split
    · rename_i m hc
      split <;> rename_i hph
      · exact { h with
          slots := fun _ hm => absurd hst hm
          waiting := fun hi => absurd (hst.symm.trans hi) (by simp)
          travel := fun _ => by
            have := h.travel hst
            simp only [hc, Option.some.injEq, exists_eq_left'] at this ⊢
            exact this
          departed := fun _ m' hm => by cases hm; show m.phase ≠ _; rw [hph]; simp }
      · exact { h with slots := fun _ hm => absurd hst hm }
    · exact h
  · split
    · exact absurd ⟨hst, ‹_›⟩ hrun
    · exact h
  · exact h

theorem holdEntry_referencing (hst : grp.state = .referencing) (v : SpeedClass) :
    GroupSound { grp with markCount := 0, stallTimer := none } { ch with run := false, speed := v } := by
  obtain ⟨run, rest, invalid, valid, slots, waiting, travel, departed, settling, stall, pause, cause⟩ := h
  constructor <;> simp_all

theorem referencingMarked (hr : ch.run = true) : GroupSound grp.referencingMarked ch :=
  { h with stall := hr.symm }

theorem atMark (hm : grp.state = .moving) {m : Move} (hc : grp.current = some m) (hp : m.phase = .travel) (k : Nat)
    (home : Bool) (v : MarkVerdict) : GroupSound (grp.atMark k home v) ch := by
  have hr : ch.run = true := (h.travel hm).mpr ⟨m, hc, hp⟩
  have h1 : GroupSound { grp with k := some k, encoder := 0, stallTimer := some grp.params.stallTime } ch :=
    { h with
      run := fun _ => .inl hm
      invalid := fun e => by rw [show _ = GroupState.moving from hm] at e; simp at e
      valid := fun _ => by simp
      settling := by
        have := h.settling
        simpa [hm, hr] using this
      stall := hr.symm }
  refine h1.of_noteless ?_
  unfold Group.atMark
  cases v with
  | recrossing => rfl
  | fault => rfl
  | step d => cases home <;> rfl

theorem settled (hm : grp.state = .moving) (hs : grp.settle = true) : GroupSound grp.settled ch := by
  obtain ⟨run, rest, invalid, valid, slots, waiting, travel, departed, settling, stall, pause, cause⟩ := h
  unfold Group.settled
  split <;> constructor <;> simp_all [Group.paused]

theorem referenced (hr : grp.state = .referencing) (hs : grp.settle = true) :
    GroupSound { grp with state := .idle, settle := false } ch := by
  obtain ⟨run, rest, invalid, valid, slots, waiting, travel, departed, settling, stall, pause, cause⟩ := h
  constructor <;> simp_all

theorem continued : GroupSound grp.continued ch := by
  unfold Group.continued
  split <;> rename_i hst
  · obtain ⟨run, rest, invalid, valid, slots, waiting, travel, departed, settling, stall, pause, cause⟩ := h
    split <;> constructor <;> simp_all
  · exact { h with pause := fun e => by cases e }
  · exact h

theorem cleared (hf : grp.state = .faulted) : GroupSound grp.cleared ch := by
  obtain ⟨run, rest, invalid, valid, slots, waiting, travel, departed, settling, stall, pause, cause⟩ := h
  constructor <;> simp_all [Group.cleared]

theorem commissioned (ho : grp.state = .offline) (e : List Int) : GroupSound (grp.commissioned e) ch := by
  obtain ⟨run, rest, invalid, valid, slots, waiting, travel, departed, settling, stall, pause, cause⟩ := h
  constructor <;> simp_all [Group.commissioned]

theorem runRaised (hr : grp.state = .referencing) (hk : grp.k = none) (d : Direction) (v : SpeedClass) (n : Nat) :
    GroupSound { grp with stallTimer := some n } { ch with run := true, dir := d, speed := v } := by
  obtain ⟨run, rest, invalid, valid, slots, waiting, travel, departed, settling, stall, pause, cause⟩ := h
  constructor <;> simp_all

/-- The move of an idle group begins to travel. -/
theorem departs (hi : grp.state = .idle) {m m' : Move} (hc : grp.current = some m) (hp : m'.phase = .travel) (d : Direction)
    (v : SpeedClass) (n : Nat) :
    GroupSound { grp with state := .moving, current := some m', stallTimer := some n } { ch with run := true, dir := d, speed := v } := by
  obtain ⟨run, rest, invalid, valid, slots, waiting, travel, departed, settling, stall, pause, cause⟩ := h
  constructor <;> simp_all

/-- CURRENT with another task list. -/
theorem retasked {m : Move} (hc : grp.current = some m) (ts : List Task) :
    GroupSound { grp with current := some { m with tasks := ts } } ch :=
  { h with
    slots := fun h1 h2 => absurd (h.slots h1 h2).1 (by simp [hc])
    waiting := fun hi m' hm => by cases hm; exact h.waiting hi m hc
    travel := fun hm => by simpa [hc] using h.travel hm
    departed := fun hm m' he => by cases he; exact h.departed hm m hc }

theorem filled (hi : grp.state = .idle) {m : Move} (hp : m.phase = .waiting) (n : Option Target) :
    GroupSound { grp with current := some m, next := n } ch := by
  obtain ⟨run, rest, invalid, valid, slots, waiting, travel, departed, settling, stall, pause, cause⟩ := h
  constructor <;> simp_all

theorem nextSet (hst : grp.state = .idle ∨ grp.state = .moving) (n : Option Target) :
    GroupSound { grp with next := n } ch :=
  { h with
    slots := fun h1 h2 => by
      rcases hst with e | e
      · exact absurd e h1
      · exact absurd e h2 }

end GroupSound

theorem groupSound_fresh (ms : List Index) (ps : GroupParams) (c r : Nat) {ch : Channel} (hr : ch.run = false)
    (hd : ch.dir = .forward) : GroupSound (Group.fresh ms ps c r) ch := by
  constructor <;> simp_all [Group.fresh]

/-! ## All groups -/

/-- The groups and channels are sound, whatever the engine measures. -/
structure DriveCore (s : State) : Prop where
  absent : ∀ g, s.groups.get g = none → (s.channels.get g).run = false ∧ (s.channels.get g).dir = .forward
  speed : ∀ g, (s.channels.get g).run = false → (s.channels.get g).speed = .creep
  sound : ∀ g grp, s.groups.get g = some grp → GroupSound grp (s.channels.get g)
  disjoint : ∀ g h a b x, s.groups.get g = some a → s.groups.get h = some b → x ∈ a.members → x ∈ b.members → g = h

theorem driveInv_iff {s : State} : DriveInv s ↔ DriveCore s ∧ EngineOk s :=
  ⟨fun h => ⟨{ h with }, { h with }⟩, fun h => { h.1, h.2 with }⟩

namespace DriveCore

variable {s : State}

theorem of_same (hs : DriveCore s) {t : State} (hg : t.groups = s.groups) (hc : t.channels = s.channels) : DriveCore t where
  absent := by rw [hg, hc]; exact hs.absent
  speed := by rw [hc]; exact hs.speed
  sound := by rw [hg, hc]; exact hs.sound
  disjoint := by rw [hg]; exact hs.disjoint

/-- One group with its channel changed, the members kept. -/
theorem change (hs : DriveCore s) {t : State} {g : Index} {grp grp' : Group} {ch : Channel} (hg : s.groups.get g = some grp)
    (hgs : t.groups = s.groups.set g (some grp')) (hcs : t.channels = s.channels.set g ch)
    (hm : grp'.members = grp.members) (hq : GroupSound grp' ch) (hv : ch.run = false → ch.speed = .creep) : DriveCore t := by
  have hback : ∀ h b, t.groups.get h = some b → ∃ a, s.groups.get h = some a ∧ b.members = a.members := by
    intro h b hb
    rw [hgs, Quad.get_set] at hb
    split at hb
    · rename_i he
      cases hb
      exact ⟨grp, he ▸ hg, hm⟩
    · exact ⟨b, hb, rfl⟩
  refine ⟨fun h hn => ?_, fun h hr => ?_, fun h b hb => ?_, fun h k a b x ha hb hxa hxb => ?_⟩
  · rw [hgs, Quad.get_set] at hn
    split at hn
    · cases hn
    · rename_i he
      rw [hcs, Quad.get_set_ne _ _ he]
      exact hs.absent h hn
  · rw [hcs, Quad.get_set] at hr ⊢
    split
    · rename_i he
      rw [if_pos he] at hr
      exact hv hr
    · rename_i he
      rw [if_neg he] at hr
      exact hs.speed h hr
  · rw [hgs, Quad.get_set] at hb
    rw [hcs, Quad.get_set]
    split
    · rename_i he
      rw [if_pos he] at hb
      cases hb
      exact hq
    · rename_i he
      rw [if_neg he] at hb
      exact hs.sound h b hb
  · obtain ⟨a', ha', hma⟩ := hback h a ha
    obtain ⟨b', hb', hmb⟩ := hback k b hb
    exact hs.disjoint h k a' b' x ha' hb' (hma ▸ hxa) (hmb ▸ hxb)

/-- One group changed beside its channel. -/
theorem setGroup (hs : DriveCore s) {g : Index} {grp grp' : Group} (hg : s.groups.get g = some grp)
    (hm : grp'.members = grp.members) (hq : GroupSound grp (s.channels.get g) → GroupSound grp' (s.channels.get g)) :
    DriveCore (s.setGroup g (some grp')) :=
  hs.change (ch := s.channels.get g) hg rfl (by simp) hm (hq (hs.sound g grp hg)) (hs.speed g)

/-- RUN falls, and the group changes with it. -/
theorem lowered (hs : DriveCore s) {g : Index} {grp : Group} {f : Group → Group} (hg : s.groups.get g = some grp)
    (hm : (f { grp with stallTimer := none }).members = grp.members)
    (hq : GroupSound grp (s.channels.get g) → GroupSound (f { grp with stallTimer := none })
      { s.channels.get g with run := false, speed := .creep }) : DriveCore ((lowerRun g s).modGroup g f) := by
  refine hs.change (grp' := f { grp with stallTimer := none }) hg ?_ ?_ hm (hq (hs.sound g grp hg)) fun _ => rfl
  · rw [modGroup_groups, lowerRun_eq]
    simp [hg]
  · rw [modGroup_channels, lowerRun_eq]

/-- RUN rises, and the group changes with it. -/
theorem raised (hs : DriveCore s) {g : Index} {grp grp' : Group} {ch : Channel} {t : State} (hg : s.groups.get g = some grp)
    (hgs : t.groups = s.groups.set g (some grp')) (hcs : t.channels = s.channels.set g ch) (hm : grp'.members = grp.members)
    (hq : GroupSound grp' ch) (hr : ch.run = true) : DriveCore t :=
  hs.change hg hgs hcs hm hq fun h => absurd hr (by simp [h])

end DriveCore

namespace DriveInv

variable {s : State}

theorem core (hs : DriveInv s) : DriveCore s := (driveInv_iff.mp hs).1

theorem engine (hs : DriveInv s) : EngineOk s := (driveInv_iff.mp hs).2

theorem of_same (hs : DriveInv s) {t : State} (hg : t.groups = s.groups) (hc : t.channels = s.channels)
    (he : t.audit.engine = s.audit.engine) : DriveInv t :=
  driveInv_iff.mpr ⟨hs.core.of_same hg hc, hs.engine.of_same he fun _ => by rw [hc]⟩

theorem setGroup (hs : DriveInv s) {g : Index} {grp grp' : Group} (hg : s.groups.get g = some grp)
    (hm : grp'.members = grp.members) (hq : GroupSound grp (s.channels.get g) → GroupSound grp' (s.channels.get g)) :
    DriveInv (s.setGroup g (some grp')) :=
  driveInv_iff.mpr ⟨hs.core.setGroup hg hm hq, hs.engine.of_same rfl fun _ => rfl⟩

/-- A group changed in what its soundness does not look at. -/
theorem setCore (hs : DriveInv s) {g : Index} {grp grp' : Group} (hg : s.groups.get g = some grp)
    (hc : grp'.driveCore = grp.driveCore) : DriveInv (s.setGroup g (some grp')) :=
  hs.setGroup hg (show grp'.driveCore.members = grp.driveCore.members by rw [hc]) fun h => h.of_core hc

theorem modCore (hs : DriveInv s) {g : Index} {f : Group → Group} (hc : ∀ grp, (f grp).driveCore = grp.driveCore) :
    DriveInv (s.modGroup g f) := TurnClosed.modGroupIf (fun _ hg => hs.setCore hg (hc _)) hs

end DriveInv

theorem followRun_driveInv {s : State} (hs : DriveCore s) : DriveInv (followRun s) :=
  driveInv_iff.mpr ⟨hs.of_same (by simp) (by simp), followRun_engineOk s⟩

theorem leaveWatch_noteless (grp : Group) (x : Index) (clean : Bool) : (grp.leaveWatch x clean).noteless = grp.noteless := by
  unfold Group.leaveWatch
  split
  · rfl
  · split
    · dsimp only
      split
      · split <;> rfl
      · rfl
    · rfl

theorem driveTurn : TurnClosed DriveInv := by
  constructor
  case mass => exact fun s g x c dm w _ hs => hs.modCore fun _ => rfl
  case watched =>
    exact fun s g x clean hs => hs.modCore fun grp => by unfold Group.driveCore; rw [leaveWatch_noteless]
  case moveTasks => exact fun s g grp m ts hg hc hs => hs.setGroup hg rfl fun h => h.retasked hc ts
  case filled => exact fun s g grp m n hg hi _ hp _ hs => hs.setGroup hg rfl fun h => h.filled hi hp n
  case nextSet => exact fun s g grp n hg hst hs => hs.setGroup hg rfl fun h => h.nextSet hst n
  case nextEnded =>
    refine fun s g grp n b hg hn hs => hs.setGroup hg rfl fun h => { h with slots := fun h1 h2 => ?_ }
    exact absurd (h.slots h1 h2).2 (by simp [hn])
  case arrival => exact fun s g grp b hg hs => hs.setCore hg rfl
  case started => exact fun s g grp b hg hs => hs.setCore hg rfl
  -- no other change of a turn reaches a group, a channel or the engine
  all_goals (intros; rename_i hs; exact hs.of_same (by simp) (by simp) (by simp))

end Sys2Proof.Machine

/-! SUPPORT. The drive groups through configuration, SET_GROUP and RESET GROUP (R5, R8, R22), and the closure of `DriveInv`. -/

namespace Sys2Proof.Machine

open Sys2Proof

variable {s : State}

/-! ## The group of a carousel -/

/-- A carousel whose group is known to be the only one that holds it. -/
theorem groupOf_of_member (hd : ∀ g h a b x, s.groups.get g = some a → s.groups.get h = some b → x ∈ a.members →
    x ∈ b.members → g = h) {g : Index} {grp : Group} (hg : s.groups.get g = some grp) {x : Index} (hx : x ∈ grp.members) :
    s.groupOf x = some g := by
  have hmem : g ∈ allIndices := by fin_cases g <;> decide
  cases h : s.groupOf x with
  | none =>
    have := List.find?_eq_none.mp h g hmem
    simp [hg, hx] at this
  | some k =>
    have hk := List.find?_some h
    cases hb : s.groups.get k with
    | none => simp [hb] at hk
    | some b =>
      rw [hd k g b grp x hb hg (by simpa [hb] using hk) hx]

/-- The group of a carousel exists and has it as a member. -/
theorem member_of_groupOf {x g : Index} (h : s.groupOf x = some g) : ∃ grp, s.groups.get g = some grp ∧ x ∈ grp.members := by
  have hk := List.find?_some h
  cases hb : s.groups.get g with
  | none => simp [hb] at hk
  | some b => exact ⟨b, rfl, by simpa [hb] using hk⟩

theorem serviceGroup_eq_some {x g : Index} :
    s.serviceGroup x = some g ↔ s.groupOf x = some g ∧ ∃ grp, s.groups.get g = some grp ∧ grp.state ≠ .offline := by
  unfold State.serviceGroup
  cases h : s.groupOf x with
  | none => simp
  | some k =>
    obtain ⟨b, hb, -⟩ := member_of_groupOf h
    simp only [hb, Option.some.injEq]
    by_cases ho : b.state = .offline
    · simp only [ho, if_true]
      constructor
      · intro e; cases e
      · rintro ⟨rfl, grp, hg, hn⟩
        rw [hb] at hg
        cases hg
        exact absurd ho hn
    · simp only [ho, if_false, Option.some.injEq]
      constructor
      · rintro rfl; exact ⟨rfl, b, hb, ho⟩
      · exact fun e => e.1

/-- A member of a group that is not OFFLINE is in service. -/
theorem serviceGroup_of_member (hd : ∀ g h a b x, s.groups.get g = some a → s.groups.get h = some b → x ∈ a.members →
    x ∈ b.members → g = h) {g : Index} {grp : Group} (hg : s.groups.get g = some grp) {x : Index} (hx : x ∈ grp.members)
    (ho : grp.state ≠ .offline) : s.serviceGroup x = some g :=
  serviceGroup_eq_some.mpr ⟨groupOf_of_member hd hg hx, grp, hg, ho⟩

/-! ## SET_GROUP -/

/-- Every group after members have been taken from the others (R8). -/
theorem takeMembers_get (g : Index) (ms : List Index) (s : State) (h : Index) :
    (takeMembers g ms s).groups.get h =
      if h = g then s.groups.get h else (s.groups.get h).bind fun grp => grp.without ms := by
  have step : ∀ (hs : List Index) (s : State), hs.Nodup → (hs.foldl (fun s h =>
      if h = g then s
      else match s.groups.get h with
        | some grp => s.setGroup h (grp.without ms)
        | none => s) s).groups.get h =
      if h = g ∨ h ∉ hs then s.groups.get h else (s.groups.get h).bind fun grp => grp.without ms := by
    intro hs
    induction hs with
    | nil => simp
    | cons k ks ih =>
      intro s hn
      obtain ⟨hk, hn⟩ := List.nodup_cons.mp hn
      rw [List.foldl_cons, ih _ hn]
      by_cases hkg : k = g
      · simp only [hkg, if_true]
        by_cases hh : h = g
        · simp [hh]
        · simp [hh]
      · simp only [hkg, if_false]
        by_cases hhk : h = k
        · subst hhk
          simp only [hk, hkg, not_false_eq_true, or_true, if_true, List.mem_cons_self, not_true_eq_false, or_self, if_false]
          cases hb : s.groups.get h with
          | none => simp [hb]
          | some b => simp
        · have same : (match s.groups.get k with
              | some grp => s.setGroup k (grp.without ms)
              | none => s).groups.get h = s.groups.get h := by
            split
            · rw [setGroup_groups, Quad.get_set_ne _ _ hhk]
            · rfl
          rw [same]
          simp [hhk]
  have hmem : h ∈ allIndices := by fin_cases h <;> decide
  refine (step allIndices s (by decide)).trans ?_
  simp [hmem]

/-- What is left of another group is its record with fewer members, or it is OFFLINE no more than it was. -/
theorem without_eq_some {grp b : Group} {ms : List Index} (h : grp.without ms = some b) :
    b.noteless = { grp.noteless with members := grp.members.filter fun x => !ms.contains x } := by
  unfold Group.without at h
  dsimp only at h
  split at h
  · rename_i he
    cases h
    rw [he]
    rfl
  · split at h
    · cases h
    · cases h; rfl

theorem without_members {grp b : Group} {ms : List Index} (h : grp.without ms = some b) :
    b.members = grp.members.filter fun x => !ms.contains x :=
  show b.noteless.members = _ by rw [without_eq_some h]

/-- A group that ceases to exist had a member that was taken, or none at all. -/
theorem without_eq_none {grp : Group} {ms : List Index} (h : grp.without ms = none) : ∃ x ∈ grp.members, x ∈ ms := by
  unfold Group.without at h
  dsimp only at h
  split at h
  · cases h
  · rename_i hne
    by_contra hc
    refine hne (List.filter_eq_self.mpr fun x hx => ?_)
    simpa using fun hm => hc ⟨x, hx, hm⟩

/-- The members that SET_GROUP takes are in no service beside that of the group defined (R7). -/
theorem groupStateChecks_spec {g : Index} {ms : List Index} (h : firstFailure (groupStateChecks s g ms) = none) :
    (∀ grp, s.groups.get g = some grp → grp.state = .offline)
    ∧ (∀ x ∈ ms, (s.carousels.get x).config ≠ none)
    ∧ (∀ x ∈ ms, s.serviceGroup x = none ∨ s.groupOf x = some g)
    ∧ ∀ x ∈ ms, some (s.geometryOf x) = ms.head?.map s.geometryOf := by
  have hall := firstFailure_none_iff.mp h
  simp only [groupStateChecks, memberChecks, List.mem_append, List.mem_singleton, List.mem_map] at hall
  refine ⟨fun grp hg => ?_, fun x hx => ?_, fun x hx => ?_, fun x hx => ?_⟩
  · have := hall _ (.inl (.inl (.inl rfl)))
    simpa [hg] using this
  · have := hall _ (.inl (.inl (.inr ⟨x, hx, rfl⟩)))
    intro hn
    simp [hn] at this
  · have := hall _ (.inl (.inr ⟨x, hx, rfl⟩))
    simpa using this
  · have := hall _ (.inr ⟨x, hx, rfl⟩)
    simpa using this

theorem fresh_members (ms : List Index) (ps : GroupParams) (c r : Nat) : (Group.fresh ms ps c r).members = ms := rfl

/-- The groups that SET_GROUP leaves. -/
theorem defineGroup_get (g : Index) (ms : List Index) (ps : GroupParams) (s : State) (h : Index) :
    (defineGroup g ms ps s).groups.get h = if h = g
      then some (Group.fresh ms ps (ms.head?.elim 0 fun x => (s.geometryOf x).carriers) (keptRevolution s g ms))
      else (s.groups.get h).bind fun grp => grp.without ms := by
  unfold defineGroup
  dsimp only
  rw [modChannel_groups, setGroup_groups, Quad.get_set]
  by_cases hh : h = g
  · simp only [hh, if_true]
    cases ms <;> rfl
  · simp only [hh, if_false]
    rw [takeMembers_get, if_neg hh]

theorem defineGroup_channels (g : Index) (ms : List Index) (ps : GroupParams) (s : State) :
    (defineGroup g ms ps s).channels = s.channels.set g { s.channels.get g with dir := .forward } := by
  unfold defineGroup
  dsimp only
  rw [modChannel_channels, setGroup_channels, takeMembers_channels]

/-- A group other than the one defined that loses a member is OFFLINE. -/
theorem offline_of_taken (hd : ∀ g h a b x, s.groups.get g = some a → s.groups.get h = some b → x ∈ a.members →
    x ∈ b.members → g = h) {g h : Index} {ms : List Index} {b : Group}
    (hc : ∀ x ∈ ms, s.serviceGroup x = none ∨ s.groupOf x = some g) (hb : s.groups.get h = some b) (hne : h ≠ g) {x : Index}
    (hx : x ∈ b.members) (hm : x ∈ ms) : b.state = .offline := by
  by_contra ho
  have hs := serviceGroup_of_member hd hb hx ho
  rcases hc x hm with e | e
  · rw [hs] at e; cases e
  · rw [groupOf_of_member hd hb hx] at e
    exact hne (Option.some.inj e)

theorem defineGroup_drive (hs : DriveInv s) {g : Index} {ms : List Index} (ps : GroupParams)
    (hc : firstFailure (groupStateChecks s g ms) = none) : DriveInv (defineGroup g ms ps s) := by
  obtain ⟨hoff, -, hserve, -⟩ := groupStateChecks_spec hc
  have hrun : (s.channels.get g).run = false := by
    cases hg : s.groups.get g with
    | none => exact (hs.absent g hg).1
    | some grp =>
      by_contra hr
      rcases (hs.sound g grp hg).run (by simpa using hr) with e | ⟨e, -⟩ <;> rw [hoff grp hg] at e <;> cases e
  have hch : ∀ h, ((defineGroup g ms ps s).channels.get h).run = (s.channels.get h).run
      ∧ ((defineGroup g ms ps s).channels.get h).speed = (s.channels.get h).speed
      ∧ (h ≠ g → (defineGroup g ms ps s).channels.get h = s.channels.get h) := by
    intro h
    rw [defineGroup_channels, Quad.get_set]
    split
    · rename_i he
      subst he
      exact ⟨rfl, rfl, fun hn => absurd rfl hn⟩
    · exact ⟨rfl, rfl, fun _ => rfl⟩
  have hback : ∀ h b, h ≠ g → (defineGroup g ms ps s).groups.get h = some b →
      ∃ a, s.groups.get h = some a ∧ a.without ms = some b := by
    intro h b hne hb
    rw [defineGroup_get, if_neg hne] at hb
    exact Option.bind_eq_some_iff.mp hb
  refine driveInv_iff.mpr ⟨⟨fun h hn => ?_, fun h hr => ?_, fun h b hb => ?_, fun h k a b x ha hb hxa hxb => ?_⟩,
    hs.engine.of_same ?_ fun h => (hch h).1⟩
  · have hne : h ≠ g := by
      rintro rfl
      rw [defineGroup_get, if_pos rfl] at hn
      cases hn
    rw [(hch h).2.2 hne]
    rw [defineGroup_get, if_neg hne] at hn
    cases ha : s.groups.get h with
    | none => exact hs.absent h ha
    | some a =>
      rw [ha, Option.bind_some] at hn
      obtain ⟨x, hx, hm⟩ := without_eq_none hn
      have ho := offline_of_taken hs.disjoint hserve ha hne hx hm
      have hsound := hs.sound h a ha
      refine ⟨?_, hsound.rest ho⟩
      by_contra hr
      rcases hsound.run (by simpa using hr) with e | ⟨e, -⟩ <;> rw [ho] at e <;> cases e
  · rw [(hch h).2.1]
    rw [(hch h).1] at hr
    exact hs.speed h hr
  · by_cases hne : h = g
    · subst hne
      rw [defineGroup_get, if_pos rfl] at hb
      cases hb
      rw [defineGroup_channels, Quad.get_set_same]
      exact groupSound_fresh _ _ _ _ hrun rfl
    · obtain ⟨a, ha, hw⟩ := hback h b hne hb
      rw [(hch h).2.2 hne]
      have h1 : GroupSound { a with members := a.members.filter fun x => !ms.contains x } (s.channels.get h) :=
        { hs.sound h a ha with }
      exact h1.of_noteless (without_eq_some hw)
  · have inOld : ∀ h b, h ≠ g → (defineGroup g ms ps s).groups.get h = some b → ∀ x ∈ b.members,
        x ∉ ms ∧ ∃ a, s.groups.get h = some a ∧ x ∈ a.members := by
      intro h b hne hb x hx
      obtain ⟨a, ha, hw⟩ := hback h b hne hb
      rw [without_members hw] at hx
      obtain ⟨h1, h2⟩ := List.mem_filter.mp hx
      exact ⟨by simpa using h2, a, ha, h1⟩
    have own : ∀ b, (defineGroup g ms ps s).groups.get g = some b → b.members = ms := by
      intro b hb
      rw [defineGroup_get, if_pos rfl] at hb
      cases hb
      rfl
    by_cases hh : h = g <;> by_cases hk : k = g
    · rw [hh, hk]
    · subst hh
      exact absurd (own a ha ▸ hxa) (inOld k b hk hb x hxb).1
    · subst hk
      exact absurd (own b hb ▸ hxb) (inOld h a hh ha x hxa).1
    · obtain ⟨-, a', ha', hx1⟩ := inOld h a hh ha x hxa
      obtain ⟨-, b', hb', hx2⟩ := inOld k b hk hb x hxb
      exact hs.disjoint h k a' b' x ha' hb' hx1 hx2
  · rw [defineGroup_audit]

/-! ## SET_CAROUSEL and RESET GROUP -/

theorem configureCarousel_drive (hs : DriveInv s) (x : Index) (cfg : CarouselConfig) : DriveInv (configureCarousel x cfg s) := by
  unfold configureCarousel
  have h1 := fun c => DriveInv.of_same (t := s.setCarousel x c) hs rfl rfl rfl
  dsimp only
  split
  · split
    · exact (h1 _).modCore fun _ => rfl
    · exact h1 _
  · exact h1 _

theorem discardScan_engine (p : Index) (s : State) : (discardScan p s).audit.engine = s.audit.engine := by
  unfold discardScan
  split
  · dsimp only
    split
    · rw [modTask_audit]; rfl
    · rfl
    · rfl
  · rfl

theorem resetGroup_groups (g : Index) (grp : Group) (s : State) :
    (resetGroup g grp s).groups = s.groups.set g (some (Group.fresh grp.members grp.params (s.geometry g).carriers 0)) := by
  unfold resetGroup
  dsimp only
  rw [setGroup_groups, foldl_field State.groups _ (fun s x => resetMember_groups s x), modChannel_groups, dropRun_spec]
  simp

theorem resetGroup_channels (g : Index) (grp : Group) (s : State) :
    (resetGroup g grp s).channels = s.channels.set g { s.channels.get g with run := false, speed := .creep, dir := .forward } := by
  unfold resetGroup
  dsimp only
  rw [setGroup_channels, foldl_field State.channels _ (fun s x => resetMember_channels s x), modChannel_channels, dropRun_spec]
  simp

theorem resetGroup_engine (g : Index) (grp : Group) (s : State) :
    (resetGroup g grp s).audit.engine = (dropRun g s).audit.engine := by
  unfold resetGroup
  dsimp only
  rw [setGroup_audit]
  have member : ∀ (s : State) (x : Index), (resetMember s x).audit.engine = s.audit.engine := fun s x =>
    discardScan_engine x _
  rw [foldl_field (fun s => s.audit.engine) resetMember member, modChannel_audit]

theorem resetGroup_drive (hs : DriveInv s) {g : Index} {grp : Group} (hg : s.groups.get g = some grp) :
    DriveInv (resetGroup g grp s) := by
  refine driveInv_iff.mpr ⟨hs.core.change hg (resetGroup_groups g grp s) (resetGroup_channels g grp s) rfl
    (groupSound_fresh _ _ _ _ rfl rfl) fun _ => rfl, EngineOk.of_same (s := dropRun g s) (followRun_engineOk _)
      (resetGroup_engine g grp s) fun h => ?_⟩
  rw [resetGroup_channels, dropRun_spec]
  simp only [followRun_channels, setChannel_channels, Quad.get_set]
  split <;> rfl

/-! ## The closures -/

theorem driveCore_tasks (hs : DriveCore s) {t : State} (hg : t.groups = s.groups) (hc : t.channels = s.channels) :
    DriveCore t := hs.of_same hg hc

theorem holdGroup_drive (hs : DriveCore s) (g : Index) : DriveCore (holdGroup s g) := by
  unfold holdGroup
  split
  · exact hs
  · rename_i grp hg
    dsimp only
    split
    · rename_i hr
      have he : grp.holdEntry (s.channels.get g).run = { grp with markCount := 0 } := by
        unfold Group.holdEntry
        simp [hr.1, hr.2]
      rw [he]
      refine hs.change (grp' := { grp with markCount := 0, stallTimer := none })
        (ch := { s.channels.get g with run := false, speed := .creep }) hg ?_ ?_ rfl
        ((hs.sound g grp hg).holdEntry_referencing hr.1 _) fun _ => rfl
      · rw [lowerRun_eq]; simp
      · rw [lowerRun_eq]; rfl
    · rename_i hr
      refine hs.setGroup hg ?_ fun h => h.holdEntry hr
      unfold Group.holdEntry
      split
      · rfl
      · split
        · split <;> rfl
        · rfl
      · split <;> rfl
      · rfl

theorem atMark_members (grp : Group) (k : Nat) (home : Bool) (v : MarkVerdict) :
    (grp.atMark k home v).members = grp.members := by
  unfold Group.atMark
  cases v with
  | recrossing => rfl
  | fault => rfl
  | step d => cases home <;> rfl

theorem driveWork : WorkClosed DriveInv DriveCore := by
  constructor
  case toTurnClosed => exact driveTurn
  case eased => exact fun s hs => hs.core
  case followed => exact fun s hs => followRun_driveInv hs
  case holding => exact fun s _ hs => hs.core.of_same rfl rfl
  case easedEvent => exact fun s e hs => hs.of_same rfl rfl
  case easedScan => exact fun s p hs => hs.of_same rfl rfl
  case easedTasks => exact fun s ts hs => hs.of_same rfl rfl
  case easedHold => exact fun s g hs => holdGroup_drive hs g
  case easedIdle => exact fun s g grp hg hi hs => hs.setGroup hg rfl fun h => h.paused_idle hi
  case easedMoving => exact fun s g grp hg hm hs => hs.setGroup hg rfl fun h => h.pausing hm
  case easedReferencing => exact fun s g grp hg hr hs => hs.lowered hg rfl fun h => h.paused_referencing hr _
  case easedFault => exact fun s g grp c hg _ _ hc hs => hs.lowered hg rfl fun h => h.faultedBy c hc _
  case easedHome => exact fun s g grp hg hr hs => hs.lowered hg rfl fun h => h.homeFound hr _
  case easedStop =>
    refine fun s g grp m hg hm _ _ hs => hs.lowered hg ?_ fun h => h.stopped hm _
    unfold Group.stopped
    split <;> rfl
  case easedArrival => exact fun s g grp m hg hm _ _ hs => hs.lowered hg rfl fun h => h.arrived hm _
  case idlePaused => exact fun s g grp hg hi hs => hs.setGroup hg rfl fun h => h.paused_idle hi
  case movingPaused => exact fun s g grp hg hm hs => hs.setGroup hg rfl fun h => h.pausing hm
  case noted =>
    exact fun s g grp grp' hg hn hs => hs.setCore hg (by unfold Group.driveCore; rw [hn.core])
  case dflt =>
    intro s g b hs
    have hch : ∀ h, ((s.modChannel g fun ch => { ch with dflt := b }).channels.get h).run = (s.channels.get h).run
        ∧ ((s.modChannel g fun ch => { ch with dflt := b }).channels.get h).dir = (s.channels.get h).dir
        ∧ ((s.modChannel g fun ch => { ch with dflt := b }).channels.get h).speed = (s.channels.get h).speed := by
      intro h
      rw [modChannel_channels, Quad.get_set]
      split
      · rename_i he; subst he; exact ⟨rfl, rfl, rfl⟩
      · exact ⟨rfl, rfl, rfl⟩
    refine driveInv_iff.mpr ⟨⟨fun h hn => ?_, fun h hr => ?_, fun h grp hg => ?_, hs.disjoint⟩,
      hs.engine.of_same rfl fun h => (hch h).1⟩
    · rw [(hch h).1, (hch h).2.1]; exact hs.absent h hn
    · rw [(hch h).2.2]; exact hs.speed h ((hch h).1 ▸ hr)
    · exact (hs.sound h grp hg).channel (hch h).1 (hch h).2.1
  case visited => exact fun s hs => driveInv_iff.mpr ⟨hs.core.of_same (by simp) (by simp), beginVisit_engineOk s⟩
  case slotBegun => exact fun s g hs => hs.of_same rfl rfl rfl
  case referencingMarked => exact fun s g grp hg _ hr hs => hs.setGroup hg rfl fun h => h.referencingMarked hr
  case travelMarked =>
    exact fun s g grp m k home v hg hm hc hp hs => hs.setGroup hg (atMark_members ..) fun h => h.atMark hm hc hp k home v
  case settled =>
    refine fun s g grp hg hm hst hs => hs.setGroup hg ?_ fun h => h.settled hm hst
    unfold Group.settled
    split <;> rfl
  case referenced => exact fun s g grp hg hr hst hs => hs.setGroup hg rfl fun h => h.referenced hr hst
  case continued =>
    refine fun s g grp hg hs => hs.setGroup hg ?_ fun h => h.continued
    unfold Group.continued
    split
    · split <;> rfl
    · rfl
    · rfl
  case groupCleared => exact fun s g grp hg hf hs => hs.setGroup hg rfl fun h => h.cleared hf
  case commissioned =>
    refine fun s g grp hg hc hs => hs.setGroup hg rfl fun h => h.commissioned ?_ _
    simpa using firstFailure_none_iff.mp hc (grp.state == .offline, .state, 0xFF) (by simp [commissionChecks])
  case unloaded => exact fun s g grp hg _ hs => hs.setCore hg rfl
  case configured => exact fun s x r _ _ _ hs => configureCarousel_drive hs x _
  case defined => exact fun s g r _ _ hc hs => defineGroup_drive hs _ hc
  case groupReset => exact fun s g grp hg _ hs => resetGroup_drive hs hg
  case settingsReplaced =>
    exact fun s r _ hs => keeps_replaceSettings driveTurn (hs.of_same rfl rfl rfl) (fun _ _ hs => hs.of_same rfl rfl rfl)
      fun _ _ hs => hs.of_same rfl rfl rfl
  case diversionBegun => exact fun s e rest _ _ _ _ hs => hs.of_same rfl rfl rfl
  -- no other change of a command reaches a group, a channel or the engine
  all_goals (intros; rename_i hs; exact hs.of_same (by simp) (by simp) (by simp))

theorem driveInv_powerOn (chs : Quad Channel) (hch : ∀ g, (chs.get g).run = false ∧ (chs.get g).dir = .forward
    ∧ (chs.get g).speed = .creep) {t : State} (hg : t.groups = Quad.fill none) (hc : t.channels = chs)
    (he : t.audit.engine.measuring = none) : DriveInv t where
  absent g _ := by rw [hc]; exact ⟨(hch g).1, (hch g).2.1⟩
  speed g _ := by rw [hc]; exact (hch g).2.2
  sound g grp h := by simp [hg] at h
  disjoint g h a b x ha := by simp [hg] at ha
  measuring g h := by rw [he] at h; cases h
  idle _ g := by rw [hc]; exact (hch g).1

theorem driveLine : LineClosed DriveInv DriveInv :=
  .of_linkFree (fun _ _ hs => hs.of_same rfl rfl rfl)
    (fun s _ => driveInv_powerOn (Quad.fill Channel.powerOn) (fun g => by simp [Channel.powerOn]) rfl rfl rfl)
    (fun s _ => driveInv_powerOn (s.channels.map Channel.afterReset) (fun g => by simp [Channel.afterReset, Channel.powerOn]) rfl rfl rfl)
    fun _ _ hs => hs.of_same rfl rfl rfl

theorem raiseRun_groups (g : Index) (d : Direction) (v : SpeedClass) (s : State) :
    (raiseRun g d v s).groups = s.groups.set g ((s.groups.get g).map fun grp =>
      { grp with stallTimer := some grp.params.stallTime, lastSample := none, invalidCount := 0 }) := by
  rw [raiseRun_spec]

theorem raiseRun_channels (g : Index) (d : Direction) (v : SpeedClass) (s : State) :
    (raiseRun g d v s).channels = s.channels.set g { s.channels.get g with run := true, dir := d, speed := v } := by
  rw [raiseRun_spec]
  simp

/-- The engine follows a RUN line that rises, whatever else of the groups changes. -/
theorem raiseRun_engineOk (g : Index) (d : Direction) (v : SpeedClass) (s : State) : EngineOk (raiseRun g d v s) :=
  followRun_engineOk _

/-- The record of a group as its referencing run begins (R12). -/
def Group.searching (grp : Group) : Group :=
  { grp with
    markCount := 0
    stallTimer := some grp.params.stallTime
    lastSample := none
    invalidCount := 0 }

/-- A waiting move as it leaves with the answer of the balance unit (R63). -/
def Move.leaving (m : Move) (a : MoveAnswer) : Move :=
  { m with dir := a.dir, distance := a.distance, pathMax := a.pathMax, cls := a.cls, phase := .travel }

/-- The record of a group as its move begins with the answer of the balance unit (R63). -/
def Group.departed (grp : Group) (m : Move) (a : MoveAnswer) : Group :=
  { grp.startMoveRecord a.dir with
    state := .moving
    arrivalOpen := false
    startedHere := Quad.fill false
    stallTimer := some grp.params.stallTime
    lastSample := none
    invalidCount := 0
    current := some (m.leaving a) }

theorem driveStart : StartClosed DriveInv where
  referencing s g grp hg hr hs := by
    simp only [runStarts, Bool.and_eq_true, beq_iff_eq, Option.isNone_iff_eq_none] at hr
    obtain ⟨⟨⟨⟨⟨hst, -⟩, hk⟩, -⟩, -⟩, -⟩ := hr
    have h1 := (hs.sound g grp hg).runRaised hst hk .forward .creep grp.params.stallTime
    refine driveInv_iff.mpr ⟨hs.core.raised (grp' := grp.searching) hg ?_ (raiseRun_channels ..) rfl (h1.of_core rfl) rfl, raiseRun_engineOk ..⟩
    rw [raiseRun_groups]
    simp [Group.searching]
  move s g grp m k a hg hc hk hp hm _ hs := by
    simp only [moveStarts, Bool.and_eq_true, beq_iff_eq] at hm
    have hst : grp.state = .idle := hm.1.1.1.1
    have h1 := (hs.sound g grp hg).departs hst hc (m' := m.leaving a) rfl a.dir a.cls grp.params.stallTime
    refine driveInv_iff.mpr ⟨hs.core.raised (grp' := grp.departed m a) hg ?_ ?_ rfl (h1.of_core rfl)
      (ch := { s.channels.get g with run := true, dir := a.dir, speed := a.cls }) rfl,
      (raiseRun_engineOk g a.dir a.cls s).of_same (by simp [startMove]) (by simp [startMove])⟩
    · unfold startMove
      dsimp only
      rw [modGroup_groups, raiseRun_groups]
      simp [hg, hc, Group.startMoveRecord, Group.departed, Move.leaving]
    · unfold startMove
      dsimp only
      rw [modGroup_channels, raiseRun_channels]

end Sys2Proof.Machine

namespace Sys2Proof.Certificates

open Sys2Proof Sys2Proof.Machine

/-- Settles O54, by the closure of `DriveInv` under what commands change. -/
theorem stepKeepsDriveSound : Obligations.StepKeepsDriveSound :=
  fun _ _ => keeps_step driveLine driveWork driveWork driveStart

end Sys2Proof.Certificates

/-! SUPPORT. The balance arithmetic (R1, R43, R44): lever weights half a loop on, profiles added, profiles from scratch. -/

namespace Sys2Proof.Machine

open Sys2Proof

/-! ## Lever weights (R1) -/

/-- The loop is two runs and two bends. -/
theorem Geometry.Sound.carriers_eq {geo : Geometry} (h : geo.Sound) :
    geo.carriers = 2 * runLength geo.carriers geo.bend + 2 * geo.bend ∧
      geo.carriers / 2 = runLength geo.carriers geo.bend + geo.bend := by
  obtain ⟨⟨h1, h2, h3⟩, ⟨h4, h5, -⟩, -⟩ := h
  unfold runLength
  omega

/-- The lever weight on each of the two runs and the two bends. -/
theorem leverWeight_front {c b p : Nat} (h : p < runLength c b) : leverWeight c b p = 4 := by
  simp [leverWeight, h]

theorem leverWeight_top {c b j : Nat} (h : j < b) : leverWeight c b (runLength c b + j) = bendWeight b j := by
  simp [leverWeight, h]

theorem leverWeight_rear {c b j : Nat} (h : j < runLength c b) : leverWeight c b (runLength c b + b + j) = -4 := by
  unfold leverWeight
  simp only
  rw [if_neg (by omega), if_neg (by omega), if_pos (by omega)]

theorem leverWeight_bottom {c b j : Nat} : leverWeight c b (2 * runLength c b + b + j) = -bendWeight b j := by
  unfold leverWeight
  simp only
  rw [if_neg (by omega), if_neg (by omega), if_neg (by omega)]
  congr 2
  omega

/-- The lever weight changes sign half a loop on. -/
theorem leverWeight_half {geo : Geometry} (h : geo.Sound) {p : Nat} (hp : p < geo.carriers) :
    leverWeight geo.carriers geo.bend ((p + geo.carriers / 2) % geo.carriers) = -leverWeight geo.carriers geo.bend p := by
  obtain ⟨hc, hhalf⟩ := h.carriers_eq
  rw [hhalf]
  generalize hr : runLength geo.carriers geo.bend = r at hc hhalf
  have onward : p + (r + geo.bend) < geo.carriers → (p + (r + geo.bend)) % geo.carriers = p + (r + geo.bend) :=
    Nat.mod_eq_of_lt
  have wrapped : r + geo.bend ≤ p → (p + (r + geo.bend)) % geo.carriers = p - (r + geo.bend) := fun hge => by
    rw [Nat.mod_eq_sub_mod (by omega), Nat.mod_eq_of_lt (by omega)]
    omega
  by_cases h1 : p < r
  · rw [onward (by omega), leverWeight_front (p := p) (hr ▸ h1)]
    have := leverWeight_rear (c := geo.carriers) (b := geo.bend) (j := p) (hr ▸ h1)
    rwa [hr, Nat.add_comm (r + geo.bend) p] at this
  by_cases h2 : p < r + geo.bend
  · obtain ⟨j, rfl⟩ := Nat.exists_eq_add_of_le (Nat.le_of_not_lt h1)
    rw [onward (by omega)]
    have top := leverWeight_top (c := geo.carriers) (b := geo.bend) (j := j) (by omega)
    have bottom := leverWeight_bottom (c := geo.carriers) (b := geo.bend) (j := j)
    rw [hr] at top bottom
    rw [top, show r + j + (r + geo.bend) = 2 * r + geo.bend + j by omega, bottom]
  obtain ⟨j, rfl⟩ := Nat.exists_eq_add_of_le (Nat.le_of_not_lt h2)
  rw [wrapped (by omega), Nat.add_sub_cancel_left]
  by_cases h3 : j < r
  · have rear := leverWeight_rear (c := geo.carriers) (b := geo.bend) (hr.symm ▸ h3)
    rw [hr] at rear
    rw [rear, leverWeight_front (hr ▸ h3)]
    rfl
  · obtain ⟨i, rfl⟩ := Nat.exists_eq_add_of_le (Nat.le_of_not_lt h3)
    have top := leverWeight_top (c := geo.carriers) (b := geo.bend) (j := i) (by omega)
    have bottom := leverWeight_bottom (c := geo.carriers) (b := geo.bend) (j := i)
    rw [hr] at top bottom
    rw [top, show r + geo.bend + (r + i) = 2 * r + geo.bend + i by omega, bottom, neg_neg]

/-! ## Profiles -/

@[simp] theorem massProfile_length (geo : Geometry) (c : Nat) (dm : Int) : (massProfile geo c dm).length = geo.carriers := by
  simp [massProfile]

theorem massProfile_getD (geo : Geometry) (c : Nat) (dm : Int) {k : Nat} (hk : k < geo.carriers) :
    (massProfile geo c dm).getD k 0 = leverWeight geo.carriers geo.bend ((c + k) % geo.carriers) * dm := by
  simp [massProfile, List.getD_eq_getElem?_getD, hk]

theorem addProfile_length {a b : List Int} (h : a.length = b.length) : (addProfile a b).length = a.length := by
  simp [addProfile, h]

theorem addProfile_getD {a b : List Int} (h : a.length = b.length) (k : Nat) :
    (addProfile a b).getD k 0 = a.getD k 0 + b.getD k 0 := by
  by_cases hk : k < a.length
  · simp [addProfile, List.getD_eq_getElem?_getD, List.getElem?_zipWith, hk, h ▸ hk]
  · have hk' : ¬ k < b.length := h ▸ hk
    simp [addProfile, List.getD_eq_getElem?_getD, List.getElem?_zipWith, hk, hk']

@[simp] theorem zeroProfile_length (c : Nat) : (zeroProfile c).length = c := by simp [zeroProfile]

theorem zeroProfile_getD (c k : Nat) : (zeroProfile c).getD k 0 = 0 := by
  simp only [zeroProfile, List.getD_eq_getElem?_getD, List.getElem?_replicate]
  split <;> rfl

theorem HalfLoop.zero (c : Nat) : HalfLoop c (zeroProfile c) :=
  ⟨zeroProfile_length c, fun k _ => by rw [zeroProfile_getD, zeroProfile_getD]; rfl⟩

theorem HalfLoop.mass {geo : Geometry} (h : geo.Sound) (c : Nat) (dm : Int) :
    HalfLoop geo.carriers (massProfile geo c dm) := by
  refine ⟨massProfile_length .., fun k hk => ?_⟩
  have hpos : 0 < geo.carriers := by omega
  rw [massProfile_getD _ _ _ hk, massProfile_getD _ _ _ (Nat.mod_lt _ hpos), ← neg_mul,
    ← leverWeight_half h (Nat.mod_lt (c + k) hpos)]
  congr 2
  rw [Nat.add_mod_mod, Nat.mod_add_mod, Nat.add_assoc]

theorem HalfLoop.add {c : Nat} {a b : List Int} (ha : HalfLoop c a) (hb : HalfLoop c b) : HalfLoop c (addProfile a b) := by
  have hl : a.length = b.length := ha.1.trans hb.1.symm
  refine ⟨(addProfile_length hl).trans ha.1, fun k hk => ?_⟩
  rw [addProfile_getD hl, addProfile_getD hl, ha.2 k hk, hb.2 k hk, neg_add]

/-! ## Profiles from scratch (R45) -/

theorem HalfLoop.map {geo : Geometry} (h : geo.Sound) (carriers : List (List Slot)) {e : List Int}
    (he : HalfLoop geo.carriers e) : HalfLoop geo.carriers (mapProfile geo carriers e) := by
  unfold mapProfile
  refine List.foldlRecOn _ _ he fun e he x _ => List.foldlRecOn _ _ he fun e he sl _ => ?_
  split
  · exact he.add (.mass h _ _)
  · exact he

theorem HalfLoop.fresh {s : State} {g : Index} (h : (s.geometry g).Sound) :
    HalfLoop (s.geometry g).carriers (s.freshProfile g) := by
  unfold State.freshProfile
  exact List.foldlRecOn _ _ (.zero _) fun e he x _ => he.map h _

end Sys2Proof.Machine

/-! SUPPORT. The closure of `BalanceInv` (R4, R6, R7, R41, R43). -/

namespace Sys2Proof.Machine

open Sys2Proof

variable {s t : State}

/-! ## Geometries -/

theorem geometry_eq {g : Index} {grp : Group} (h : s.groups.get g = some grp) :
    s.geometry g = grp.members.head?.elim { carriers := 0, bend := 0, port := 0, pulses := 0 } s.geometryOf := by
  unfold State.geometry State.membersOf
  rw [h]
  dsimp only
  cases grp.members <;> rfl

theorem geometry_of_members {g : Index} {a b : Group} (ha : s.groups.get g = some a) (hb : t.groups.get g = some b)
    (hm : b.members = a.members) (hc : ∀ x, (t.carousels.get x).config = (s.carousels.get x).config) :
    t.geometry g = s.geometry g := by
  rw [geometry_eq ha, geometry_eq hb, hm]
  have : t.geometryOf = s.geometryOf := funext fun x => by unfold State.geometryOf; rw [hc]
  rw [this]

/-- The members of a group in a sound state have one sound geometry. -/
theorem BalanceInv.geometry_sound (hs : BalanceInv s) {g : Index} {grp : Group} (hg : s.groups.get g = some grp) :
    (s.geometry g).Sound := by
  obtain ⟨hne, hm⟩ := hs.members g grp hg
  obtain ⟨x, hx⟩ := List.exists_mem_of_ne_nil _ hne
  obtain ⟨hc, he⟩ := hm x hx
  obtain ⟨cfg, hcfg⟩ := Option.ne_none_iff_exists'.mp hc
  rw [← he]
  unfold State.geometryOf
  rw [hcfg]
  exact hs.configured x cfg hcfg

/-- The geometry that SET_CAROUSEL's field checks accept is sound. -/
theorem geometry_of_checks {r : CarouselRequest} (h : firstFailure (carouselFieldChecks r) = none) :
    r.config.geometry.Sound := by
  have hall := firstFailure_none_iff.mp h
  simp only [carouselFieldChecks, List.cons_append, List.forall_mem_cons, decide_eq_true_eq] at hall
  obtain ⟨-, ⟨h1, h2, h3⟩, hb, hp, -⟩ := hall
  exact ⟨⟨h1, h2, h3⟩, hb, hp⟩

/-! ## What keeps the profiles balanced -/

/-- Profiles of C values that change sign half a loop on, zero in OFFLINE (R41, R43). -/
structure Group.Balanced (grp : Group) (c : Nat) : Prop where
  effective : HalfLoop c grp.effective
  planned : HalfLoop c grp.planned
  offline : grp.state = .offline → grp.effective = zeroProfile c ∧ grp.planned = zeroProfile c

theorem BalanceInv.balanced (hs : BalanceInv s) {g : Index} {grp : Group} (hg : s.groups.get g = some grp) :
    grp.Balanced (s.geometry g).carriers :=
  ⟨hs.effective g grp hg, hs.planned g grp hg, hs.offline g grp hg⟩

/-- A group with the profiles of another that is OFFLINE only where that one is. -/
structure Group.BalancedAs (b a : Group) : Prop where
  members : b.members = a.members
  effective : b.effective = a.effective
  planned : b.planned = a.planned
  offline : b.state = .offline → a.state = .offline

theorem Group.Balanced.as {a b : Group} {c : Nat} (h : a.Balanced c) (hb : b.BalancedAs a) : b.Balanced c :=
  ⟨hb.effective ▸ h.effective, hb.planned ▸ h.planned, fun e => by rw [hb.effective, hb.planned]; exact h.offline (hb.offline e)⟩

/-- Same configurations and members, and balanced profiles in every group. -/
theorem BalanceInv.of_groups (hs : BalanceInv s) (hc : ∀ x, (t.carousels.get x).config = (s.carousels.get x).config)
    (hg : ∀ g b, t.groups.get g = some b → ∃ a, s.groups.get g = some a ∧ b.members = a.members
      ∧ b.Balanced (s.geometry g).carriers) : BalanceInv t := by
  have geo : ∀ g b, t.groups.get g = some b → t.geometry g = s.geometry g := fun g b hb => by
    obtain ⟨a, ha, hm, -⟩ := hg g b hb
    exact geometry_of_members ha hb hm hc
  refine ⟨fun g h a b x ha hb hxa hxb => ?_, fun x cfg h => hs.configured x cfg (hc x ▸ h), fun g b hb => ?_,
    fun g b hb => ?_, fun g b hb => ?_, fun g b hb => ?_⟩
  · obtain ⟨a', ha', hma, -⟩ := hg g a ha
    obtain ⟨b', hb', hmb, -⟩ := hg h b hb
    exact hs.disjoint g h a' b' x ha' hb' (hma ▸ hxa) (hmb ▸ hxb)
  · obtain ⟨a, ha, hm, -⟩ := hg g b hb
    obtain ⟨hne, hmem⟩ := hs.members g a ha
    refine ⟨hm ▸ hne, fun x hx => ?_⟩
    obtain ⟨hcfg, he⟩ := hmem x (hm ▸ hx)
    refine ⟨hc x ▸ hcfg, ?_⟩
    rw [geo g b hb, ← he]
    unfold State.geometryOf
    rw [hc]
  all_goals
    obtain ⟨a, ha, hm, hbal⟩ := hg g b hb
    rw [geo g b hb]
  · exact hbal.effective
  · exact hbal.planned
  · exact hbal.offline

theorem BalanceInv.of_same (hs : BalanceInv s) (hc : ∀ x, (t.carousels.get x).config = (s.carousels.get x).config)
    (hg : t.groups = s.groups) : BalanceInv t :=
  hs.of_groups hc fun g b hb => ⟨b, hg ▸ hb, rfl, hs.balanced (hg ▸ hb)⟩

/-- One group changes, with balanced profiles. -/
theorem BalanceInv.change (hs : BalanceInv s) (hc : t.carousels = s.carousels) {g : Index} {grp grp' : Group}
    (hg : s.groups.get g = some grp) (ht : t.groups = s.groups.set g (some grp')) (hm : grp'.members = grp.members)
    (hb : grp'.Balanced (s.geometry g).carriers) : BalanceInv t := by
  refine hs.of_groups (fun x => by rw [hc]) fun h b hb' => ?_
  rw [ht, Quad.get_set] at hb'
  split at hb'
  · rename_i he
    subst he
    cases hb'
    exact ⟨grp, hg, hm, hb⟩
  · exact ⟨b, hb', rfl, hs.balanced hb'⟩

theorem BalanceInv.changeAs (hs : BalanceInv s) (hc : t.carousels = s.carousels) {g : Index} {grp grp' : Group}
    (hg : s.groups.get g = some grp) (ht : t.groups = s.groups.set g (some grp')) (h : grp'.BalancedAs grp) : BalanceInv t :=
  hs.change hc hg ht h.members ((hs.balanced hg).as h)

theorem BalanceInv.setGroup (hs : BalanceInv s) {g : Index} {grp grp' : Group} (hg : s.groups.get g = some grp)
    (h : grp'.BalancedAs grp) : BalanceInv (s.setGroup g (some grp')) := hs.changeAs rfl hg rfl h

theorem BalanceInv.modGroup (hs : BalanceInv s) {g : Index} {f : Group → Group} (h : ∀ grp, (f grp).BalancedAs grp) :
    BalanceInv (s.modGroup g f) := by
  cases hg : s.groups.get g with
  | none => rwa [modGroup_none s hg]
  | some grp => rw [modGroup_some s hg]; exact hs.setGroup hg (h grp)

/-- A group whose RUN falls. -/
theorem BalanceInv.lowered (hs : BalanceInv s) {g : Index} {grp : Group} {f : Group → Group} (hg : s.groups.get g = some grp)
    (h : ∀ a : Group, a.state = grp.state → a.pausePending = grp.pausePending → (f a).BalancedAs a) :
    BalanceInv ((lowerRun g s).modGroup g f) := by
  refine hs.changeAs (grp' := f { grp with stallTimer := none }) (by simp) hg ?_ ?_
  · rw [modGroup_groups, lowerRun_eq]
    simp [hg]
  · have h1 := h { grp with stallTimer := none } rfl rfl
    exact ⟨h1.members, h1.effective, h1.planned, h1.offline⟩

theorem Group.BalancedAs.of_noteless {a b : Group} (h : b.noteless = a.noteless) : b.BalancedAs a where
  members := show b.noteless.members = a.noteless.members by rw [h]
  effective := show b.noteless.effective = a.noteless.effective by rw [h]
  planned := show b.noteless.planned = a.noteless.planned by rw [h]
  offline e := by
    have : b.noteless.state = a.noteless.state := by rw [h]
    exact this ▸ e

/-- A mass handed to a group in service. -/
theorem Group.Balanced.addMass {grp : Group} {geo : Geometry} (h : grp.Balanced geo.carriers) (hgeo : geo.Sound) (c : Nat)
    (dm : Int) (w : Named) (ho : grp.state ≠ .offline) : (grp.addMass geo c dm w).Balanced geo.carriers where
  effective := by
    unfold Group.addMass
    dsimp only
    split
    · exact h.effective.add (.mass hgeo c dm)
    · exact h.effective
  planned := by
    unfold Group.addMass
    dsimp only
    split
    · exact h.planned.add (.mass hgeo c dm)
    · exact h.planned
  offline e := absurd e ho

/-! ## The changes of a turn -/

theorem balanceTurn : TurnClosed BalanceInv := by
  constructor
  case slot =>
    refine fun s x c l sl hs => hs.of_same (fun y => ?_) (by simp)
    unfold State.setSlot State.setCarousel
    dsimp only
    rw [Quad.get_set]
    split
    · rename_i he; subst he; rfl
    · rfl
  case mass =>
    intro s g x c dm w hx hs
    obtain ⟨-, grp, hg, ho⟩ := serviceGroup_eq_some.mp hx
    rw [modGroup_some s hg]
    exact hs.change rfl hg rfl rfl ((hs.balanced hg).addMass (hs.geometry_sound hg) c dm w ho)
  case watched =>
    exact fun s g x clean hs => hs.modGroup fun grp => .of_noteless (leaveWatch_noteless ..)
  case moveTasks => exact fun s g grp m ts hg hc hs => hs.setGroup hg ⟨rfl, rfl, rfl, id⟩
  case filled => exact fun s g grp m n hg hi _ hp _ hs => hs.setGroup hg ⟨rfl, rfl, rfl, id⟩
  case nextSet => exact fun s g grp n hg hst hs => hs.setGroup hg ⟨rfl, rfl, rfl, id⟩
  case nextEnded => exact fun s g grp n b hg hn hs => hs.setGroup hg ⟨rfl, rfl, rfl, id⟩
  case arrival => exact fun s g grp b hg hs => hs.setGroup hg ⟨rfl, rfl, rfl, id⟩
  case started => exact fun s g grp b hg hs => hs.setGroup hg ⟨rfl, rfl, rfl, id⟩
  -- no other change of a turn reaches a group or a configuration
  all_goals (intros; rename_i hs; exact hs.of_same (by simp) (by simp))

/-! ## SET_CAROUSEL, SET_GROUP and RESET GROUP -/

theorem configureCarousel_carousels_eq (x : Index) (cfg : CarouselConfig) (s : State) :
    (configureCarousel x cfg s).carousels = s.carousels.set x
      { config := some cfg, map := (s.carousels.get x).map.reconfigured (s.carousels.get x).config cfg } := by
  unfold configureCarousel
  dsimp only
  split
  · split
    · rw [modGroup_carousels]; rfl
    · rfl
  · rfl

/-- The groups that SET_CAROUSEL leaves: the one of the carousel with zero profiles where C changes (R5). -/
theorem configureCarousel_get {x : Index} {cfg : CarouselConfig} {h : Index} {b : Group}
    (hb : (configureCarousel x cfg s).groups.get h = some b) : ∃ a, s.groups.get h = some a ∧
      ((b = a ∧ (s.groupOf x = some h → ∀ o, (s.carousels.get x).config = some o → o.carriers = cfg.carriers))
        ∨ (b = a.resized cfg.carriers ∧ s.groupOf x = some h)) := by
  unfold configureCarousel at hb
  dsimp only at hb
  split at hb
  · rename_i g o hg ho
    split at hb
    · rw [modGroup_groups, setCarousel_groups, Quad.get_set] at hb
      split at hb
      · rename_i he
        subst he
        obtain ⟨a, ha, rfl⟩ := Option.map_eq_some_iff.mp hb
        exact ⟨a, ha, .inr ⟨rfl, hg⟩⟩
      · rename_i he
        exact ⟨b, hb, .inl ⟨rfl, fun e => absurd (Option.some.inj (e.symm.trans hg)) he⟩⟩
    · rename_i hc
      refine ⟨b, hb, .inl ⟨rfl, fun _ o' ho' => ?_⟩⟩
      cases ho.symm.trans ho'
      exact Decidable.not_not.mp hc
  · rename_i hno
    exact ⟨b, hb, .inl ⟨rfl, fun e o ho => absurd ho (hno h o e)⟩⟩

theorem configureCarousel_geometryOf (x : Index) (cfg : CarouselConfig) (s : State) (y : Index) :
    (configureCarousel x cfg s).geometryOf y = if y = x then cfg.geometry else s.geometryOf y := by
  unfold State.geometryOf
  rw [configureCarousel_carousels_eq, Quad.get_set]
  by_cases hy : y = x <;> simp only [hy, if_true, if_false]

/-- The carousel that SET_CAROUSEL configures is not in service, and its companions have the geometry given (R4). -/
theorem carouselGroupChecks_spec {x : Index} {r : CarouselRequest} (h : firstFailure (carouselGroupChecks s x r) = none) :
    s.serviceGroup x = none ∧ ∀ y ∈ s.companions x, s.geometryOf y = r.config.geometry := by
  have hall := firstFailure_none_iff.mp h
  simp only [carouselGroupChecks, List.forall_mem_cons, List.all_eq_true, beq_iff_eq, Option.isNone_iff_eq_none] at hall
  obtain ⟨h0, h1, h2, h3, h6, -⟩ := hall
  refine ⟨h0, fun y hy => ?_⟩
  have e1 := h1 y hy
  have e2 := h2 y hy
  have e3 := h3 y hy
  have e6 := h6 y hy
  cases hgy : s.geometryOf y
  cases hgx : r.config.geometry
  rw [hgy, hgx] at e1 e2 e3 e6
  simp only at e1 e2 e3 e6
  rw [e1, e2, e3, e6]

theorem geometry_of_all {g : Index} {grp : Group} {geo : Geometry} (hg : s.groups.get g = some grp) (hne : grp.members ≠ [])
    (hall : ∀ y ∈ grp.members, s.geometryOf y = geo) : s.geometry g = geo := by
  rw [geometry_eq hg]
  cases hm : grp.members with
  | nil => exact absurd hm hne
  | cons y ys => exact hall y (hm ▸ List.mem_cons_self)

theorem Group.resized_members (a : Group) (c : Nat) : (a.resized c).members = a.members := rfl

theorem configureCarousel_balance (hs : BalanceInv s) {x : Index} {r : CarouselRequest}
    (hf : firstFailure (carouselFieldChecks r) = none) (hc : firstFailure (carouselGroupChecks s x r) = none) :
    BalanceInv (configureCarousel x r.config s) := by
  obtain ⟨hserve, hcomp⟩ := carouselGroupChecks_spec hc
  have mem : ∀ h b, (configureCarousel x r.config s).groups.get h = some b →
      ∃ a, s.groups.get h = some a ∧ b.members = a.members ∧ b.state = a.state := fun h b hb => by
    obtain ⟨a, ha, ⟨rfl, -⟩ | ⟨rfl, -⟩⟩ := configureCarousel_get hb
    · exact ⟨_, ha, rfl, rfl⟩
    · exact ⟨_, ha, rfl, rfl⟩
  -- the geometry of every group, the one of `x` and the others
  have own : ∀ h a, s.groups.get h = some a → x ∈ a.members →
      a.state = .offline ∧ ∀ y ∈ a.members, (configureCarousel x r.config s).geometryOf y = r.config.geometry := by
    intro h a ha hx
    have hof := groupOf_of_member hs.disjoint ha hx
    refine ⟨?_, fun y hy => ?_⟩
    · by_contra ho
      rw [serviceGroup_of_member hs.disjoint ha hx ho] at hserve
      cases hserve
    · rw [configureCarousel_geometryOf]
      split
      · rfl
      · rename_i hne
        refine hcomp y ?_
        unfold State.companions State.membersOf
        rw [hof]
        simp [ha, hy, hne]
  have others : ∀ h a, s.groups.get h = some a → x ∉ a.members →
      ∀ y ∈ a.members, (configureCarousel x r.config s).geometryOf y = s.geometryOf y := by
    intro h a _ hx y hy
    rw [configureCarousel_geometryOf, if_neg (by rintro rfl; exact hx hy)]
  have geo : ∀ h a b, s.groups.get h = some a → (configureCarousel x r.config s).groups.get h = some b →
      b.members = a.members → (x ∈ a.members → (configureCarousel x r.config s).geometry h = r.config.geometry)
        ∧ (x ∉ a.members → (configureCarousel x r.config s).geometry h = s.geometry h) := by
    intro h a b ha hb hm
    obtain ⟨hne, hmem⟩ := hs.members h a ha
    refine ⟨fun hx => geometry_of_all hb (hm ▸ hne) fun y hy => (own h a ha hx).2 y (hm ▸ hy), fun hx =>
      geometry_of_all hb (hm ▸ hne) fun y hy => ?_⟩
    rw [others h a ha hx y (hm ▸ hy)]
    exact (hmem y (hm ▸ hy)).2
  have bal : ∀ h b, (configureCarousel x r.config s).groups.get h = some b →
      b.Balanced ((configureCarousel x r.config s).geometry h).carriers := by
    intro h b hb
    obtain ⟨a, ha, hcases⟩ := configureCarousel_get hb
    by_cases hx : x ∈ a.members
    · have hoff := (own h a ha hx).1
      have hm : b.members = a.members := by
        rcases hcases with ⟨rfl, -⟩ | ⟨rfl, -⟩ <;> rfl
      rw [(geo h a b ha hb hm).1 hx]
      have zero : b.effective = zeroProfile r.config.geometry.carriers ∧ b.planned = zeroProfile r.config.geometry.carriers := by
        rcases hcases with ⟨rfl, hsame⟩ | ⟨rfl, -⟩
        · obtain ⟨hcfg, hgeo⟩ := (hs.members h b ha).2 x hx
          obtain ⟨o, ho⟩ := Option.ne_none_iff_exists'.mp hcfg
          have hC : (s.geometry h).carriers = r.config.carriers := by
            rw [← hsame (groupOf_of_member hs.disjoint ha hx) o ho, ← hgeo]
            unfold State.geometryOf
            rw [ho]
            rfl
          have := hs.offline h b ha hoff
          rw [hC] at this
          exact this
        · exact ⟨rfl, rfl⟩
      exact ⟨zero.1 ▸ .zero _, zero.2 ▸ .zero _, fun _ => zero⟩
    · rcases hcases with ⟨rfl, -⟩ | ⟨rfl, hof⟩
      · rw [(geo h b b ha hb rfl).2 hx]
        exact hs.balanced ha
      · obtain ⟨a', ha', hxa⟩ := member_of_groupOf hof
        cases ha.symm.trans ha'
        exact absurd hxa hx
  refine ⟨fun g h a b y ha hb hya hyb => ?_, fun y cfg hcfg => ?_, fun h b hb => ?_, fun h b hb => (bal h b hb).effective,
    fun h b hb => (bal h b hb).planned, fun h b hb => (bal h b hb).offline⟩
  · obtain ⟨a', ha', hma, -⟩ := mem g a ha
    obtain ⟨b', hb', hmb, -⟩ := mem h b hb
    exact hs.disjoint g h a' b' y ha' hb' (hma ▸ hya) (hmb ▸ hyb)
  · rw [configureCarousel_carousels_eq, Quad.get_set] at hcfg
    split at hcfg
    · cases hcfg
      exact geometry_of_checks hf
    · exact hs.configured y cfg hcfg
  · obtain ⟨a, ha, hm, -⟩ := mem h b hb
    obtain ⟨hne, hmem⟩ := hs.members h a ha
    refine ⟨hm ▸ hne, fun y hy => ⟨?_, ?_⟩⟩
    · rw [configureCarousel_carousels_eq, Quad.get_set]
      split
      · simp
      · exact (hmem y (hm ▸ hy)).1
    · by_cases hx : x ∈ a.members
      · rw [(geo h a b ha hb hm).1 hx, (own h a ha hx).2 y (hm ▸ hy)]
      · rw [(geo h a b ha hb hm).2 hx, others h a ha hx y (hm ▸ hy)]
        exact (hmem y (hm ▸ hy)).2

theorem defineGroup_geometryOf (g : Index) (ms : List Index) (ps : GroupParams) (s : State) :
    (defineGroup g ms ps s).geometryOf = s.geometryOf := by
  unfold State.geometryOf
  rw [defineGroup_carousels]

/-- What is left of another group has members of it, and zero profiles where it lost some in OFFLINE. -/
theorem without_balanced {a b : Group} {ms : List Index} {c : Nat} (h : a.without ms = some b) (hb : a.Balanced c) :
    b.Balanced c := by
  unfold Group.without at h
  dsimp only at h
  split at h
  · cases h; exact hb
  · split at h
    · cases h
    · cases h; exact ⟨hb.effective, hb.planned, hb.offline⟩

theorem without_ne_nil {a b : Group} {ms : List Index} (h : a.without ms = some b) (hne : a.members ≠ []) :
    b.members ≠ [] := by
  unfold Group.without at h
  dsimp only at h
  split at h
  · cases h; exact hne
  · split at h
    · cases h
    · rename_i hn
      cases h
      simpa using hn

theorem defineGroup_balance (hs : BalanceInv s) {g : Index} {ms : List Index} (ps : GroupParams) (hne : ms ≠ [])
    (hc : firstFailure (groupStateChecks s g ms) = none) : BalanceInv (defineGroup g ms ps s) := by
  obtain ⟨-, hcfg, -, hgeo⟩ := groupStateChecks_spec hc
  have same : ∀ y ∈ ms, s.geometryOf y = ms.head?.elim { carriers := 0, bend := 0, port := 0, pulses := 0 } s.geometryOf := by
    intro y hy
    have := hgeo y hy
    cases ms with
    | nil => cases hy
    | cons z zs => exact Option.some.inj this
  have back : ∀ h b, (defineGroup g ms ps s).groups.get h = some b → (h = g ∧ b.members = ms ∧
      b = Group.fresh ms ps (ms.head?.elim 0 fun x => (s.geometryOf x).carriers) (keptRevolution s g ms)) ∨
      (h ≠ g ∧ ∃ a, s.groups.get h = some a ∧ a.without ms = some b) := by
    intro h b hb
    rw [defineGroup_get] at hb
    split at hb
    · cases hb; exact .inl ⟨‹_›, rfl, rfl⟩
    · exact .inr ⟨‹_›, Option.bind_eq_some_iff.mp hb⟩
  have geoOwn : ∀ b, (defineGroup g ms ps s).groups.get g = some b → b.members = ms → ∀ y ∈ ms,
      (defineGroup g ms ps s).geometry g = s.geometryOf y := by
    intro b hb hm y hy
    rw [same y hy, geometry_eq hb, hm, defineGroup_geometryOf]
  have geoRest : ∀ h a b, s.groups.get h = some a → a.without ms = some b →
      (defineGroup g ms ps s).groups.get h = some b → (defineGroup g ms ps s).geometry h = s.geometry h := by
    intro h a b ha hw hb
    obtain ⟨hne, hmem⟩ := hs.members h a ha
    refine geometry_of_all hb (without_ne_nil hw hne) fun y hy => ?_
    rw [without_members hw] at hy
    rw [defineGroup_geometryOf]
    exact (hmem y (List.mem_of_mem_filter hy)).2
  have bal : ∀ h b, (defineGroup g ms ps s).groups.get h = some b →
      b.Balanced ((defineGroup g ms ps s).geometry h).carriers := by
    intro h b hb
    rcases back h b hb with ⟨rfl, hm, he⟩ | ⟨-, a, ha, hw⟩
    · have hC : ((defineGroup h ms ps s).geometry h).carriers = ms.head?.elim 0 fun x => (s.geometryOf x).carriers := by
        rw [geometry_eq hb, hm, defineGroup_geometryOf]
        cases ms <;> rfl
      rw [he, hC]
      exact ⟨.zero _, .zero _, fun _ => ⟨rfl, rfl⟩⟩
    · rw [geoRest h a b ha hw hb]
      exact without_balanced hw (hs.balanced ha)
  have inOld : ∀ h b, h ≠ g → (defineGroup g ms ps s).groups.get h = some b → ∀ y ∈ b.members,
      y ∉ ms ∧ ∃ a, s.groups.get h = some a ∧ y ∈ a.members := by
    intro h b hh hb y hy
    rcases back h b hb with ⟨e, -⟩ | ⟨-, a, ha, hw⟩
    · exact absurd e hh
    · rw [without_members hw] at hy
      obtain ⟨h1, h2⟩ := List.mem_filter.mp hy
      exact ⟨by simpa using h2, a, ha, h1⟩
  have own : ∀ b, (defineGroup g ms ps s).groups.get g = some b → b.members = ms := by
    intro b hb
    rcases back g b hb with ⟨-, hm, -⟩ | ⟨hn, -⟩
    · exact hm
    · exact absurd rfl hn
  refine ⟨fun h k a b y ha hb hya hyb => ?_, fun y cfg h => hs.configured y cfg (by rwa [defineGroup_carousels] at h),
    fun h b hb => ?_, fun h b hb => (bal h b hb).effective, fun h b hb => (bal h b hb).planned,
    fun h b hb => (bal h b hb).offline⟩
  · by_cases hh : h = g <;> by_cases hk : k = g
    · rw [hh, hk]
    · subst hh
      exact absurd (own a ha ▸ hya) (inOld k b hk hb y hyb).1
    · subst hk
      exact absurd (own b hb ▸ hyb) (inOld h a hh ha y hya).1
    · obtain ⟨-, a', ha', hx1⟩ := inOld h a hh ha y hya
      obtain ⟨-, b', hb', hx2⟩ := inOld k b hk hb y hyb
      exact hs.disjoint h k a' b' y ha' hb' hx1 hx2
  · rw [defineGroup_carousels, defineGroup_geometryOf]
    rcases back h b hb with ⟨rfl, hm, -⟩ | ⟨-, a, ha, hw⟩
    · exact ⟨hm ▸ hne, fun y hy => ⟨hcfg y (hm ▸ hy), (geoOwn b hb hm y (hm ▸ hy)).symm⟩⟩
    · obtain ⟨hne', hmem⟩ := hs.members h a ha
      refine ⟨without_ne_nil hw hne', fun y hy => ?_⟩
      rw [geoRest h a b ha hw hb]
      rw [without_members hw] at hy
      exact hmem y (List.mem_of_mem_filter hy)

theorem resetGroup_config (g : Index) (grp : Group) (s : State) (x : Index) :
    ((resetGroup g grp s).carousels.get x).config = (s.carousels.get x).config := by
  have member : ∀ (s : State) (y : Index), ((resetMember s y).carousels.get x).config = (s.carousels.get x).config := by
    intro s y
    unfold resetMember
    simp only [discardScan_carousels, setTask_carousels, State.setMap, State.setCarousel, Quad.get_set]
    split
    · rename_i he; subst he; rfl
    · rfl
  unfold resetGroup
  dsimp only
  rw [setGroup_carousels, foldl_field (fun s => (s.carousels.get x).config) resetMember member, modChannel_carousels,
    dropRun_carousels]

theorem resetGroup_balance (hs : BalanceInv s) {g : Index} {grp : Group} (hg : s.groups.get g = some grp) :
    BalanceInv (resetGroup g grp s) := by
  refine hs.of_groups (resetGroup_config g grp s) fun h b hb => ?_
  rw [resetGroup_groups, Quad.get_set] at hb
  split at hb
  · rename_i he
    subst he
    cases hb
    exact ⟨grp, hg, rfl, .zero _, .zero _, fun _ => ⟨rfl, rfl⟩⟩
  · exact ⟨b, hb, rfl, hs.balanced hb⟩

/-! ## The closures -/

theorem holdGroup_balance (hs : BalanceInv s) (g : Index) : BalanceInv (holdGroup s g) := by
  unfold holdGroup
  split
  · exact hs
  · rename_i grp hg
    have held : ∀ run, (grp.holdEntry run).BalancedAs grp := by
      intro run
      unfold Group.holdEntry
      split
      · exact ⟨rfl, rfl, rfl, id⟩
      · split
        · split <;> exact ⟨rfl, rfl, rfl, id⟩
        · exact ⟨rfl, rfl, rfl, id⟩
      · split <;> exact ⟨rfl, rfl, rfl, id⟩
      · exact ⟨rfl, rfl, rfl, id⟩
    dsimp only
    split
    · have h1 := held (s.channels.get g).run
      refine hs.changeAs (grp' := { grp.holdEntry (s.channels.get g).run with stallTimer := none }) (by simp) hg ?_
        ⟨h1.members, h1.effective, h1.planned, h1.offline⟩
      rw [lowerRun_eq]
      simp
    · exact hs.setGroup hg (held _)

theorem atMark_balancedAs (grp : Group) (k : Nat) (home : Bool) (v : MarkVerdict) : (grp.atMark k home v).BalancedAs grp := by
  unfold Group.atMark
  cases v with
  | recrossing => exact ⟨rfl, rfl, rfl, id⟩
  | fault => exact ⟨rfl, rfl, rfl, id⟩
  | step d => cases home <;> exact ⟨rfl, rfl, rfl, id⟩

theorem balanceWork : WorkClosed BalanceInv BalanceInv := by
  constructor
  case toTurnClosed => exact balanceTurn
  case easedHold => exact fun s g hs => holdGroup_balance hs g
  case easedIdle => exact fun s g grp hg hi hs => hs.setGroup hg ⟨rfl, rfl, rfl, by simp [Group.paused]⟩
  case easedMoving => exact fun s g grp hg hm hs => hs.setGroup hg ⟨rfl, rfl, rfl, id⟩
  case easedReferencing =>
    exact fun s g grp hg hr hs => hs.lowered hg fun a _ _ => ⟨rfl, rfl, rfl, by simp [Group.paused]⟩
  case easedFault => exact fun s g grp c hg _ _ hc hs => hs.lowered hg fun a _ _ => ⟨rfl, rfl, rfl, by simp [Group.faultedBy]⟩
  case easedHome => exact fun s g grp hg hr hs => hs.lowered hg fun a _ _ => ⟨rfl, rfl, rfl, id⟩
  case easedStop =>
    refine fun s g grp m hg hm _ _ hs => hs.lowered hg fun a _ _ => ?_
    unfold Group.stopped
    split
    · exact ⟨rfl, rfl, rfl, by simp [Group.paused]⟩
    · exact ⟨rfl, rfl, rfl, id⟩
  case easedArrival => exact fun s g grp m hg hm _ _ hs => hs.lowered hg fun a _ _ => ⟨rfl, rfl, rfl, id⟩
  case idlePaused => exact fun s g grp hg hi hs => hs.setGroup hg ⟨rfl, rfl, rfl, by simp [Group.paused]⟩
  case movingPaused => exact fun s g grp hg hm hs => hs.setGroup hg ⟨rfl, rfl, rfl, id⟩
  case noted => exact fun s g grp grp' hg hn hs => hs.setGroup hg (.of_noteless hn.core)
  case referencingMarked => exact fun s g grp hg _ hr hs => hs.setGroup hg ⟨rfl, rfl, rfl, id⟩
  case travelMarked => exact fun s g grp m k home v hg hm hc hp hs => hs.setGroup hg (atMark_balancedAs ..)
  case settled =>
    refine fun s g grp hg hm hst hs => hs.setGroup hg ?_
    unfold Group.settled
    split
    · exact ⟨rfl, rfl, rfl, by simp [Group.paused]⟩
    · exact ⟨rfl, rfl, rfl, by simp⟩
  case referenced => exact fun s g grp hg hr hst hs => hs.setGroup hg ⟨rfl, rfl, rfl, by simp⟩
  case continued =>
    refine fun s g grp hg hs => hs.setGroup hg ?_
    unfold Group.continued
    split
    · split <;> exact ⟨rfl, rfl, rfl, by simp⟩
    · exact ⟨rfl, rfl, rfl, id⟩
    · exact ⟨rfl, rfl, rfl, id⟩
  case groupCleared => exact fun s g grp hg hf hs => hs.setGroup hg ⟨rfl, rfl, rfl, by simp [Group.cleared]⟩
  case commissioned =>
    refine fun s g grp hg hc hs => hs.change rfl hg rfl rfl ⟨.fresh (hs.geometry_sound hg), .fresh (hs.geometry_sound hg), ?_⟩
    simp [Group.commissioned]
  case unloaded =>
    exact fun s g grp hg _ hs => hs.change rfl hg rfl rfl ⟨.zero _, .zero _, fun _ => ⟨rfl, rfl⟩⟩
  case configured => exact fun s x r hf _ hc hs => configureCarousel_balance hs hf hc
  case defined =>
    refine fun s g r hf _ hc hs => defineGroup_balance hs _ ?_ hc
    have := firstFailure_none_iff.mp hf (!r.memberList.isEmpty, .range, 1) (by simp [groupFieldChecks])
    simpa using this
  case groupReset => exact fun s g grp hg _ hs => resetGroup_balance hs hg
  case mapSet =>
    refine fun s x m hs => hs.of_same (fun y => ?_) rfl
    simp only [State.setMap, State.setCarousel, Quad.get_set]
    split
    · rename_i he; subst he; rfl
    · rfl
  case settingsReplaced =>
    exact fun s r _ hs => keeps_replaceSettings balanceTurn (hs.of_same (fun _ => rfl) rfl)
      (fun _ _ hs => hs.of_same (fun _ => rfl) rfl) fun _ _ hs => hs.of_same (fun _ => rfl) rfl
  case diversionBegun => exact fun s e rest _ _ _ _ hs => hs.of_same (fun _ => rfl) rfl
  -- no other change of a command reaches a group's record or a configuration
  all_goals (intros; rename_i hs; exact hs.of_same (by simp) (by simp))

theorem balanceInv_powerOn (hc : t.carousels = Quad.fill Carousel.powerOn) (hg : t.groups = Quad.fill none) :
    BalanceInv t := by
  refine ⟨?_, ?_, ?_, ?_, ?_, ?_⟩ <;> simp [hc, hg, Carousel.powerOn]

theorem balanceLine : LineClosed BalanceInv BalanceInv :=
  .of_linkFree (fun _ _ hs => hs.of_same (fun _ => rfl) rfl) (fun s _ => balanceInv_powerOn rfl rfl)
    (fun s _ => balanceInv_powerOn rfl rfl) fun _ _ hs => hs.of_same (fun _ => rfl) rfl

theorem balanceStart : StartClosed BalanceInv where
  referencing s g grp hg _ hs := by
    refine hs.changeAs (grp' := grp.searching) (by simp) hg ?_ ⟨rfl, rfl, rfl, id⟩
    rw [raiseRun_groups]
    simp [Group.searching]
  move s g grp m k a hg hc _ _ _ _ hs := by
    refine hs.changeAs (grp' := grp.departed m a) ?_ hg ?_ ⟨rfl, rfl, rfl, by simp [Group.departed]⟩
    · simp [startMove]
    · unfold startMove
      dsimp only
      rw [modGroup_groups, raiseRun_groups]
      simp [hg, hc, Group.startMoveRecord, Group.departed, Move.leaving]

end Sys2Proof.Machine

namespace Sys2Proof.Certificates

open Sys2Proof Sys2Proof.Machine

/-- Settles O57, by the closure of `BalanceInv` under what commands change. -/
theorem stepKeepsProfilesBalanced : Obligations.StepKeepsProfilesBalanced :=
  fun _ _ => keeps_step balanceLine balanceWork balanceWork balanceStart

end Sys2Proof.Certificates

/-! SUPPORT. The start slots (R12, R62, R63), and the direction and speed class of a move (R54, R55). -/

namespace Sys2Proof.Machine

open Sys2Proof

/-! ## The engine that follows RUN -/

theorem followRun_with_startSlot (s : State) (g : Index) :
    followRun { s with startSlot := g } = { followRun s with startSlot := g } := by
  obtain ⟨e, he, -⟩ := followRun_spec s
  have h := followRun_engine (s := s) (t := { s with startSlot := g }) rfl rfl
  obtain ⟨e', he', -⟩ := followRun_spec { s with startSlot := g }
  rw [he, he'] at h
  rw [he, he', show e' = e from h]
  rfl

/-! ## The beginning of a start slot -/

/-- What the beginning of a start slot does: nothing, a referencing run, or the move that waits. -/
theorem beginSlot_cases (g : Index) (s : State) : beginSlot g s = s
    ∨ (∃ grp, s.groups.get g = some grp ∧ runStarts s g grp = true ∧
        beginSlot g s = raiseRun g .forward .creep (s.setGroup g (some { grp with markCount := 0 })))
    ∨ ∃ grp m k a, s.groups.get g = some grp ∧ grp.current = some m ∧ grp.k = some k ∧ m.phase = .waiting ∧
        moveStarts s g grp = true ∧ moveAnswer (s.geometry g) grp k m.target = some a ∧ beginSlot g s = startMove g a s := by
  unfold beginSlot
  split
  · exact .inl rfl
  · rename_i grp hg
    split
    · exact .inr (.inl ⟨grp, hg, ‹_›, rfl⟩)
    · split
      · rename_i m k hc hk
        split
        · rename_i hcond
          split
          · exact .inr (.inr ⟨grp, m, k, _, hg, hc, hk, hcond.1, hcond.2, ‹_›, rfl⟩)
          · exact .inl rfl
        · exact .inl rfl
      · exact .inl rfl

theorem membersHome_iff {s : State} {g : Index} {grp : Group} (hg : s.groups.get g = some grp) :
    membersHome s g = true ↔ ∀ x ∈ grp.members, (s.ports.get x).home = true := by
  simp [membersHome, State.membersOf, hg]

theorem membersSound_iff {s : State} {g : Index} {grp : Group} (hg : s.groups.get g = some grp) :
    membersSound s g = true ↔ ∀ x ∈ grp.members, (s.ports.get x).shuttle ≠ .faulted := by
  simp [membersSound, State.membersOf, hg]

theorem portsQuiet_iff {s : State} {g : Index} {grp : Group} (hg : s.groups.get g = some grp) :
    portsQuiet s g = true ↔ ∀ x ∈ grp.members, (s.ports.get x).shuttle ≠ .inserting ∧ (s.ports.get x).shuttle ≠ .extracting
      ∧ (s.ports.get x).scan = none := by
  simp [portsQuiet, State.membersOf, hg, and_assoc]

/-- The conditions of a referencing run's start. -/
theorem runStarts_iff {s : State} {g : Index} {grp : Group} (hg : s.groups.get g = some grp) :
    runStarts s g grp = true ↔ grp.state = .referencing ∧ (s.channels.get g).run = false ∧ grp.k = none
      ∧ s.link.mode = .normal ∧ ∀ x ∈ grp.members, (s.ports.get x).home = true ∧ (s.ports.get x).shuttle ≠ .faulted := by
  simp only [runStarts, Bool.and_eq_true, beq_iff_eq, Bool.not_eq_true', Option.isNone_iff_eq_none, membersHome_iff hg,
    membersSound_iff hg, forall₂_and, and_assoc]

/-- The conditions of a move's start. -/
theorem moveStarts_iff {s : State} {g : Index} {grp : Group} (hg : s.groups.get g = some grp) :
    moveStarts s g grp = true ↔ grp.state = .idle ∧ s.link.mode = .normal
      ∧ (∀ x ∈ grp.members, (s.ports.get x).home = true ∧ (s.ports.get x).shuttle ≠ .faulted)
      ∧ ∀ x ∈ grp.members, (s.ports.get x).shuttle ≠ .inserting ∧ (s.ports.get x).shuttle ≠ .extracting
        ∧ (s.ports.get x).scan = none := by
  simp only [moveStarts, Bool.and_eq_true, beq_iff_eq, membersHome_iff hg, membersSound_iff hg, portsQuiet_iff hg, forall₂_and,
    and_assoc]

theorem exec_startSlot (g : Index) (s : State) : exec (.startSlot g) s = .next (beginSlot g { s with startSlot := g }) := rfl

/-- A referencing run begins. -/
theorem beginSlot_run {s : State} {g : Index} {grp : Group} (hg : s.groups.get g = some grp) (hr : runStarts s g grp = true) :
    beginSlot g s = { followRun (s.setChannel g { s.channels.get g with run := true, dir := .forward, speed := .creep }) with
      groups := s.groups.set g (some grp.searching) } := by
  have e : beginSlot g s = raiseRun g .forward .creep (s.setGroup g (some { grp with markCount := 0 })) := by
    unfold beginSlot
    simp only [hg, hr, if_true]
  rw [e, raiseRun_spec]
  have groups := followRun_groups (s.setChannel g { s.channels.get g with run := true, dir := .forward, speed := .creep })
    (s.groups.set g (some { grp with markCount := 0 }))
  have ch : (s.setGroup g (some { grp with markCount := 0 })).setChannel g
      { s.channels.get g with run := true, dir := .forward, speed := .creep } =
      { s.setChannel g { s.channels.get g with run := true, dir := .forward, speed := .creep } with
        groups := s.groups.set g (some { grp with markCount := 0 }) } := rfl
  simp only [setGroup_channels, setGroup_groups, ch, groups, Quad.get_set_same, Quad.set_set, Option.map_some]
  rfl

/-- The waiting move begins. -/
theorem beginSlot_move {s : State} {g : Index} {grp : Group} {m : Move} {k : Nat} {a : MoveAnswer}
    (hg : s.groups.get g = some grp) (hc : grp.current = some m) (hk : grp.k = some k) (hp : m.phase = .waiting)
    (hm : moveStarts s g grp = true) (ha : moveAnswer (s.geometry g) grp k m.target = some a) :
    beginSlot g s = { followRun (s.setChannel g { s.channels.get g with run := true, dir := a.dir, speed := a.cls }) with
      groups := s.groups.set g (some (grp.departed m a)) } := by
  have hr : ¬runStarts s g grp = true := by
    rw [runStarts_iff hg]
    rintro ⟨h1, -⟩
    rw [((moveStarts_iff hg).mp hm).1] at h1
    cases h1
  have e : beginSlot g s = startMove g a s := by
    unfold beginSlot
    simp only [hg, hr, if_false, hc, hk, hp, hm, ha, and_self, if_true]
    simp
  rw [e]
  unfold startMove
  dsimp only
  rw [raiseRun_spec, modGroup_eq]
  simp [hg, hc, Group.startMoveRecord, Group.departed, Move.leaving]

/-! ## RUN that stays low -/

/-- RUN of group `g` is low. -/
def RunLow (g : Index) (s : State) : Prop := (s.channels.get g).run = false

theorem RunLow.of_same {g : Index} {s t : State} (hs : RunLow g s) (hc : t.channels = s.channels) : RunLow g t := by
  unfold RunLow
  rwa [hc]

/-- One channel changes, and its RUN does not rise. -/
theorem RunLow.of_set {g h : Index} {s t : State} {ch : Channel} (hs : RunLow g s) (hc : t.channels = s.channels.set h ch)
    (hr : (s.channels.get h).run = false → ch.run = false) : RunLow g t := by
  unfold RunLow
  rw [hc, Quad.get_set]
  split
  · rename_i e; exact hr (e ▸ hs)
  · exact hs

theorem RunLow.lowered {g h : Index} {s : State} (hs : RunLow g s) (f : Group → Group) :
    RunLow g ((lowerRun h s).modGroup h f) :=
  hs.of_set (h := h) (ch := { s.channels.get h with run := false, speed := .creep })
    (by rw [modGroup_channels, lowerRun_eq]) fun _ => rfl

theorem holdGroup_runLow {g h : Index} {s : State} (hs : RunLow g s) : RunLow g (holdGroup s h) := by
  unfold holdGroup
  split
  · exact hs
  · dsimp only
    split
    · exact hs.of_set (h := h) (ch := { s.channels.get h with run := false, speed := .creep })
        (by rw [lowerRun_eq]; rfl) fun _ => rfl
    · exact hs

theorem runLowTurn (g : Index) : TurnClosed (RunLow g) := by
  constructor
  all_goals (intros; rename_i hs; exact hs.of_same (by simp))

theorem runLowWork (g : Index) : WorkClosed (RunLow g) (RunLow g) := by
  constructor
  case toTurnClosed => exact runLowTurn g
  case easedHold => exact fun s h hs => holdGroup_runLow hs
  case easedReferencing => exact fun s h grp _ _ hs => hs.lowered _
  case easedFault => exact fun s h grp c _ _ _ _ hs => hs.lowered _
  case easedHome => exact fun s h grp _ _ hs => hs.lowered _
  case easedStop => exact fun s h grp m _ _ _ _ hs => hs.lowered _
  case easedArrival => exact fun s h grp m _ _ _ _ hs => hs.lowered _
  case dflt => exact fun s h b hs => hs.of_set (modChannel_channels ..) id
  case defined => exact fun s h r _ _ _ hs => hs.of_set (defineGroup_channels ..) id
  case groupReset => exact fun s h grp _ _ hs => hs.of_set (resetGroup_channels ..) fun _ => rfl
  case settingsReplaced =>
    exact fun s r _ hs => keeps_replaceSettings (runLowTurn g) (hs.of_same rfl) (fun _ _ hs => hs.of_same rfl) fun _ _ hs =>
      hs.of_same rfl
  case diversionBegun => exact fun s e rest _ _ _ _ hs => hs.of_same rfl
  -- no other change of a command reaches a channel
  all_goals (intros; rename_i hs; exact hs.of_same (by simp))

theorem runLowLine (g : Index) : LineClosed (RunLow g) (RunLow g) :=
  .of_linkFree (fun _ _ hs => hs.of_same rfl) (fun s _ => by simp [RunLow, State.reset, Channel.powerOn])
    (fun s _ => by simp [RunLow, deviceReset, Channel.afterReset, Channel.powerOn]) fun _ _ hs => hs.of_same rfl

/-- The channels of the other groups at the beginning of a start slot. -/
theorem beginSlot_runLow {g h : Index} {s : State} (hne : g ≠ h) (hs : RunLow g s) : RunLow g (beginSlot h s) := by
  unfold RunLow
  rcases beginSlot_cases h s with e | ⟨grp, -, -, e⟩ | ⟨grp, m, k, a, -, -, -, -, -, -, e⟩
  · rwa [e]
  · rw [e, raiseRun_channels, setGroup_channels, Quad.get_set_ne _ _ hne]
    exact hs
  · rw [e]
    unfold startMove
    dsimp only
    rw [modGroup_channels, raiseRun_channels, Quad.get_set_ne _ _ hne]
    exact hs

/-! ## Direction, path maximum and speed class (R54, R55) -/

/-- The largest value over a list bounds each of them and is one of them. -/
theorem foldl_max_spec {α : Type} (f : α → Nat) (js : List α) (m : Nat) : m ≤ js.foldl (fun m j => max m (f j)) m
    ∧ (∀ j ∈ js, f j ≤ js.foldl (fun m j => max m (f j)) m)
    ∧ (js.foldl (fun m j => max m (f j)) m = m ∨ ∃ j ∈ js, f j = js.foldl (fun m j => max m (f j)) m) := by
  induction js generalizing m with
  | nil => exact ⟨le_rfl, by simp, .inl rfl⟩
  | cons i is ih =>
    obtain ⟨h1, h2, h3⟩ := ih (max m (f i))
    simp only [List.foldl_cons, List.forall_mem_cons, List.exists_mem_cons_iff]
    refine ⟨by omega, ⟨by omega, h2⟩, ?_⟩
    rcases h3 with h3 | h3
    · rw [h3]
      rcases Nat.le_total (f i) m with hle | hle
      · exact .inl (by omega)
      · exact .inr (.inl (by omega))
    · exact .inr (.inr h3)

/-- The path maximum bounds the profile on the path and is attained there. -/
theorem pathMaximum_spec (e : List Int) (js : List Nat) : (∀ j ∈ js, (e.getD j 0).natAbs ≤ pathMaximum e js)
    ∧ (js ≠ [] → ∃ j ∈ js, (e.getD j 0).natAbs = pathMaximum e js) := by
  obtain ⟨-, h2, h3⟩ := foldl_max_spec (fun j => (e.getD j 0).natAbs) js 0
  refine ⟨h2, fun hne => h3.elim (fun h0 => ?_) id⟩
  obtain ⟨j, hj⟩ := List.exists_mem_of_ne_nil _ hne
  have hle : (e.getD j 0).natAbs ≤ 0 := h0 ▸ h2 j hj
  exact ⟨j, hj, (Nat.le_zero.mp hle).trans h0.symm⟩

/-- The offset that is `i` steps on in a direction. -/
def stepped (c k i : Nat) : Direction → Nat
  | .forward => (k + i) % c
  | .reverse => (k + c - i) % c

theorem subMod_of_le {k c i : Nat} (hc : 0 < c) (h : i ≤ c) : subMod k i c = (k + c - i) % c := by
  unfold subMod
  rcases Nat.lt_or_eq_of_le h with hlt | rfl
  · rw [Nat.mod_eq_of_lt hlt, ← Nat.add_sub_assoc h]
  · rw [Nat.mod_self, Nat.sub_zero, Nat.add_sub_cancel, Nat.add_mod_right]

/-- The offsets of a path are those up to its distance. -/
theorem mem_pathOffsets {c k d j : Nat} (hc : 0 < c) (hd : d ≤ c) (dir : Direction) :
    j ∈ pathOffsets c k d dir ↔ ∃ i, i ≤ d ∧ stepped c k i dir = j := by
  cases dir with
  | forward => simp [pathOffsets, stepped, Nat.lt_succ_iff]
  | reverse =>
    simp only [pathOffsets, stepped, List.mem_map, List.mem_range, Nat.lt_succ_iff]
    refine exists_congr fun i => and_congr_right fun hi => ?_
    rw [subMod_of_le hc (hi.trans hd)]

/-- The answer for a move from k over `d` steps in a direction. -/
theorem moveAnswer_pathMax {geo : Geometry} (grp : Group) {k d : Nat} (hc : 0 < geo.carriers) (hd : d ≤ geo.carriers)
    (dir : Direction) :
    (∀ i, i ≤ d → (grp.effective.getD (stepped geo.carriers k i dir) 0).natAbs ≤
        pathMaximum grp.effective (pathOffsets geo.carriers k d dir))
      ∧ ∃ i, i ≤ d ∧ (grp.effective.getD (stepped geo.carriers k i dir) 0).natAbs =
        pathMaximum grp.effective (pathOffsets geo.carriers k d dir) := by
  obtain ⟨h1, h2⟩ := pathMaximum_spec grp.effective (pathOffsets geo.carriers k d dir)
  have start : stepped geo.carriers k 0 dir ∈ pathOffsets geo.carriers k d dir :=
    (mem_pathOffsets hc hd dir).mpr ⟨0, Nat.zero_le _, rfl⟩
  refine ⟨fun i hi => h1 _ ((mem_pathOffsets hc hd dir).mpr ⟨i, hi, rfl⟩), ?_⟩
  obtain ⟨j, hj, e⟩ := h2 (List.ne_nil_of_mem start)
  obtain ⟨i, hi, rfl⟩ := (mem_pathOffsets hc hd dir).mp hj
  exact ⟨i, hi, e⟩

end Sys2Proof.Machine

namespace Sys2Proof.Certificates

open Sys2Proof Sys2Proof.Machine

/-- Settles O26: every other command keeps RUN low, as does the beginning of another slot; in its own slot RUN rises under the
conditions of a referencing run or of a move. -/
theorem runRisesOnlyInOwnSlot : Obligations.RunRisesOnlyInOwnSlot := by
  intro c s t g he hlow hhigh
  have raised : ¬RunLow g t := fun h => Bool.noConfusion (h.symm.trans hhigh)
  by_cases hc : ∃ h, c = .startSlot h
  · obtain ⟨h, rfl⟩ := hc
    cases he
    by_cases hne : g = h
    · subst hne
      rcases beginSlot_cases g { s with startSlot := g } with e | ⟨grp, hg, hr, -⟩ | ⟨grp, m, k, a, hg, -, -, -, hm, -⟩
      · exact absurd (e.symm ▸ (show RunLow g { s with startSlot := g } from hlow)) raised
      · obtain ⟨h1, -, -, h4, h5⟩ := (runStarts_iff hg).mp hr
        exact ⟨rfl, h4, grp, hg, .inl h1, h5⟩
      · obtain ⟨h1, h2, h3, -⟩ := (moveStarts_iff hg).mp hm
        exact ⟨rfl, h2, grp, hg, .inr h1, h3⟩
    · exact absurd (beginSlot_runLow hne (s := { s with startSlot := h }) hlow) raised
  · exact absurd (keeps_exec_of_not_startSlot (runLowLine g) (runLowWork g).events (runLowWork g).requests (fun h e => hc ⟨h, e⟩) hlow he) raised

/-- Settles O25, by cases on the conditions of the slot. -/
theorem startSlotRaisesRun : Obligations.StartSlotRaisesRun := by
  intro s g
  refine ⟨fun hg => ?_, fun grp hg => ⟨fun hcond => ?_, fun hmode hports => ⟨fun hst hrun hk => ?_, ?_⟩⟩⟩
  · rw [exec_startSlot]
    unfold beginSlot
    simp only [hg]
  · rw [exec_startSlot]
    rcases beginSlot_cases g { s with startSlot := g } with h | ⟨grp', hg', hr, -⟩ | ⟨grp', m, k, a, hg', hc, hk, -, hm, -⟩
    · rw [h]
    · cases hg.symm.trans hg'
      obtain ⟨h1, h2, h3, h4, h5⟩ := (runStarts_iff hg').mp hr
      exfalso
      rcases hcond with e | ⟨x, hx, e⟩ | e | e | e
      · exact Mode.noConfusion (e.symm.trans h4)
      · rcases e with e | e
        · exact Bool.noConfusion (e.symm.trans (h5 x hx).1)
        · exact (h5 x hx).2 e
      · exact e.1 h1
      · rcases e.2 with e | e
        · exact Bool.noConfusion (e.symm.trans h2)
        · exact e h3
      · exact GroupState.noConfusion (e.1.symm.trans h1)
    · cases hg.symm.trans hg'
      obtain ⟨h1, h2, h3, h4⟩ := (moveStarts_iff hg').mp hm
      exfalso
      rcases hcond with e | ⟨x, hx, e⟩ | e | e | ⟨-, e | e | ⟨x, hx, e⟩⟩
      · exact Mode.noConfusion (e.symm.trans h2)
      · rcases e with e | e
        · exact Bool.noConfusion (e.symm.trans (h3 x hx).1)
        · exact (h3 x hx).2 e
      · exact e.2 h1
      · exact GroupState.noConfusion (e.1.symm.trans h1)
      · simp [e] at hk
      · simp [e] at hc
      · obtain ⟨q1, q2, q3⟩ := h4 x hx
        rcases e with e | e | e
        · exact q1 e
        · exact q2 e
        · exact e q3
  · rw [exec_startSlot, beginSlot_run (s := { s with startSlot := g }) hg ((runStarts_iff hg).mpr ⟨hst, hrun, hk, hmode, hports⟩)]
    have := followRun_with_startSlot (s.setChannel g { s.channels.get g with run := true, dir := .forward, speed := .creep }) g
    exact congrArg (fun u : State => Host.Outcome.next { u with groups := s.groups.set g (some grp.searching) }) this
  · intro m k a hst hc hp hk ha hquiet
    rw [exec_startSlot, beginSlot_move (s := { s with startSlot := g }) hg hc hk hp
      ((moveStarts_iff hg).mpr ⟨hst, hmode, hports, hquiet⟩) ha]
    have := followRun_with_startSlot (s.setChannel g { s.channels.get g with run := true, dir := a.dir, speed := a.cls }) g
    exact congrArg (fun u : State => Host.Outcome.next { u with groups := s.groups.set g (some (grp.departed m a)) }) this

/-- Settles O24: the shorter way round, and the largest magnitude over the offsets of that path. -/
theorem directionAndSpeedClass : Obligations.DirectionAndSpeedClass := by
  intro geo grp k target df hk ht hdf
  have hc : 0 < geo.carriers := by omega
  have hsub : subMod target k geo.carriers = df := by rw [subMod_of_le hc hk.le, hdf]
  have hlt : df < geo.carriers := hdf ▸ Nat.mod_lt _ hc
  have hzero : df = 0 ↔ target = k := by
    rw [hdf]
    rcases Nat.lt_or_ge target k with h | h
    · rw [Nat.mod_eq_of_lt (by omega)]; omega
    · rw [show target + geo.carriers - k = target - k + geo.carriers by omega, Nat.add_mod_right,
        Nat.mod_eq_of_lt (by omega)]
      omega
  refine ⟨fun e => ?_, fun hne => ?_⟩
  · unfold moveAnswer
    simp [hsub, hzero.mpr e]
  · have hpos : df ≠ 0 := fun e => hne (hzero.mp e)
    by_cases hway : df ≤ geo.carriers - df
    · obtain ⟨h1, h2⟩ := moveAnswer_pathMax grp (k := k) hc hlt.le .forward
      refine ⟨_, by simp only [moveAnswer, hsub, hpos, hway, if_true, if_false]; rfl, fun _ => ⟨rfl, rfl⟩,
        fun h => absurd hway (by omega), h1, h2, rfl⟩
    · obtain ⟨h1, h2⟩ := moveAnswer_pathMax grp (k := k) (d := geo.carriers - df) hc (Nat.sub_le ..) .reverse
      refine ⟨_, by simp only [moveAnswer, hsub, hpos, hway, if_false]; rfl, fun h => absurd h (by omega),
        fun _ => ⟨rfl, rfl⟩, h1, h2, rfl⟩

end Sys2Proof.Certificates

/-! SUPPORT. The line: every frame command as a frame heard, every request command as its request taken, and the receiver byte by
byte (R161 to R165). -/

namespace Sys2Proof.Machine

open Sys2Proof

variable {s : State}

/-! ## A frame command is a frame heard -/

theorem hearFrame_off (h : s.link.receiver = .off) (n : Nat) (act : State → State) : hearFrame n act s = s := by
  unfold hearFrame
  rw [h]

/-- An addressed request is the request of its kind taken. -/
theorem exec_addressed {c : Instr} {kind : Byte} {p : List Byte} (h : addressedRequest c = some (kind, p)) (s : State) :
    ∃ r, requestOf kind = some r ∧ r.kind = kind ∧ exec c s = .next (takeRequest r p s) := by
  cases c
  case resume b p => cases b <;> cases h; exact ⟨resumeRequest, rfl, rfl, rfl⟩
  case pause b p => cases b <;> cases h; exact ⟨pauseRequest, rfl, rfl, rfl⟩
  case cont b p => cases b <;> cases h; exact ⟨continueRequest, rfl, rfl, rfl⟩
  all_goals cases h
  all_goals exact ⟨_, rfl, rfl, rfl⟩

/-- What a broadcast of a kind does once it is heard. -/
def broadcastAct (r : Request) (p : List Byte) (s : State) : State :=
  match r.broadcast with
  | some act => if r.lenOk p.length && (r.unused p).isNone then act s else s
  | none => s

theorem takeBroadcast_eq (r : Request) (p : List Byte) (s : State) :
    takeBroadcast r p s = hearFrame p.length (broadcastAct r p) s := rfl

theorem exec_broadcast_resume (p : List Byte) (s : State) :
    exec (.resume true p) s = .next (hearFrame p.length (broadcastAct resumeRequest p) s) := rfl

theorem exec_broadcast_pause (p : List Byte) (s : State) :
    exec (.pause true p) s = .next (hearFrame p.length (broadcastAct pauseRequest p) s) := rfl

theorem exec_broadcast_cont (p : List Byte) (s : State) :
    exec (.cont true p) s = .next (hearFrame p.length (broadcastAct continueRequest p) s) := rfl

/-- What a frame whose ADDR is judged by the part's own address does once it is heard. -/
def frameAct (own : Nat) (addr kind : Byte) (p : List Byte) (s : State) : State :=
  match addressee own addr, requestOf kind with
  | .own, some r => answer r.kind (r.serve p s)
  | .own, none => answer kind (refuse s .unknownKind 0xFF)
  | .broadcast, some r => broadcastAct r p s
  | _, _ => s

theorem takeFrame_eq (addr kind : Byte) (p : List Byte) (s : State) :
    takeFrame addr kind p s = hearFrame p.length (frameAct s.link.address addr kind p) s := by
  unfold takeFrame frameAct takeOwnRequest takeBroadcastKind
  cases addressee s.link.address addr with
  | other => rfl
  | own => cases requestOf kind <;> rfl
  | broadcast => cases requestOf kind <;> rfl

/-- Every frame command is a frame heard. -/
theorem exec_frame {c : Instr} {p : List Byte} (h : framePayload c = some p) (s : State) :
    ∃ act, exec c s = .next (hearFrame p.length act s) := by
  cases hreq : addressedRequest c with
  | some q =>
    obtain ⟨kind, p'⟩ := q
    obtain ⟨r, -, -, he⟩ := exec_addressed hreq s
    have : p' = p := by
      cases c
      case resume b p => cases b <;> cases hreq <;> cases h <;> rfl
      case pause b p => cases b <;> cases hreq <;> cases h <;> rfl
      case cont b p => cases b <;> cases hreq <;> cases h <;> rfl
      all_goals cases hreq
      all_goals cases h
      all_goals rfl
    subst this
    exact ⟨_, he⟩
  | none =>
    cases c
    case resume b p => cases b <;> cases hreq <;> cases h; exact ⟨_, exec_broadcast_resume p s⟩
    case pause b p => cases b <;> cases hreq <;> cases h; exact ⟨_, exec_broadcast_pause p s⟩
    case cont b p => cases b <;> cases hreq <;> cases h; exact ⟨_, exec_broadcast_cont p s⟩
    case unknownKind kind p =>
      cases h
      change ∃ act, Host.Outcome.next (takeOwnRequest kind _ s) = _
      unfold takeOwnRequest
      cases requestOf kind <;> exact ⟨_, rfl⟩
    case frameNotAddressed addr kind p =>
      cases h
      exact ⟨_, congrArg Host.Outcome.next (takeFrame_eq addr kind _ s)⟩
    all_goals cases h
    all_goals cases hreq

/-- A frame heard by a part whose receiver is off is lost. -/
theorem exec_frame_off {c : Instr} (h : isFrame c = true) (hoff : s.link.receiver = .off) : exec c s = .next s := by
  obtain ⟨p, hp⟩ := Option.isSome_iff_exists.mp h
  obtain ⟨act, he⟩ := exec_frame hp s
  rw [he, hearFrame_off hoff]

/-! ## The link unit once a waiting reply has been dropped -/

/-- The link unit with a waiting reply dropped (R164). -/
def Link.dropped (l : Link) : Link := { l.heard with wdTimer := l.wdTimer, receiver := l.receiver }

theorem dropWaiting_eq (h : s.link.resetWaits = false) : dropWaiting s = s.setLink s.link.dropped := by
  unfold dropWaiting Link.dropped Link.heard
  cases hr : s.link.reply with
  | waiting r =>
    have hk : r.kind ≠ resetAllKind := by simpa [Link.resetWaits, hr] using h
    simp only [endReply, if_neg hk]
  | none => simp only [State.setLink, ← hr]
  | sending r => simp only [State.setLink, ← hr]

/-- No reply waits. -/
def Link.NoneWaits (l : Link) : Prop := ∀ r, l.reply ≠ .waiting r

theorem Link.dropped_noneWaits (l : Link) : l.dropped.NoneWaits := by
  intro r
  unfold Link.dropped Link.heard
  cases l.reply <;> simp

theorem dropWaiting_of_none (h : s.link.NoneWaits) : dropWaiting s = s := by
  unfold dropWaiting
  cases hr : s.link.reply with
  | waiting r => exact absurd hr (h r)
  | none => rfl
  | sending r => rfl

theorem Link.resetWaits_of_none {l : Link} (h : l.NoneWaits) : l.resetWaits = false := by
  unfold Link.resetWaits
  cases hr : l.reply with
  | waiting r => exact absurd hr (h r)
  | none => rfl
  | sending r => rfl

/-- Hearing a frame after the reply has been dropped and whatever the receiver stands in. -/
theorem heard_dropped (s : State) (r : Receiver) : ((s.setLink s.link.dropped).setReceiver r).heard = s.heard := by
  unfold State.heard Link.heard State.setReceiver State.setLink Link.dropped Link.heard
  cases s.link.reply <;> rfl

/-! ## The receiver, byte by byte (R161) -/

/-- A byte without a framing error. -/
def cleanByte (b : Byte) : LineByte := { value := b, framingError := false }

/-- A frame from SYNC to its second CRC byte. -/
def rawFrame (addr kind : Byte) (p : List Byte) (c1 c2 : Byte) : List Byte :=
  [0xA5#8, addr, kind, BitVec.ofNat 8 p.length] ++ p ++ [c1, c2]

section Receiver

variable {addr kind c1 c2 : Byte} {p : List Byte}

theorem rawFrame_length : (rawFrame addr kind p c1 c2).length = 6 + p.length := by
  simp [rawFrame]
  omega

theorem takenLen_of_prefix (hp : p.length ≤ 200) {t zs : List Byte} (h : t ++ zs = rawFrame addr kind p c1 c2)
    (h4 : 4 ≤ t.length) : takenLen t = p.length := by
  have : t.getD 3 0#8 = BitVec.ofNat 8 p.length := by
    have hget : (t ++ zs)[3]? = some (BitVec.ofNat 8 p.length) := by rw [h]; rfl
    rw [List.getElem?_append_left (by omega)] at hget
    rw [List.getD_eq_getElem?_getD, hget]
    rfl
  unfold takenLen byteAt
  rw [this]
  simp only [BitVec.toNat_ofNat]
  omega

/-- A byte within a frame is taken, and the frame goes on. -/
theorem receiveByte_more (hp : p.length ≤ 200) {t zs : List Byte} {b : Byte}
    (h : t ++ b :: zs = rawFrame addr kind p c1 c2) (hz : zs ≠ []) :
    receiveByte t (cleanByte b) = .more (t ++ [b]) := by
  have happ : (t ++ [b]) ++ zs = rawFrame addr kind p c1 c2 := by simpa using h
  have hlen : (t ++ [b]).length + zs.length = 6 + p.length := by
    rw [← List.length_append, happ, rawFrame_length]
  have hz' : 0 < zs.length := List.length_pos_iff.mpr hz
  unfold receiveByte cleanByte
  simp only [Bool.false_eq_true, if_false]
  split
  · rfl
  · rename_i h4
    have hl := takenLen_of_prefix hp happ (by omega)
    rw [hl, if_neg (by simp only [Config.payloadCap]; omega), if_pos (by omega)]

theorem takenBody_rawFrame (hp : p.length ≤ 200) :
    takenBody (rawFrame addr kind p c1 c2) = [addr, kind, BitVec.ofNat 8 p.length] ++ p := by
  have hl := takenLen_of_prefix (addr := addr) (kind := kind) (c1 := c1) (c2 := c2) hp (zs := []) (List.append_nil _)
    (by rw [rawFrame_length]; omega)
  unfold takenBody
  rw [hl]
  have : rawFrame addr kind p c1 c2 = 0xA5#8 :: (([addr, kind, BitVec.ofNat 8 p.length] ++ p) ++ [c1, c2]) := by
    simp [rawFrame]
  rw [this, List.drop_succ_cons, List.drop_zero, List.take_left']
  simp
  omega

theorem crcBytes_eq (bs : List Byte) : crcBytes bs = [(crc16 bs).extractLsb' 8 8, (crc16 bs).extractLsb' 0 8] := by
  unfold crcBytes u8
  simp only [List.cons_append, List.nil_append, List.cons.injEq, and_true]
  constructor <;> apply BitVec.eq_of_toNat_eq <;> simp [BitVec.extractLsb'_toNat, Nat.shiftRight_eq_div_pow]

/-- The last byte of a frame has the CRC checked. -/
theorem receiveByte_last (hp : p.length ≤ 200) :
    receiveByte ([0xA5#8, addr, kind, BitVec.ofNat 8 p.length] ++ p ++ [c1]) (cleanByte c2) =
      if c1 = (crc16 ([addr, kind, BitVec.ofNat 8 p.length] ++ p)).extractLsb' 8 8
          ∧ c2 = (crc16 ([addr, kind, BitVec.ofNat 8 p.length] ++ p)).extractLsb' 0 8
        then .valid addr kind p else .discarded := by
  have happ : [0xA5#8, addr, kind, BitVec.ofNat 8 p.length] ++ p ++ [c1] ++ [c2] = rawFrame addr kind p c1 c2 := by
    simp [rawFrame]
  have hl := takenLen_of_prefix (addr := addr) (kind := kind) (c1 := c1) (c2 := c2) hp (zs := []) (List.append_nil _)
    (by rw [rawFrame_length]; omega)
  have hn := rawFrame_length (addr := addr) (kind := kind) (c1 := c1) (c2 := c2) (p := p)
  unfold receiveByte cleanByte
  simp only [Bool.false_eq_true, if_false]
  rw [happ, if_neg (by omega), hl, if_neg (by simp only [Config.payloadCap]; omega), if_neg (by omega)]
  unfold checkCrc
  rw [hl, takenBody_rawFrame hp, crcBytes_eq]
  have hdrop : (rawFrame addr kind p c1 c2).drop (4 + p.length) = [c1, c2] := by
    unfold rawFrame
    rw [List.drop_left']
    simp
    omega
  rw [hdrop]
  simp only [List.cons.injEq, and_true]
  rfl

end Receiver

end Sys2Proof.Machine

/-! SUPPORT. Runs of bytes from the line (R161, R164, R172). -/

namespace Sys2Proof.Machine

open Sys2Proof

variable {s : State}

/-! ## One byte of a run -/

theorem takeBytes_off (h : s.link.receiver = .off) (lost : Option (List Byte)) (bs : List LineByte) :
    takeBytes lost bs s = s := by
  cases bs with
  | nil => cases lost <;> rfl
  | cons b bs =>
    unfold takeBytes
    rw [h]

theorem takeBytes_nil (lost : Option (List Byte)) (s : State) : takeBytes lost [] s = s := by
  cases lost <;> rfl

theorem takeBytes_cons (hr : s.link.receiver ≠ .off) (hw : s.link.resetWaits = false) (b : LineByte) (bs : List LineByte) :
    takeBytes none (b :: bs) s = takeBytes none bs (takeByte b (dropWaiting s)) := by
  conv_lhs => unfold takeBytes
  cases hrec : s.link.receiver with
  | off => exact absurd hrec hr
  | hunt => simp only [hw, Bool.false_eq_true, if_false]
  | inFrame taken => simp only [hw, Bool.false_eq_true, if_false]

theorem takeBytes_lost (hr : s.link.receiver ≠ .off) (taken : List Byte) (b : LineByte) (bs : List LineByte) :
    takeBytes (some taken) (b :: bs) s = takeBytes (loseByte taken b) bs s := by
  conv_lhs => unfold takeBytes
  cases hrec : s.link.receiver with
  | off => exact absurd hrec hr
  | hunt => rfl
  | inFrame taken => rfl

theorem takeBytes_reset (hr : s.link.receiver ≠ .off) (hw : s.link.resetWaits = true) (b : LineByte) (bs : List LineByte) :
    takeBytes none (b :: bs) s = takeBytes (frameBegun b) bs (dropWaiting s) := by
  conv_lhs => unfold takeBytes
  cases hrec : s.link.receiver with
  | off => exact absurd hrec hr
  | hunt => simp only [hw, if_true]
  | inFrame taken => simp only [hw, if_true]

/-! ## A frame from its SYNC byte on -/

/-- The part with the receiver set once a waiting reply has been dropped. -/
def State.receiving (s : State) (r : Receiver) : State := (s.setLink s.link.dropped).setReceiver r

theorem receiving_setReceiver (r r' : Receiver) : (s.receiving r).setReceiver r' = s.receiving r' := rfl

theorem receiving_noneWaits (r : Receiver) : (s.receiving r).link.NoneWaits := Link.dropped_noneWaits s.link

/-- A byte taken IN_FRAME where no reply waits. -/
theorem takeBytes_inFrame {taken : List Byte} (b : LineByte) (bs : List LineByte) :
    takeBytes none (b :: bs) (s.receiving (.inFrame taken)) = takeBytes none bs (match receiveByte taken b with
      | .discarded => s.receiving .hunt
      | .more t => s.receiving (.inFrame t)
      | .valid addr kind p => takeFrame addr kind p (s.receiving (.inFrame taken))) := by
  rw [takeBytes_cons (by simp [State.receiving, State.setReceiver, State.setLink])
    (Link.resetWaits_of_none (receiving_noneWaits _)), dropWaiting_of_none (receiving_noneWaits _)]
  congr 1

theorem takeBytes_hunt (h : s.Listens) (hh : s.link.receiver = .hunt) (b : LineByte) (bs : List LineByte) :
    takeBytes none (b :: bs) s = takeBytes none bs (match frameBegun b with
      | some taken => s.receiving (.inFrame taken)
      | none => s.receiving .hunt) := by
  have hd : s.link.dropped.receiver = .hunt := hh
  rw [takeBytes_cons h.1 h.2, dropWaiting_eq h.2]
  unfold takeByte
  simp only [setLink_link, hd]
  cases frameBegun b with
  | some taken => rfl
  | none =>
    congr 1
    unfold State.receiving State.setReceiver State.setLink
    rw [← hd]

section Frame

variable {addr kind c1 c2 : Byte} {p : List Byte}

/-- The bytes within a frame are taken one by one. -/
theorem takeBytes_within (hp : p.length ≤ 200) (rest : List LineByte) {xs taken zs : List Byte} (hz : zs ≠ [])
    (h : taken ++ xs ++ zs = rawFrame addr kind p c1 c2) :
    takeBytes none (xs.map cleanByte ++ rest) (s.receiving (.inFrame taken)) =
      takeBytes none rest (s.receiving (.inFrame (taken ++ xs))) := by
  induction xs generalizing taken with
  | nil => rw [List.append_nil]; rfl
  | cons x xs ih =>
    have happ : taken ++ x :: (xs ++ zs) = rawFrame addr kind p c1 c2 := by simpa using h
    rw [List.map_cons, List.cons_append, takeBytes_inFrame, receiveByte_more hp happ (by simp [hz])]
    dsimp only
    rw [ih (taken := taken ++ [x]) (by simpa using h), List.append_assoc, List.singleton_append]

/-- The bytes of a frame begun from HUNT, short of its last, leave the receiver IN_FRAME with them. -/
theorem takeBytes_begun (hs : s.Listens) (hh : s.link.receiver = .hunt) (hp : p.length ≤ 200) (rest : List LineByte)
    {xs zs : List Byte} (hx : xs ≠ []) (hz : zs ≠ []) (h : xs ++ zs = rawFrame addr kind p c1 c2) :
    takeBytes none (xs.map cleanByte ++ rest) s = takeBytes none rest (s.receiving (.inFrame xs)) := by
  cases xs with
  | nil => exact absurd rfl hx
  | cons x xs =>
    have hsync : x = 0xA5#8 := by
      have := congrArg List.head? h
      simpa [rawFrame] using this
    subst hsync
    rw [List.map_cons, List.cons_append, takeBytes_hunt hs hh]
    exact takeBytes_within hp rest hz (taken := [0xA5#8]) (by simpa using h)

/-- What a frame does does not depend on how far it had been taken. -/
theorem takeFrame_receiving (hs : s.Listens) (hp : p.length ≤ 200) (taken : List Byte) :
    takeFrame addr kind p (s.receiving (.inFrame taken)) = takeFrame addr kind p s := by
  rw [takeFrame_eq, takeFrame_eq, hearFrame_of_listens hs hp, hearFrame_of_listens ⟨by
    simp [State.receiving, State.setReceiver, State.setLink], Link.resetWaits_of_none (receiving_noneWaits _)⟩ hp]
  have := heard_dropped s (.inFrame taken)
  rw [show (s.receiving (.inFrame taken)).heard = s.heard from this]
  rfl

/-- A whole frame from HUNT: the frame that it is where its CRC is right, and discarded where it is not. -/
theorem takeBytes_frame (hs : s.Listens) (hh : s.link.receiver = .hunt) (hp : p.length ≤ 200) (rest : List LineByte) :
    takeBytes none ((rawFrame addr kind p c1 c2).map cleanByte ++ rest) s = takeBytes none rest
      (if c1 = (crc16 ([addr, kind, BitVec.ofNat 8 p.length] ++ p)).extractLsb' 8 8
          ∧ c2 = (crc16 ([addr, kind, BitVec.ofNat 8 p.length] ++ p)).extractLsb' 0 8
        then takeFrame addr kind p s else s.receiving .hunt) := by
  have happ : [0xA5#8, addr, kind, BitVec.ofNat 8 p.length] ++ p ++ [c1] ++ [c2] = rawFrame addr kind p c1 c2 := by
    simp [rawFrame]
  rw [← happ, List.map_append, List.append_assoc, takeBytes_begun hs hh hp _ (by simp) (by simp) happ, List.map_singleton,
    List.singleton_append, takeBytes_inFrame, receiveByte_last hp]
  split_ifs
  · simp only [takeFrame_receiving hs hp]
  · rfl

end Frame

theorem receiving_receiver (s : State) (r : Receiver) : (s.receiving r).link.receiver = r := rfl

/-- Bytes other than SYNC are not acted on in HUNT. -/
theorem takeBytes_idle {bs : List Byte} (h : ∀ b ∈ bs, b ≠ 0xA5#8) :
    takeBytes none (bs.map cleanByte) (s.receiving .hunt) = s.receiving .hunt := by
  induction bs with
  | nil => rfl
  | cons b bs ih =>
    obtain ⟨hb, hbs⟩ := List.forall_mem_cons.mp h
    rw [List.map_cons, takeBytes_cons (by rw [receiving_receiver]; exact Receiver.noConfusion)
      (Link.resetWaits_of_none (receiving_noneWaits _)), dropWaiting_of_none (receiving_noneWaits _)]
    have : takeByte (cleanByte b) (s.receiving .hunt) = s.receiving .hunt := by
      unfold takeByte
      simp [receiving_receiver, frameBegun, cleanByte, syncByte, hb]
    rw [this, ih hbs]

theorem takeBytes_idle_of_hunt (hs : s.Listens) (hh : s.link.receiver = .hunt) {bs : List Byte} (hne : bs ≠ [])
    (h : ∀ b ∈ bs, b ≠ 0xA5#8) : takeBytes none (bs.map cleanByte) s = s.receiving .hunt := by
  cases bs with
  | nil => exact absurd rfl hne
  | cons b bs =>
    obtain ⟨hb, hbs⟩ := List.forall_mem_cons.mp h
    have : frameBegun (cleanByte b) = none := by simp [frameBegun, cleanByte, syncByte, hb]
    rw [List.map_cons, takeBytes_hunt hs hh, this]
    exact takeBytes_idle hbs

/-- A LEN above 200 discards the frame. -/
theorem takeBytes_long (hs : s.Listens) (hh : s.link.receiver = .hunt) (addr kind : Byte) {len : Byte}
    (hl : 200 < len.toNat) :
    takeBytes none ([0xA5#8, addr, kind, len].map cleanByte) s = s.receiving .hunt := by
  have first : frameBegun (cleanByte 0xA5#8) = some [0xA5#8] := rfl
  have second : receiveByte [0xA5#8] (cleanByte addr) = .more [0xA5#8, addr] := rfl
  have third : receiveByte [0xA5#8, addr] (cleanByte kind) = .more [0xA5#8, addr, kind] := rfl
  have last : receiveByte [0xA5#8, addr, kind] (cleanByte len) = .discarded := by
    have : takenLen ([0xA5#8, addr, kind] ++ [len]) = len.toNat := rfl
    unfold receiveByte cleanByte
    simp only [Bool.false_eq_true, if_false, this, Config.payloadCap, if_pos hl]
    rfl
  simp only [List.map_cons, List.map_nil]
  rw [takeBytes_hunt hs hh, first]
  dsimp only
  rw [takeBytes_inFrame, second]
  dsimp only
  rw [takeBytes_inFrame, third]
  dsimp only
  rw [takeBytes_inFrame, last]
  rfl

/-! ## The kinds and lengths of requests -/

/-- The kinds of which a broadcast is acted on, with the lengths they allow (R165). -/
theorem broadcast_kinds {kind : Byte} {r : Request} (h : requestOf kind = some r) (hb : r.broadcast ≠ none) :
    ((kind = 0x13#8 ∨ kind = 0x14#8) ∧ ∀ n, r.lenOk n = (n == 1)) ∨ (kind = 0x05#8 ∧ ∀ n, r.lenOk n = (n == 0)) := by
  have hk : r.kind = kind := by simpa using List.find?_some h
  have hm := List.mem_of_find?_eq_some h
  subst hk
  simp only [requestKinds, List.mem_cons, List.not_mem_nil, or_false] at hm
  rcases hm with rfl | rfl | rfl | rfl | rfl | rfl | rfl | rfl | rfl | rfl | rfl | rfl | rfl | rfl | rfl | rfl | rfl | rfl |
    rfl | rfl | rfl | rfl | rfl | rfl | rfl | rfl | rfl | rfl | rfl | rfl | rfl | rfl | rfl
  case inr.inr.inr.inr.inl => exact .inr ⟨rfl, fun _ => rfl⟩
  case inr.inr.inr.inr.inr.inr.inr.inr.inr.inl => exact .inl ⟨.inl rfl, fun _ => rfl⟩
  case inr.inr.inr.inr.inr.inr.inr.inr.inr.inr.inl => exact .inl ⟨.inr rfl, fun _ => rfl⟩
  all_goals exact absurd rfl hb

/-- A broadcast of another kind, or of a length that its kind does not allow, does nothing more once it is heard. -/
theorem broadcastAct_idle {kind : Byte} {r : Request} {p : List Byte} (h : requestOf kind = some r)
    (hcase : (kind ≠ 0x13#8 ∧ kind ≠ 0x14#8 ∧ kind ≠ 0x05#8) ∨ ((kind = 0x13#8 ∨ kind = 0x14#8) ∧ p.length ≠ 1)
      ∨ (kind = 0x05#8 ∧ p.length ≠ 0)) (s : State) : broadcastAct r p s = s := by
  unfold broadcastAct
  cases hb : r.broadcast with
  | none => rfl
  | some act =>
    have hlen : r.lenOk p.length = false := by
      rcases broadcast_kinds h (by simp [hb]) with ⟨hk, hl⟩ | ⟨hk, hl⟩ <;> rw [hl] <;>
        rcases hcase with ⟨h1, h2, h3⟩ | ⟨h1, h2⟩ | ⟨h1, h2⟩
      · exact absurd hk (by simp [h1, h2])
      · simpa using h2
      · rw [h1] at hk; exact absurd hk (by decide)
      · exact absurd hk h3
      · rw [hk] at h1; exact absurd h1 (by decide)
      · simpa using h2
    simp only [hlen, Bool.false_and, Bool.false_eq_true, if_false]

/-- The lengths that a request kind allows are those of section 11.3. -/
theorem lenOk_iff {c : Instr} {kind : Byte} {p : List Byte} (h : addressedRequest c = some (kind, p)) {r : Request}
    (hr : requestOf kind = some r) (n : Nat) : r.lenOk n = true ↔ lengthAllowed kind n := by
  cases c
  case resume b p => cases b <;> cases h; cases hr; simp [lengthAllowed]
  case pause b p => cases b <;> cases h; cases hr; simp [lengthAllowed]
  case cont b p => cases b <;> cases h; cases hr; simp [lengthAllowed]
  case mapPut p =>
    cases h
    cases hr
    simp only [mapPutRequest_lenOk, mapPutLen, lengthAllowed, Bool.and_eq_true, decide_eq_true_eq, beq_iff_eq]
    refine ⟨fun ⟨h1, h2⟩ => ⟨(n - 1) / 14, by omega, by omega, by omega⟩, ?_⟩
    rintro ⟨i, h1, h2, rfl⟩
    omega
  case orderOpen p =>
    cases h
    cases hr
    simp only [orderOpenRequest_lenOk, orderOpenLen, lengthAllowed, Bool.and_eq_true, decide_eq_true_eq, beq_iff_eq]
    refine ⟨fun ⟨h1, h2⟩ => ⟨(n - 6) / 4, by omega, by omega, by omega⟩, ?_⟩
    rintro ⟨i, h1, h2, rfl⟩
    omega
  all_goals cases h
  all_goals cases hr
  all_goals simp [lengthAllowed]

end Sys2Proof.Machine

namespace Sys2Proof.Certificates

open Sys2Proof Sys2Proof.Machine

/-- Settles O1: the three equations of the step and of the table's rows, none of which has bits. -/
theorem stepRunsFrontCommand : Obligations.StepRunsFrontCommand := by
  refine ⟨fun c cs s h => ?_, fun s h => ?_, fun s nbits w => ?_⟩
  · simp only [step, h]
  · simp only [step, h]
  · rfl

/-- Settles O3: the receiver's runs of bytes (`takeBytes_begun`, `takeBytes_frame`), and the frame judged by its ADDR. -/
theorem framesOutsideRequests : Obligations.FramesOutsideRequests := by
  refine ⟨fun s => ⟨fun taken h => ?_, fun h => ?_, fun h => ⟨fun bytes => ?_, fun c hc => exec_frame_off hc h⟩⟩, ?_,
    fun c p s hc hs hp => ?_, fun addr kind p s => ⟨fun ho => ⟨fun c hc => ?_, ?_⟩, fun ho hb => ?_⟩,
    fun addr kind p s hs hp ho hcase => ?_⟩
  · change Host.Outcome.next _ = _
    rw [h]
  · change Host.Outcome.next _ = _
    cases hr : s.link.receiver with
    | inFrame taken => exact absurd hr (h taken)
    | off => rfl
    | hunt => rfl
  · exact congrArg Host.Outcome.next (takeBytes_off h none bytes)
  · rintro s addr kind p frame crc clean left hs hh hp rfl rfl rfl rfl
    have whole : rawFrame addr kind p ((crc16 ([addr, kind, BitVec.ofNat 8 p.length] ++ p)).extractLsb' 8 8)
        ((crc16 ([addr, kind, BitVec.ofNat 8 p.length] ++ p)).extractLsb' 0 8) =
      [0xA5#8, addr, kind, BitVec.ofNat 8 p.length] ++ p ++
        [(crc16 ([addr, kind, BitVec.ofNat 8 p.length] ++ p)).extractLsb' 8 8,
          (crc16 ([addr, kind, BitVec.ofNat 8 p.length] ++ p)).extractLsb' 0 8] := rfl
    have parts : ∀ {f : List Byte} {n : Nat}, 1 ≤ n → n < f.length → f.take n ≠ [] ∧ f.drop n ≠ [] := fun h1 hn =>
      ⟨List.ne_nil_of_length_pos (by rw [List.length_take]; omega),
        List.ne_nil_of_length_pos (by rw [List.length_drop]; omega)⟩
    rw [← whole]
    refine ⟨?_, fun n h1 hn => ⟨?_, fun b => ?_⟩, fun c1 c2 hc => ?_, fun len hl => ?_, fun bs hne hbs => ?_, ?_⟩
    · have := takeBytes_frame (addr := addr) (kind := kind)
        (c1 := (crc16 ([addr, kind, BitVec.ofNat 8 p.length] ++ p)).extractLsb' 8 8)
        (c2 := (crc16 ([addr, kind, BitVec.ofNat 8 p.length] ++ p)).extractLsb' 0 8) hs hh hp []
      rw [if_pos ⟨rfl, rfl⟩, List.append_nil, takeBytes_nil] at this
      exact congrArg Host.Outcome.next this
    · have := takeBytes_begun hs hh hp [] (parts h1 hn).1 (parts h1 hn).2 (List.take_append_drop n _)
      rw [List.append_nil, takeBytes_nil] at this
      exact congrArg Host.Outcome.next this
    · have := takeBytes_begun hs hh hp [{ value := b, framingError := true }]
        (parts h1 hn).1 (parts h1 hn).2 (List.take_append_drop n _)
      rw [takeBytes_inFrame] at this
      exact congrArg Host.Outcome.next this
    · have := takeBytes_frame (addr := addr) (kind := kind) (c1 := c1) (c2 := c2) hs hh hp []
      rw [if_neg (by tauto), List.append_nil, takeBytes_nil] at this
      exact congrArg Host.Outcome.next this
    · exact congrArg Host.Outcome.next (takeBytes_long hs hh addr kind hl)
    · exact congrArg Host.Outcome.next (takeBytes_idle_of_hunt hs hh hne hbs)
    · exact congrArg Host.Outcome.next (takeBytes_hunt hs hh { value := 0xA5#8, framingError := true } [])
  · obtain ⟨act, he⟩ := exec_frame hc s
    rw [he, hearFrame_of_long hs hp, dropWaiting_eq hs.2]
    rfl
  · obtain ⟨r, hr, -, he⟩ := exec_addressed hc s
    rw [he]
    change Host.Outcome.next (takeFrame addr kind p s) = _
    simp only [takeFrame, addressee, ho, if_true, takeOwnRequest, hr]
  · change Host.Outcome.next (takeFrame addr kind p s) = Host.Outcome.next (takeOwnRequest kind p s)
    simp only [takeFrame, addressee, ho, if_true]
  · have frame : ∀ kind, exec (.frameNotAddressed addr kind p) s = .next (takeBroadcastKind kind p s) := fun kind => by
      change Host.Outcome.next (takeFrame addr kind p s) = _
      simp only [takeFrame, addressee, if_neg ho, if_pos hb]
    exact ⟨frame _, frame _, frame _⟩
  · have idle : frameAct s.link.address addr kind p s.heard = s.heard := by
      unfold frameAct addressee
      rw [if_neg ho]
      by_cases hb : addr.toNat = 63
      · rw [if_pos hb]
        cases hr : requestOf kind with
        | none => rfl
        | some r => exact broadcastAct_idle hr (hcase.resolve_left (by simpa using hb)) _
      · rw [if_neg hb]
    refine ⟨s.link.heard, ?_, rfl, rfl, ?_, ?_, rfl, rfl, rfl, rfl, rfl, rfl, rfl⟩
    · change Host.Outcome.next (takeFrame addr kind p s) = _
      rw [takeFrame_eq, hearFrame_of_listens hs hp, idle]
      rfl
    · rfl
    · unfold Link.heard
      cases s.link.wdTimer <;> rfl

end Sys2Proof.Certificates

/-! SUPPORT. A request that reaches its owner, and what a refusal leaves unchanged (R163, R164). -/

namespace Sys2Proof.Machine

open Sys2Proof

variable {s : State}

/-! ## A request that reaches its owner -/

/-- A request of an allowed length whose unused bits are zero is answered with its owner's work on the heard state. -/
theorem exec_request {c : Instr} {p : List Byte} (r : Request) (h : s.Listens) (hc : exec c s = .next (takeRequest r p s))
    (hp : p.length ≤ 200) (hl : r.lenOk p.length = true) (hu : r.unused p = none) :
    exec c s = .next (answer r.kind (r.run p s.heard)) := by
  rw [hc, takeRequest_of_listens h r hp, serve_run r hl hu]

/-- A request of an allowed length with an unused bit set is refused RANGE with that field. -/
theorem exec_unused {c : Instr} {p : List Byte} {n : Nat} (r : Request) (h : s.Listens)
    (hc : exec c s = .next (takeRequest r p s)) (hp : p.length ≤ 200) (hl : r.lenOk p.length = true)
    (hu : r.unused p = some n) : exec c s = .next (s.heard.refusing r.kind .range n) := by
  rw [hc, takeRequest_of_listens h r hp, serve_unused r hl hu, answer_refuse]

/-! ## What a refusal leaves -/

/-- Where the work is answered with a NAK, its state is the one it began in. -/
def Refuses (s : State) (b : State × Answer) : Prop := ∀ reason detail, b.2 = .nak reason detail → b.1 = s

theorem refuses_ack (t : State) (data : List Byte) : Refuses s (t, .ack data) := fun _ _ h => Answer.noConfusion h

theorem refuses_accept (t : State) : Refuses s (accept t) := refuses_ack t []

theorem refuses_refuse (reason : Reason) (detail : Nat) : Refuses s (refuse s reason detail) := fun _ _ _ => rfl

theorem refuses_checked (cs : List (Bool × Reason × Nat)) {b : State × Answer} (h : Refuses s b) : Refuses s (checked s cs b) := by
  unfold checked
  split
  · exact fun _ _ _ => rfl
  · exact h

theorem refuses_withGroup (n : Nat) {body : Index → Group → State × Answer} (h : ∀ g grp, Refuses s (body g grp)) :
    Refuses s (withGroup n s body) := by
  unfold withGroup
  split
  · exact refuses_refuse _ _
  · split
    · exact refuses_refuse _ _
    · exact h _ _

theorem refuses_withCarousel (n : Nat) {body : Index → State × Answer} (h : ∀ x, Refuses s (body x)) :
    Refuses s (withCarousel n s body) := by
  unfold withCarousel
  split
  · exact refuses_refuse _ _
  · exact h _

theorem refuses_ite {c : Prop} [Decidable c] {a b : State × Answer} (ha : Refuses s a) (hb : Refuses s b) :
    Refuses s (if c then a else b) := by
  split
  · exact ha
  · exact hb

/-- What is accepted under checks is refused without effect where a check fails. -/
theorem refuses_checked_ack (cs : List (Bool × Reason × Nat)) (t : State) (data : List Byte) :
    Refuses s (checked s cs (t, .ack data)) := refuses_checked cs (refuses_ack _ _)

theorem refuses_clearFault (p : List Byte) : Refuses s (runClearFault p s) := by
  unfold runClearFault
  dsimp only
  split
  · split
    · exact refuses_refuse _ _
    · refine refuses_ite (refuses_withGroup _ fun g grp => ?_)
        (refuses_ite (refuses_withGroup _ fun g grp => ?_) (refuses_refuse _ _))
      · exact refuses_checked_ack _ _ _
      · exact refuses_checked_ack _ _ _
  · split
    · exact refuses_refuse _ _
    · exact refuses_ite (refuses_checked_ack _ _ _) (refuses_refuse _ _)
  · refine refuses_ite ?_ (refuses_refuse _ _)
    unfold clearStation
    split
    · exact refuses_refuse _ _
    · exact refuses_checked_ack _ _ _
  · exact refuses_refuse _ _

/-- Every request but COMMISSION and MAP_COMMIT is refused without effect. -/
theorem refuses_run {r : Request} (hm : r ∈ requestKinds) (h1 : r.kind ≠ 0x12#8) (h2 : r.kind ≠ 0x22#8) (p : List Byte)
    (s : State) : Refuses s (r.run p s) := by
  simp only [requestKinds, List.mem_cons, List.not_mem_nil, or_false] at hm
  rcases hm with rfl | rfl | rfl | rfl | rfl | rfl | rfl | rfl | rfl | rfl | rfl | rfl | rfl | rfl | rfl | rfl | rfl | rfl |
    rfl | rfl | rfl | rfl | rfl | rfl | rfl | rfl | rfl | rfl | rfl | rfl | rfl | rfl | rfl
  · exact refuses_ack _ _
  · exact refuses_ack _ _
  · exact refuses_checked_ack _ _ _
  · exact refuses_checked_ack _ _ _
  · exact refuses_ack _ _
  · exact refuses_accept _
  · refine refuses_checked _ ?_
    split
    · exact refuses_checked_ack _ _ _
    · exact refuses_refuse _ _
  · refine refuses_checked _ ?_
    split
    · exact refuses_checked_ack _ _ _
    · exact refuses_refuse _ _
  · exact absurd rfl h1
  · exact refuses_ite (refuses_accept _)
      (refuses_withGroup _ fun _ _ => refuses_ite (refuses_refuse _ _) (refuses_accept _))
  · exact refuses_ite (refuses_accept _)
      (refuses_withGroup _ fun _ _ => refuses_ite (refuses_accept _) (refuses_refuse _ _))
  · exact refuses_clearFault p
  · exact refuses_withGroup _ fun _ _ => refuses_checked_ack _ _ _
  · exact refuses_withGroup _ fun _ _ => refuses_checked_ack _ _ _
  · refine refuses_withCarousel _ fun x => ?_
    split
    · exact refuses_refuse _ _
    · exact refuses_checked_ack _ _ _
  · exact refuses_withCarousel _ fun x => refuses_checked_ack _ _ _
  · exact absurd rfl h2
  · exact refuses_withCarousel _ fun x => refuses_checked_ack _ _ _
  · exact refuses_withCarousel _ fun x => refuses_checked_ack _ _ _
  · refine refuses_withCarousel _ fun x => ?_
    split
    · refine refuses_checked _ ?_
      split
      · exact refuses_checked_ack _ _ _
      · exact refuses_refuse _ _
    · exact refuses_refuse _ _
  · refine refuses_checked _ ?_
    split
    · exact refuses_checked_ack _ _ _
    · exact refuses_refuse _ _
  · change Refuses s (runStoreWithdraw p s)
    unfold runStoreWithdraw
    split
    · exact refuses_refuse _ _
    · split
      · exact refuses_refuse _ _
      · exact refuses_ite (refuses_refuse _ _) (refuses_ack _ _)
  · change Refuses s (runStoreQuery p s)
    unfold runStoreQuery
    split
    · exact refuses_refuse _ _
    · exact refuses_ack _ _
  · exact refuses_checked_ack _ _ _
  · change Refuses s (runOrderCancel p s)
    unfold runOrderCancel
    split
    · exact refuses_refuse _ _
    · exact refuses_ite (refuses_ack _ _) (refuses_refuse _ _)
  · change Refuses s (runOrderQuery p s)
    unfold runOrderQuery
    split
    · exact refuses_refuse _ _
    · exact refuses_ack _ _
  · change Refuses s (runLaneRelease p s)
    unfold runLaneRelease
    split
    · exact refuses_refuse _ _
    · split
      · exact refuses_refuse _ _
      · exact refuses_ack _ _
  · exact refuses_checked_ack _ _ _
  · change Refuses s (runStationQuery p s)
    unfold runStationQuery
    split
    · exact refuses_ack _ _
    · exact refuses_refuse _ _
  · exact refuses_withCarousel _ fun x => refuses_checked_ack _ _ _
  · refine refuses_withCarousel _ fun x => ?_
    split
    · exact refuses_refuse _ _
    · exact refuses_ite (refuses_ack _ _) (refuses_refuse _ _)
  · exact refuses_withCarousel _ fun x => refuses_ack _ _
  · exact refuses_checked_ack _ _ _

theorem refuses_serve {r : Request} (hm : r ∈ requestKinds) (h1 : r.kind ≠ 0x12#8) (h2 : r.kind ≠ 0x22#8) (p : List Byte)
    (s : State) : Refuses s (r.serve p s) := by
  unfold Request.serve
  refine refuses_ite ?_ (refuses_refuse _ _)
  split
  · exact refuses_refuse _ _
  · exact refuses_run hm h1 h2 p s

/-- The kinds of the requests have bit 7 clear. -/
theorem kind_ne_or {r : Request} (hm : r ∈ requestKinds) : r.kind ≠ r.kind ||| 0x80#8 := by
  have : ∀ k ∈ requestKinds.map Request.kind, k ≠ k ||| 0x80#8 := by decide
  exact this _ (List.mem_map_of_mem hm)

/-! ## The ACK of RESET ALL -/

theorem resetWaits_iff : s.link.resetWaits = true ↔ ∃ data, s.link.reply = .waiting { kind := 0x06#8, payload := data } := by
  unfold Link.resetWaits
  cases hr : s.link.reply with
  | waiting r =>
    obtain ⟨k, d⟩ := r
    simp [resetAllKind]
  | none => simp
  | sending r => simp

theorem dropWaiting_reset {data : List Byte} (h : s.link.reply = .waiting { kind := 0x06#8, payload := data }) :
    dropWaiting s = deviceReset s := by
  unfold dropWaiting
  rw [h]
  rfl

/-- A frame that drops the ACK of RESET ALL is lost, and the part is reset. -/
theorem hearFrame_reset {data : List Byte} (h : s.link.reply = .waiting { kind := 0x06#8, payload := data })
    (hr : s.link.receiver ≠ .off) (n : Nat) (act : State → State) : hearFrame n act s = deviceReset s := by
  unfold hearFrame
  rw [resetWaits_iff.mpr ⟨data, h⟩, dropWaiting_reset h]
  split
  · exact absurd ‹_› hr
  · rfl

theorem deviceReset_receiver (s : State) : (deviceReset s).link.receiver = .hunt := rfl

section Lost

variable {addr kind c1 c2 : Byte} {p : List Byte}

theorem loseByte_more (hp : p.length ≤ 200) {t zs : List Byte} {b : Byte}
    (h : t ++ b :: zs = rawFrame addr kind p c1 c2) (hz : zs ≠ []) : loseByte t (cleanByte b) = some (t ++ [b]) := by
  unfold loseByte
  rw [receiveByte_more hp h hz]

theorem loseByte_last (hp : p.length ≤ 200) :
    loseByte ([0xA5#8, addr, kind, BitVec.ofNat 8 p.length] ++ p ++ [c1]) (cleanByte c2) = none := by
  unfold loseByte
  rw [receiveByte_last hp]
  split_ifs <;> rfl

/-- The bytes within a frame that is lost. -/
theorem takeBytes_losing (hr : s.link.receiver ≠ .off) (hp : p.length ≤ 200) (rest : List LineByte) {xs taken zs : List Byte}
    (hz : zs ≠ []) (h : taken ++ xs ++ zs = rawFrame addr kind p c1 c2) :
    takeBytes (some taken) (xs.map cleanByte ++ rest) s = takeBytes (some (taken ++ xs)) rest s := by
  induction xs generalizing taken with
  | nil => rw [List.append_nil]; rfl
  | cons x xs ih =>
    have happ : taken ++ x :: (xs ++ zs) = rawFrame addr kind p c1 c2 := by simpa using h
    rw [List.map_cons, List.cons_append, takeBytes_lost hr, loseByte_more hp happ (by simp [hz]),
      ih (taken := taken ++ [x]) (by simpa using h), List.append_assoc, List.singleton_append]

/-- The frame that drops the ACK of RESET ALL is lost as far as it has been taken. -/
theorem takeBytes_drops {data : List Byte} (h : s.link.reply = .waiting { kind := 0x06#8, payload := data })
    (hr : s.link.receiver ≠ .off) (hp : p.length ≤ 200) (rest : List LineByte) {xs zs : List Byte} (hx : xs ≠ [])
    (hz : zs ≠ []) (happ : xs ++ zs = rawFrame addr kind p c1 c2) :
    takeBytes none (xs.map cleanByte ++ rest) s = takeBytes (some xs) rest (deviceReset s) := by
  cases xs with
  | nil => exact absurd rfl hx
  | cons x xs =>
    have hsync : x = 0xA5#8 := by
      have := congrArg List.head? happ
      simpa [rawFrame] using this
    subst hsync
    rw [List.map_cons, List.cons_append, takeBytes_reset hr (resetWaits_iff.mpr ⟨data, h⟩), dropWaiting_reset h]
    exact takeBytes_losing (by rw [deviceReset_receiver]; exact Receiver.noConfusion) hp rest hz (taken := [0xA5#8])
      (by simpa using happ)

/-- The whole frame that drops the ACK of RESET ALL is lost, and what follows is taken by the part as reset. -/
theorem takeBytes_drops_frame {data : List Byte} (h : s.link.reply = .waiting { kind := 0x06#8, payload := data })
    (hr : s.link.receiver ≠ .off) (hp : p.length ≤ 200) (rest : List LineByte) :
    takeBytes none ((rawFrame addr kind p c1 c2).map cleanByte ++ rest) s = takeBytes none rest (deviceReset s) := by
  have happ : [0xA5#8, addr, kind, BitVec.ofNat 8 p.length] ++ p ++ [c1] ++ [c2] = rawFrame addr kind p c1 c2 := by
    simp [rawFrame]
  rw [← happ, List.map_append, List.append_assoc, takeBytes_drops h hr hp _ (by simp) (by simp) happ, List.map_singleton,
    List.singleton_append, takeBytes_lost (by rw [deviceReset_receiver]; exact Receiver.noConfusion), loseByte_last hp]

end Lost

end Sys2Proof.Machine

namespace Sys2Proof.Certificates

open Sys2Proof Sys2Proof.Machine

/-- Settles O4: the link unit's checks stand before the owner's (`serve_format`, `serve_unused`). -/
theorem linkUnitRefuses : Obligations.LinkUnitRefuses := by
  refine ⟨fun kind p s hs hp hk => ?_, fun c kind p s hc hs hp hl => ?_, fun p s hs => ⟨fun hl hu => ?_, fun hl hu => ?_,
    fun hl hu => ?_, fun hl hu => ?_⟩⟩
  · have hr : requestOf kind = none := by
      refine List.find?_eq_none.mpr fun r hm => ?_
      have : ∀ k ∈ requestKinds.map Request.kind, k.toNat ∈ kindCodes := by decide
      have hin := this _ (List.mem_map_of_mem hm)
      rintro he
      exact hk ((by simpa using he : r.kind = kind) ▸ hin)
    change Host.Outcome.next (takeOwnRequest kind p s) = _
    unfold takeOwnRequest
    rw [hr]
    exact congrArg Host.Outcome.next (hearFrame_of_listens hs hp _)
  · obtain ⟨r, hr, hk, he⟩ := exec_addressed hc s
    have hno : r.lenOk p.length = false := by
      rw [← Bool.not_eq_true, lenOk_iff hc hr]
      exact hl
    rw [he, takeRequest_of_listens hs r hp, serve_format r hno, answer_refuse, hk]
  · exact exec_unused setLinkRequest hs rfl (by omega) (by simp [hl]) (if_neg (Nat.not_lt.mpr hu))
  · exact exec_unused ackEventsRequest hs rfl (by omega) (by simp [hl]) (if_neg (Nat.not_lt.mpr hu))
  · exact exec_unused setGroupRequest hs rfl (by omega) (by simp [hl]) (if_neg (Nat.not_lt.mpr hu))
  · have unused : clearFaultRequest.unused p = some 0 := by
      refine if_pos ?_
      simpa [ClearRequest.unusedSet, readClear, or_assoc] using hu
    have refused : ∀ c, exec c s = .next (takeRequest clearFaultRequest p s) →
        exec c s = .next (s.heard.refusing 0x15#8 .range 0) := fun c hc =>
      exec_unused clearFaultRequest hs hc (by omega) (by simp [hl]) unused
    exact ⟨refused _ rfl, refused _ rfl, refused _ rfl, refused _ rfl⟩

/-- Settles O5: a NAK leaves the state in which the work began (`refuses_serve`). -/
theorem refusalChangesNothing : Obligations.RefusalChangesNothing := by
  intro c kind p s t nak hc h1 h2 hs he hreply
  obtain ⟨r, hr, hk, hex⟩ := exec_addressed hc s
  have hm := List.mem_of_find?_eq_some hr
  subst hk
  rw [hex] at he
  cases he
  by_cases hp : p.length ≤ 200
  · rw [takeRequest_of_listens hs r hp] at hreply ⊢
    have hw : replyOf r.kind (r.serve p s.heard).2 = { kind := r.kind ||| 0x80#8, payload := nak } := ReplyPhase.waiting.inj hreply
    cases ha : (r.serve p s.heard).2 with
    | ack data =>
      rw [ha] at hw
      exact absurd (congrArg Reply.kind hw) (kind_ne_or hm)
    | nak reason detail =>
      have hsame := refuses_serve hm h1 h2 p s.heard reason detail ha
      unfold answer
      rw [hw, hsame]
      rfl
  · rw [takeRequest, hearFrame_of_long hs (by omega), dropWaiting_eq hs.2] at hreply
    exact absurd hreply (Link.dropped_noneWaits s.link _)

/-- Settles O6. -/
theorem replySentOrDropped : Obligations.ReplySentOrDropped := by
  intro s r
  refine ⟨fun h => ⟨_, rfl, ?_, rfl⟩, fun h hk => ?_, fun h hk b => ?_⟩
  · change Host.Outcome.next _ = _
    rw [h]
    simp only [replyFrame, frameBytes, crcBytes_eq]
    rfl
  · change Host.Outcome.next _ = _
    rw [h]
    simp only [endReply, if_neg (show ¬r.kind = resetAllKind from hk)]
    rfl
  · change Host.Outcome.next _ = _
    rw [h]
    simp only [endReply, if_neg (show ¬r.kind = resetAllKind from hk)]
    rfl

/-- Settles O7: whatever ends the ACK of RESET ALL leaves `deviceReset`. -/
theorem resetAllResetsPart : Obligations.ResetAllResetsPart := by
  refine ⟨fun s hs => exec_request resetAllRequest hs rfl (by simp) rfl rfl, fun s data hw hr => ?_, fun s t data h => ?_⟩
  · refine ⟨deviceReset s, fun bytes => ⟨fun b => ⟨?_, fun hb => ?_⟩, ?_⟩⟩
    · have := takeBytes_reset hr (resetWaits_iff.mpr ⟨data, hw⟩) b []
      rw [takeBytes_nil, dropWaiting_reset hw] at this
      exact congrArg Host.Outcome.next this
    · have := takeBytes_reset hr (resetWaits_iff.mpr ⟨data, hw⟩) b bytes
      have hno : frameBegun b = none := by
        unfold frameBegun
        refine if_neg fun h => ?_
        rcases hb with hb | hb
        · exact hb h.1
        · rw [h.2] at hb; cases hb
      rw [hno, dropWaiting_reset hw] at this
      exact congrArg Host.Outcome.next this
    · rintro addr kind c1 c2 p frame hp rfl
      refine ⟨congrArg Host.Outcome.next (takeBytes_drops_frame (addr := addr) (kind := kind) (c1 := c1) (c2 := c2) hw hr hp bytes),
        fun n h1 hn => ?_⟩
      rw [List.length_map] at hn
      have hx : (rawFrame addr kind p c1 c2).take n ≠ [] :=
        List.ne_nil_of_length_pos (by rw [List.length_take]; exact Nat.lt_min.mpr ⟨h1, by rw [rawFrame_length]; omega⟩)
      have hz : (rawFrame addr kind p c1 c2).drop n ≠ [] :=
        List.ne_nil_of_length_pos (by rw [List.length_drop]; exact Nat.sub_pos_of_lt hn)
      have := takeBytes_drops hw hr hp [] hx hz (List.take_append_drop n _)
      rw [List.append_nil, takeBytes_nil, List.map_take] at this
      exact congrArg Host.Outcome.next this
  · have ht : t = deviceReset s := by
      rcases h with ⟨hsend, he⟩ | ⟨hw, ⟨b, he⟩ | ⟨hr, b, he⟩ | ⟨hr, c, hc, he⟩⟩
      · change Host.Outcome.next _ = _ at he
        rw [hsend] at he
        exact (Host.Outcome.next.inj he).symm
      · change Host.Outcome.next _ = _ at he
        rw [hw] at he
        exact (Host.Outcome.next.inj he).symm
      · have := takeBytes_reset hr (resetWaits_iff.mpr ⟨data, hw⟩) b []
        rw [takeBytes_nil, dropWaiting_reset hw] at this
        exact (Host.Outcome.next.inj he).symm.trans this
      · obtain ⟨p, hp⟩ := Option.isSome_iff_exists.mp hc
        obtain ⟨act, hex⟩ := exec_frame hp s
        rw [hex, hearFrame_reset hw hr] at he
        exact (Host.Outcome.next.inj he).symm
    subst ht
    exact ⟨rfl, rfl, rfl, rfl, rfl, rfl, rfl, rfl, fun g => Quad.get_map _ _ _, fun p => Quad.get_map _ _ _, rfl, rfl⟩

end Sys2Proof.Certificates

/-! SUPPORT. The link unit's flags (R168, R169), HOLD entry at every group (R167), and changes made at one index after another. -/

namespace Sys2Proof.Machine

open Sys2Proof

variable {s : State}

/-! ## Changes made at one index after another -/

/-- What is read at an index after a change made at each index of a list in turn. -/
theorem foldl_local {β : Type} (read : State → Index → β) (f : State → Index → State) (F : Index → β → β)
    (own : ∀ s g, read (f s g) g = F g (read s g)) (other : ∀ s g h, h ≠ g → read (f s g) h = read s h) (gs : List Index)
    (hn : gs.Nodup) (s : State) (h : Index) : read (gs.foldl f s) h = if h ∈ gs then F h (read s h) else read s h := by
  induction gs generalizing s with
  | nil => simp
  | cons g gs ih =>
    obtain ⟨hg, hn⟩ := List.nodup_cons.mp hn
    rw [List.foldl_cons, ih hn]
    by_cases hh : h = g
    · subst hh
      simp [hg, own]
    · simp [hh, other s g h hh]

theorem mem_allIndices (g : Index) : g ∈ allIndices := by fin_cases g <;> decide

theorem foldl_allIndices {β : Type} (read : State → Index → β) (f : State → Index → State) (F : Index → β → β)
    (own : ∀ s g, read (f s g) g = F g (read s g)) (other : ∀ s g h, h ≠ g → read (f s g) h = read s h) (s : State)
    (h : Index) : read (allIndices.foldl f s) h = F h (read s h) := by
  rw [foldl_local read f F own other allIndices (by decide) s h, if_pos (mem_allIndices h)]

/-! ## The flags -/

theorem eventBit_lt (e : Event) : eventBit e < 13 := by cases e <;> decide

/-- Every flag number is that of an event. -/
theorem eventBit_surj {i : Nat} (h : i < 13) : ∃ e, eventBit e = i := by
  interval_cases i
  exacts [⟨.storeDone, rfl⟩, ⟨.storeRejected, rfl⟩, ⟨.orderComplete, rfl⟩, ⟨.orderShort, rfl⟩, ⟨.balanceWait, rfl⟩,
    ⟨.balanceSuspect, rfl⟩, ⟨.auditDone, rfl⟩, ⟨.discrepancy, rfl⟩, ⟨.positionLost, rfl⟩, ⟨.groupFault, rfl⟩,
    ⟨.portFault, rfl⟩, ⟨.stationFault, rfl⟩, ⟨.hold, rfl⟩]

theorem ne_zero_iff_getLsbD {w : Nat} (x : BitVec w) : x ≠ 0#w ↔ ∃ i, i < w ∧ x.getLsbD i = true := by
  constructor
  · intro hx
    by_contra hc
    refine hx (BitVec.eq_of_getLsbD_eq fun i hi => ?_)
    rw [BitVec.getLsbD_zero]
    simpa using fun h => hc ⟨i, hi, h⟩
  · rintro ⟨i, -, h⟩ rfl
    rw [BitVec.getLsbD_zero] at h
    cases h

/-- ATTN is low exactly while a flag is both set and enabled, once sampling has ended. -/
theorem attnLow_iff (h : s.link.sampled = true) :
    s.attnLow = true ↔ ∃ e, s.flagSet e = true ∧ s.link.mask.getLsbD (eventBit e) = true := by
  unfold State.attnLow State.flagSet
  rw [h, Bool.true_and, bne_iff_ne, ne_zero_iff_getLsbD]
  constructor
  · rintro ⟨i, hi, hb⟩
    obtain ⟨e, rfl⟩ := eventBit_surj hi
    exact ⟨e, by simpa [BitVec.getLsbD_and] using hb⟩
  · rintro ⟨e, he⟩
    exact ⟨eventBit e, eventBit_lt e, by simpa [BitVec.getLsbD_and] using he⟩

/-- The flags named are cleared, and the others stay. -/
theorem clearFlags_getLsbD (n : Nat) (flags : BitVec 13) (e : Event) :
    (clearFlags (BitVec.ofNat 13 n) flags).getLsbD (eventBit e) = (flags.getLsbD (eventBit e) && !n.testBit (eventBit e)) := by
  unfold clearFlags
  rw [BitVec.getLsbD_and, BitVec.getLsbD_not, BitVec.getLsbD_ofNat]
  simp [eventBit_lt e]

/-! ## The watchdog's codes -/

theorem watchdogTimeout_of_le {n : Nat} (h : n ≤ 5) : watchdogTimeout n = some (500 * 2 ^ n) := by
  interval_cases n <;> rfl

theorem watchdogTimeout_seven : watchdogTimeout 7 = none := rfl

/-! ## HOLD entry (R12, R68, R167) -/

/-- A group as HOLD entry leaves it, by the level of its RUN line. -/
def Group.held (grp : Group) (run : Bool) : Group :=
  if grp.state = .referencing ∧ run then { grp with markCount := 0, stallTimer := none } else grp.holdEntry run

/-- A channel as HOLD entry leaves it. -/
def Channel.held (ch : Channel) (grp : Option Group) : Channel :=
  match grp with
  | some grp => if grp.state = .referencing ∧ ch.run then { ch with run := false, speed := .creep } else ch
  | none => ch

theorem holdGroup_none {g : Index} (h : s.groups.get g = none) : holdGroup s g = s := by
  unfold holdGroup
  rw [h]

theorem holdGroup_some {g : Index} {grp : Group} (h : s.groups.get g = some grp) :
    holdGroup s g = { s with
      groups := s.groups.set g (some (grp.held (s.channels.get g).run))
      channels := s.channels.set g ((s.channels.get g).held (some grp)) } := by
  unfold holdGroup Group.held Channel.held
  rw [h]
  dsimp only
  by_cases hc : grp.state = .referencing ∧ (s.channels.get g).run = true
  · simp only [if_pos hc, lowerRun_eq]
    have he : grp.holdEntry (s.channels.get g).run = { grp with markCount := 0 } := by
      unfold Group.holdEntry
      simp [hc.1, hc.2]
    rw [he]
    simp [State.setGroup]
  · simp only [if_neg hc]
    rw [Quad.set_get]
    rfl

/-- HOLD entry at every group. -/
theorem holdAll_get (s : State) (g : Index) :
    (allIndices.foldl holdGroup s).groups.get g = (s.groups.get g).map (·.held (s.channels.get g).run)
      ∧ (allIndices.foldl holdGroup s).channels.get g = (s.channels.get g).held (s.groups.get g) := by
  have := foldl_allIndices (fun s g => (s.groups.get g, s.channels.get g)) holdGroup
    (fun _ q => (q.1.map (·.held q.2.run), q.2.held q.1)) (fun s g => ?_) (fun s g h hne => ?_) s g
  · exact ⟨congrArg Prod.fst this, congrArg Prod.snd this⟩
  · cases hg : s.groups.get g with
    | none => simp [holdGroup_none hg, hg, Channel.held]
    | some grp => simp [holdGroup_some hg]
  · cases hg : s.groups.get g with
    | none => rw [holdGroup_none hg]
    | some grp =>
      rw [holdGroup_some hg]
      simp [Quad.get_set_ne _ _ hne]

/-- HOLD entry changes groups and channels alone. -/
theorem holdAll_spec (s : State) : ∃ gs cs, allIndices.foldl holdGroup s = { s with groups := gs, channels := cs } := by
  refine List.foldlRecOn allIndices holdGroup (motive := fun t => ∃ gs cs, t = { s with groups := gs, channels := cs })
    ⟨s.groups, s.channels, rfl⟩ ?_
  rintro t ⟨gs, cs, rfl⟩ g -
  cases hg : gs.get g with
  | none => exact ⟨gs, cs, holdGroup_none hg⟩
  | some grp => exact ⟨_, _, holdGroup_some hg⟩

end Sys2Proof.Machine

namespace Sys2Proof.Certificates

open Sys2Proof Sys2Proof.Machine

/-- Settles O8. -/
theorem linkSettingsAndFlags : Obligations.LinkSettingsAndFlags := by
  refine ⟨fun p s hs hp hm => ?_, fun p s hs hp hm => ?_⟩
  · have he := exec_request setLinkRequest hs (c := .setLink p) rfl (by omega) (by simp [hp]) (if_pos hm)
    rw [he]
    change (_ → Host.Outcome.next (answer 0x03#8 (runSetLink p s.heard)) = _)
      ∧ (_ → Host.Outcome.next (answer 0x03#8 (runSetLink p s.heard)) = _)
    refine ⟨fun hc => ?_, fun hc => ?_⟩
    · have hbad : ((readLink p).code ≤ 5 || (readLink p).code == 7) = false := by
        change (decide (byteAt p 0 ≤ 5) || byteAt p 0 == 7) = false
        rw [Bool.or_eq_false_iff, decide_eq_false_iff_not, beq_eq_false_iff_ne]
        omega
      simp only [runSetLink, checked, firstFailure, hbad, Bool.false_eq_true, if_false]
      rfl
    · have hgood : ((readLink p).code ≤ 5 || (readLink p).code == 7) = true := by
        change (decide (byteAt p 0 ≤ 5) || byteAt p 0 == 7) = true
        rw [Bool.or_eq_true, decide_eq_true_iff, beq_iff_eq]
        exact hc
      have hmask : decide ((readLink p).mask < 8192) = true := decide_eq_true hm
      simp only [runSetLink, checked, firstFailure, hgood, hmask, if_true, answer_accept]
      have hto : watchdogTimeout (byteAt p 0) = if byteAt p 0 = 7 then none else some (500 * 2 ^ byteAt p 0) := by
        rcases hc with hc | hc
        · rw [watchdogTimeout_of_le hc, if_neg (by omega)]
        · rw [hc]; rfl
      rw [← hto]
      rfl
  · refine ⟨clearFlags (BitVec.ofNat 13 (wordAt p 0)) s.link.flags, ?_, fun e => clearFlags_getLsbD _ _ e,
      fun hsamp t ht => ?_⟩
    all_goals
      have he : exec (.ackEvents p) s = .next ((s.heard.setLink { s.heard.link with
          flags := clearFlags (BitVec.ofNat 13 (wordAt p 0)) s.link.flags }).replying 0x04#8
            (u16 (clearFlags (BitVec.ofNat 13 (wordAt p 0)) s.link.flags).toNat)) := by
        rw [exec_request ackEventsRequest hs (c := .ackEvents p) rfl (by omega) (by simp [hp]) (if_pos hm)]
        change Host.Outcome.next (answer 0x04#8 (runAckEvents p s.heard)) = _
        simp only [runAckEvents, checked, firstFailure, hm, decide_true, if_true]
        rfl
    · exact he
    · rw [he] at ht
      cases ht
      exact attnLow_iff hsamp

/-- Settles O9. -/
theorem resumeEndsHold : Obligations.ResumeEndsHold := by
  intro s b hs
  refine ⟨resumeDevice s.heard, ?_, ?_⟩
  · cases hm : s.link.mode <;> simp only [resumeDevice, heard_link, Link.heard_mode, Link.heard_wdCode, hm]
  · cases b
    · refine (exec_request resumeRequest hs rfl (by simp) rfl rfl).trans ?_
      cases hm : s.link.mode <;> simp only [resumeRequest, heard_link, Link.heard_mode, hm] <;> rfl
    · exact congrArg Host.Outcome.next (broadcast_of_listens hs resumeRequest (p := []) (by simp) rfl rfl rfl)

/-- Settles O10: HOLD entry at each group (`holdAll_get`), after which the engine follows RUN. -/
theorem watchdogExpiryEntersHold : Obligations.WatchdogExpiryEntersHold := by
  intro s hw hsamp
  obtain ⟨n, hn⟩ := Option.isSome_iff_exists.mp hw
  have he : exec .watchdogExpiry s = .next (followRun (allIndices.foldl holdGroup
      (raiseEvent .hold (s.setLink { s.link with mode := .hold, wdTimer := none })))) := by
    change Host.Outcome.next _ = _
    rw [hn]
  obtain ⟨gs, cs, hall⟩ := holdAll_spec (raiseEvent .hold (s.setLink { s.link with mode := .hold, wdTimer := none }))
  have hget := fun g => holdAll_get (raiseEvent .hold (s.setLink { s.link with mode := .hold, wdTimer := none })) g
  obtain ⟨e, hfol, -⟩ := followRun_spec (allIndices.foldl holdGroup
      (raiseEvent .hold (s.setLink { s.link with mode := .hold, wdTimer := none })))
  have hgroups : ∀ g, (followRun (allIndices.foldl holdGroup (raiseEvent .hold (s.setLink { s.link with
      mode := .hold, wdTimer := none })))).groups.get g = (s.groups.get g).map (·.held (s.channels.get g).run) := fun g => by
    rw [followRun_groups_eq, (hget g).1]
    rfl
  have hchannels : ∀ g, (followRun (allIndices.foldl holdGroup (raiseEvent .hold (s.setLink { s.link with
      mode := .hold, wdTimer := none })))).channels.get g = (s.channels.get g).held (s.groups.get g) := fun g => by
    rw [followRun_channels, (hget g).2]
    rfl
  refine ⟨_, he, ?_, ?_, ?_, ?_, ?_, ?_, ?_, ?_, ?_, ?_, ?_, ?_, ?_, ?_, fun g => ⟨fun hg => ?_, fun grp hg => ?_⟩⟩
  · rw [followRun_link, hall]
    simp only [raiseEvent_link, setLink_link, hsamp, if_true]
    rfl
  · rw [followRun_carousels, hall]; rfl
  · rw [followRun_ports, hall]; rfl
  · rw [followRun_stores, hall]; rfl
  · rw [followRun_sched, hall]; rfl
  · rw [followRun_station, hall]; rfl
  · rw [hfol, hall]; rfl
  · rw [hfol, hall]; rfl
  · rw [hfol, hall]; rfl
  · rw [hfol, hall]; rfl
  · refine followRun_engine (followRun_channels _).symm ?_
    rw [hall]; rfl
  · rw [followRun_startSlot, hall]; rfl
  · rw [followRun_choices, hall]; rfl
  · rw [followRun_pending, hall]; rfl
  · rw [hgroups, hchannels, hg]
    exact ⟨rfl, rfl⟩
  · rw [hgroups, hchannels, hg]
    simp only [Option.map_some, Option.some.injEq]
    refine ⟨fun h => ?_, fun h hc => ?_, fun h m hc => ⟨fun hp => ?_, fun hp => ?_⟩, fun h hr => ⟨?_, ?_⟩, fun h => ?_, fun h => ?_⟩
    · simp [Group.held, Group.holdEntry, h]
    · simp [Group.held, Group.holdEntry, h, hc]
    · simp [Group.held, Group.holdEntry, h, hc, hp]
    · simp [Group.held, Group.holdEntry, h, hc, hp]
    · simp [Group.held, h, hr]
    · simp [Channel.held, h, hr]
    · rcases h with ⟨h, hr⟩ | h | h | h
      · simp [Group.held, Group.holdEntry, h, hr]
      · simp [Group.held, Group.holdEntry, h]
      · simp [Group.held, Group.holdEntry, h]
      · simp [Group.held, Group.holdEntry, h]
    · simp [Channel.held, h]

end Sys2Proof.Certificates

/-! SUPPORT. The state as power comes on, and the requests that only read (R28, R40, R58, R123, R138, R150, R160, R170, R171). -/

namespace Sys2Proof.Machine

open Sys2Proof

variable {s : State}

/-! ## The checks of a read -/

theorem firstFailure_cons_true (reason : Reason) (detail : Nat) (cs : List (Bool × Reason × Nat)) :
    firstFailure ((true, reason, detail) :: cs) = firstFailure cs := rfl

theorem firstFailure_cons_false (reason : Reason) (detail : Nat) (cs : List (Bool × Reason × Nat)) :
    firstFailure ((false, reason, detail) :: cs) = some (.nak reason detail) := rfl

/-! ## The state as power comes on -/

theorem reset_serviceGroup (x : Index) : State.reset.serviceGroup x = none := by
  cases h : State.reset.serviceGroup x with
  | none => rfl
  | some g =>
    obtain ⟨-, grp, hg, -⟩ := serviceGroup_eq_some.mp h
    simp [State.reset] at hg

theorem stockSound_reset : StockSound State.reset where
  members g grp hg := by simp [State.reset] at hg
  slots x h := by simp [State.reset, Carousel.powerOn] at h
  quiet x _ e he := by simp [State.reset, Carousel.powerOn, SlotMap.walk, numbered] at he
  serving x h := absurd (reset_serviceGroup x) h
  infeed p h := by simp [State.reset, Port.powerOn] at h
  store p h := by simp [State.reset, Port.powerOn] at h
  inserting p j h := by simp [State.reset, Port.powerOn] at h
  extracting p j h := by simp [State.reset, Port.powerOn] at h

theorem heldTags_reset : State.reset.heldTags = [] := by decide

/-! ## The reads -/

theorem exec_balanceRead {p : List Byte} {g : Index} {grp : Group} (h : s.Listens) (hp : p.length = 3)
    (hx : byteAt p 0 = g.val) (hg : s.groups.get g = some grp) :
    exec (.balanceRead p) s = .next (answer 0x17#8 (checked s.heard
      [(decide (byteAt p 1 < (s.geometry g).carriers), .range, 1), (decide (1 ≤ byteAt p 2 ∧ byteAt p 2 ≤ 16), .range, 2)]
      (s.heard, .ack (balanceBytes s.heard g grp (byteAt p 1) (byteAt p 2))))) := by
  rw [exec_request balanceReadRequest h rfl (by omega) (by simp [hp]) rfl]
  change Host.Outcome.next (answer 0x17#8 (runBalanceRead p s.heard)) = _
  simp only [runBalanceRead, readBalance, hx]
  rw [withGroup_val (s := s.heard) hg]
  rfl

theorem exec_mapRead {p : List Byte} (h : s.Listens) (hp : p.length = 4) :
    exec (.mapRead p) s = .next (answer 0x23#8 (runMapRead p s.heard)) :=
  exec_request mapReadRequest h rfl (by omega) (by simp [hp]) rfl

theorem exec_slotQuery {p : List Byte} (h : s.Listens) (hp : p.length = 3) :
    exec (.slotQuery p) s = .next (answer 0x24#8 (runSlotQuery p s.heard)) :=
  exec_request slotQueryRequest h rfl (by omega) (by simp [hp]) rfl

theorem exec_auditQuery {p : List Byte} (h : s.Listens) (hp : p.length = 1) :
    exec (.auditQuery p) s = .next (answer 0x4A#8 (runAuditQuery p s.heard)) :=
  exec_request auditQueryRequest h rfl (by omega) (by simp [hp]) rfl

theorem exec_orderQuery {p : List Byte} (h : s.Listens) (hp : p.length = 4) :
    exec (.orderQuery p) s = .next (answer 0x3A#8 (runOrderQuery p s.heard)) :=
  exec_request orderQueryRequest h rfl (by omega) (by simp [hp]) rfl

theorem exec_stationQuery (h : s.Listens) (b : Byte) :
    exec (.stationQuery [b]) s = .next (answer 0x42#8 (match stationSection s.station b.toNat with
      | some bytes => (s.heard, .ack bytes)
      | none => refuse s.heard .range 0)) := by
  rw [exec_request stationQueryRequest h rfl (by simp) rfl rfl]
  rfl

/-- The name of a slot at a carousel: the first of its checks that fails. -/
theorem firstFailure_slotName (s : State) (x : Index) (c l : Nat) (cs : List (Bool × Reason × Nat)) :
    firstFailure (slotNameChecks s x c l ++ cs) =
      if (s.carousels.get x).map.state = .absent then some (.nak .state 0xFF)
      else if s.carriersOf x ≤ c then some (.nak .range 1)
      else if s.levelsOf x ≤ l then some (.nak .range 2)
      else firstFailure cs := by
  simp only [slotNameChecks, List.cons_append, List.nil_append, firstFailure, bne_iff_ne, decide_eq_true_eq]
  by_cases h1 : (s.carousels.get x).map.state = .absent <;> by_cases h2 : s.carriersOf x ≤ c <;>
    by_cases h3 : s.levelsOf x ≤ l <;> simp [h1, h2, h3, Nat.not_lt.mpr, Nat.lt_of_not_le]

theorem runMapRead_at {p : List Byte} {x : Index} (hx : byteAt p 0 = x.val) (s : State) :
    runMapRead p s = checked s (slotNameChecks s x (byteAt p 1) (byteAt p 2)
        ++ [(decide (1 ≤ byteAt p 3 ∧ byteAt p 3 ≤ 12), .range, 3)])
      (s, .ack (u8 (s.carousels.get x).map.state.code ++ findingBytes (s.carousels.get x).map.finding
        ++ u8 (readSlots (s.carousels.get x).map (s.levelsOf x) (byteAt p 1) (byteAt p 2) (byteAt p 3)).length
        ++ (readSlots (s.carousels.get x).map (s.levelsOf x) (byteAt p 1) (byteAt p 2) (byteAt p 3)).flatMap
          fun (c, l, sl) => imageBytes c l sl)) := by
  simp only [runMapRead, readMapRead, hx, withCarousel_val]

theorem runSlotQuery_at {p : List Byte} {x : Index} (hx : byteAt p 0 = x.val) (s : State) :
    runSlotQuery p s = checked s (slotNameChecks s x (byteAt p 1) (byteAt p 2) ++ [])
      (s, .ack (slotBytes (s.carousels.get x).map.state (byteAt p 1) (byteAt p 2)
        ((s.slot? x (byteAt p 1) (byteAt p 2)).getD emptySlot))) := by
  simp only [runSlotQuery, readSlotName, hx, withCarousel_val, List.append_nil]

theorem laneOf_index (i : Index) : laneOf (i.val + 1) = some (.order i) := by fin_cases i <;> rfl

end Sys2Proof.Machine

namespace Sys2Proof.Certificates

open Sys2Proof Sys2Proof.Machine

/-- Settles O2. -/
theorem powerOnAndSampling : Obligations.PowerOnAndSampling := by
  refine ⟨fun s => ⟨_, rfl, ?_⟩, ⟨?_, ?_, ?_, ?_, ?_, ?_, stockSound_reset, ?_, ?_⟩,
    fun as1 as0 br1 br0 conv s hlen => ⟨fun h => ?_, fun h hc => ⟨sampledAddress as1 as0 conv, ?_, ?_, rfl⟩⟩⟩
  · refine ⟨rfl, rfl, rfl, rfl, rfl, rfl, rfl, rfl, rfl, rfl, fun x => ?_, fun g => ?_, fun p => ?_, rfl, rfl, rfl, rfl, rfl, rfl,
      rfl, rfl, rfl, rfl, rfl, rfl, rfl, rfl, fun i => ?_, rfl, rfl, fun x => ?_, rfl, rfl, rfl, rfl, rfl⟩
    · simp [State.reset, Carousel.powerOn]
    · simp [State.reset, Channel.powerOn]
    · simp [State.reset, Port.powerOn]
    · exact Quad.get_fill _ i
    · exact Quad.get_fill _ x
  · exact linkInv_powerOn
  · exact driveInv_powerOn (Quad.fill Channel.powerOn) (fun g => by simp [Channel.powerOn]) rfl rfl rfl
  · refine ⟨fun p => ?_, fun p => ?_⟩
    · rw [show State.reset.ports.get p = Port.powerOn from Quad.get_fill _ p]
      exact portSound_powerOn Port.powerOn rfl
    · simp [State.reset, Station.powerOn, Port.powerOn]
  · exact stationInv_powerOn
  · exact balanceInv_powerOn rfl rfl
  · exact counterInv_powerOn 0 []
  · unfold TagLaw
    rw [heldTags_reset]
    exact List.nodup_nil
  · intro g grp hg
    simp [State.reset] at hg
  · change Host.Outcome.next _ = _
    rw [if_pos h]
  · change Host.Outcome.next _ = _
    rw [if_neg (by simp [h]), hc]
    rfl
  · have hsum : (conv.map BitVec.toNat).sum ≤ conv.length * 1023 := by
      have := List.sum_le_card_nsmul (conv.map BitVec.toNat) 1023 fun n hn => by
        obtain ⟨v, -, rfl⟩ := List.mem_map.mp hn
        omega
      simpa using this
    have h1 := as1.toNat_le
    have h2 := as0.toNat_le
    unfold sampledAddress
    omega

/-- Settles O11: each read is refused at the first check that fails, and else answers its record. -/
theorem readsChangeNothing : Obligations.ReadsChangeNothing := by
  intro s hs
  refine ⟨?_, ?_, fun p g grp hp hx hg => ?_, fun p hx => ⟨fun hp => ?_, fun hp => ?_, fun hp => ?_⟩, fun p x hx => ?_,
    fun p x hp hx hm hc hl h1 h12 => ⟨_, ?_, rfl⟩, fun p x sl hp hx hm hc hl hsl => ?_, fun p i o hp ho => ?_,
    fun p hp ho => ?_, ?_, fun i => ?_, ?_, fun b hb => ?_, fun x => ?_⟩
  · refine (exec_request identRequest hs rfl (by simp) rfl rfl).trans ?_
    change Host.Outcome.next (s.heard.replying 0x01#8 (identBytes s.heard)) = _
    simp only [identBytes, u8, heard_link, Link.heard_address, Link.heard_baud, BitVec.ofNat_toNat]
    rfl
  · exact exec_request statusRequest hs rfl (by simp) rfl rfl
  · have he := exec_balanceRead hs hp hx hg
    refine ⟨fun h => ?_, fun h => ⟨fun hc => ?_, fun h1 h2 => ?_⟩⟩
    · rw [he, checked_fail _ (reason := .range) (detail := 1)]
      · rfl
      · simp [firstFailure, Nat.not_lt.mpr h]
    · rw [he, checked_fail _ (reason := .range) (detail := 2)]
      · rfl
      · have : ¬(1 ≤ byteAt p 2 ∧ byteAt p 2 ≤ 16) := by omega
        simp [firstFailure, h, this]
    · rw [he, checked_pass (by simp [h, h1, h2])]
      rfl
  · rw [exec_mapRead hs hp]
    simp only [runMapRead, readMapRead]
    rw [withCarousel_of_le hx]
    rfl
  · rw [exec_slotQuery hs hp]
    simp only [runSlotQuery, readSlotName]
    rw [withCarousel_of_le hx]
    rfl
  · rw [exec_auditQuery hs hp]
    unfold runAuditQuery
    rw [withCarousel_of_le hx]
    rfl
  · have read : ∀ {reason : Reason} {detail : Nat}, p.length = 4 →
        firstFailure (slotNameChecks s x (byteAt p 1) (byteAt p 2)
          ++ [(decide (1 ≤ byteAt p 3 ∧ byteAt p 3 ≤ 12), .range, 3)]) = some (.nak reason detail) →
        exec (.mapRead p) s = .next (s.heard.refusing 0x23#8 reason detail) := fun hp hf => by
      rw [exec_mapRead hs hp, runMapRead_at hx, checked_fail _ (by exact hf), answer_refuse]
    have query : ∀ {reason : Reason} {detail : Nat}, p.length = 3 →
        firstFailure (slotNameChecks s x (byteAt p 1) (byteAt p 2) ++ []) = some (.nak reason detail) →
        exec (.slotQuery p) s = .next (s.heard.refusing 0x24#8 reason detail) := fun hp hf => by
      rw [exec_slotQuery hs hp, runSlotQuery_at hx, checked_fail _ (by exact hf), answer_refuse]
    simp only [firstFailure_slotName] at read query
    refine ⟨fun hm => ⟨fun hp => read hp (if_pos hm), fun hp => query hp (if_pos hm)⟩, fun hm =>
      ⟨fun hc => ⟨fun hp => read hp ?_, fun hp => query hp ?_⟩, fun hc hl => ⟨fun hp => read hp ?_, fun hp => query hp ?_⟩,
        fun hc hl hp hcount => read hp ?_⟩⟩
    · rw [if_neg hm, if_pos hc]
    · rw [if_neg hm, if_pos hc]
    · rw [if_neg hm, if_neg (Nat.not_le.mpr hc), if_pos hl]
    · rw [if_neg hm, if_neg (Nat.not_le.mpr hc), if_pos hl]
    · have : ¬(1 ≤ byteAt p 3 ∧ byteAt p 3 ≤ 12) := by omega
      rw [if_neg hm, if_neg (Nat.not_le.mpr hc), if_neg (Nat.not_le.mpr hl)]
      simp [firstFailure, this]
  · have hpass : firstFailure (slotNameChecks s x (byteAt p 1) (byteAt p 2)
        ++ [(decide (1 ≤ byteAt p 3 ∧ byteAt p 3 ≤ 12), .range, 3)]) = none := by
      rw [firstFailure_slotName, if_neg hm, if_neg (Nat.not_le.mpr hc), if_neg (Nat.not_le.mpr hl)]
      simp [firstFailure, h1, h12]
    rw [exec_mapRead hs hp, runMapRead_at hx, checked_pass (firstFailure_none_iff.mp (by exact hpass)), answer_ack]
    simp only [readSlots, List.length_take, List.length_drop]
    rfl
  · have hpass : firstFailure (slotNameChecks s x (byteAt p 1) (byteAt p 2) ++ []) = none := by
      rw [firstFailure_slotName, if_neg hm, if_neg (Nat.not_le.mpr hc), if_neg (Nat.not_le.mpr hl)]
      rfl
    rw [exec_slotQuery hs hp, runSlotQuery_at hx, checked_pass (firstFailure_none_iff.mp (by exact hpass)), answer_ack,
      heard_slot, hsl]
    rfl
  · rw [exec_orderQuery hs hp]
    simp only [runOrderQuery, heard_findOrder, ho]
    rfl
  · rw [exec_orderQuery hs hp]
    simp only [runOrderQuery, heard_findOrder, ho]
    rfl
  · exact exec_stationQuery hs 0#8
  · have hb : (BitVec.ofNat 8 (i.val + 1)).toNat = i.val + 1 := by
      simp only [BitVec.toNat_ofNat]
      omega
    have hsec : stationSection s.station (i.val + 1) = some (laneBytes (s.station.lanes.get i)) := by
      unfold stationSection
      rw [if_neg (Nat.succ_ne_zero _), laneOf_index]
    rw [exec_stationQuery hs, hb, hsec]
    rfl
  · exact exec_stationQuery hs 5#8
  · have hsec : stationSection s.station b.toNat = none := by
      have hl : laneOf b.toNat = none := by
        unfold laneOf indexOf
        rw [if_neg (by omega), if_neg (by omega), dif_neg (by omega)]
        rfl
      unfold stationSection
      rw [if_neg (by omega), hl]
    rw [exec_stationQuery hs, hsec]
    rfl
  · rw [exec_auditQuery hs rfl]
    simp only [runAuditQuery, byteAt_ofNat_index, withCarousel_val]
    rfl

end Sys2Proof.Certificates

/-! SUPPORT. Checks made in order (R163), and the requests that configure carousels and groups (R4, R5, R7, R8, R11). -/

namespace Sys2Proof.Machine

open Sys2Proof

variable {s : State}

/-! ## Checks made in order -/

/-- The first field that is not accepted is the one refused, where each field has one check. -/
theorem firstFailure_fields {cs : List (Bool × Reason × Nat)} {Ok : Nat → Prop} {n : Nat} (hlen : cs.length = n)
    (h : ∀ j, j < n → ∃ ok, cs[j]? = some (ok, .range, j) ∧ (ok = true ↔ Ok j)) {i : Nat} (hpre : ∀ j, j < i → Ok j)
    (hi : ¬Ok i) (hin : i < n) : firstFailure cs = some (.nak .range i) := by
  obtain ⟨ok, hget, hok⟩ := h i hin
  have hfalse : ok = false := by
    rw [← Bool.not_eq_true, hok]
    exact hi
  subst hfalse
  have hsplit : cs = cs.take i ++ (false, .range, i) :: cs.drop (i + 1) := by
    obtain ⟨hlt, he⟩ := List.getElem?_eq_some_iff.mp hget
    rw [← he, List.getElem_cons_drop, List.take_append_drop]
  rw [hsplit, firstFailure_append]
  have hnone : firstFailure (cs.take i) = none := firstFailure_none_iff.mpr fun c hc => by
    obtain ⟨j, hj⟩ := List.mem_iff_getElem?.mp hc
    rw [List.getElem?_take] at hj
    split at hj
    · rename_i hlt
      obtain ⟨ok', hget', hok'⟩ := h j (hlt.trans hin)
      rw [hget'] at hj
      cases hj
      exact hok'.mpr (hpre j hlt)
    · cases hj
  rw [hnone]
  rfl

/-- Where every field is accepted no check fails. -/
theorem firstFailure_fields_pass {cs : List (Bool × Reason × Nat)} {Ok : Nat → Prop} {n : Nat} (hlen : cs.length = n)
    (h : ∀ j, j < n → ∃ ok, cs[j]? = some (ok, .range, j) ∧ (ok = true ↔ Ok j)) (hall : ∀ j, Ok j) :
    firstFailure cs = none := by
  refine firstFailure_none_iff.mpr fun c hc => ?_
  obtain ⟨j, hj⟩ := List.mem_iff_getElem?.mp hc
  obtain ⟨hlt, -⟩ := List.getElem?_eq_some_iff.mp hj
  obtain ⟨ok, hget, hok⟩ := h j (hlen ▸ hlt)
  rw [hget] at hj
  cases hj
  exact hok.mpr (hall j)

/-- One check of each member: the first that fails it is named. -/
theorem firstFailure_memberChecks (ms : List Index) (reason : Reason) (ok : Index → Bool) :
    firstFailure (memberChecks ms reason ok) = (ms.find? fun x => !ok x).map fun x => .nak reason x.val := by
  induction ms with
  | nil => rfl
  | cons x xs ih =>
    unfold memberChecks at ih ⊢
    cases h : ok x <;> simp [firstFailure, h, ih]

theorem find?_none_of_all {ms : List Index} {ok : Index → Bool} (h : ∀ x ∈ ms, ok x = true) :
    (ms.find? fun x => !ok x) = none := by
  rw [List.find?_eq_none]
  intro x hx
  simp [h x hx]

theorem withGroup_of_le {n : Nat} (hn : 4 ≤ n) (s : State) (body : Index → Group → State × Answer) :
    withGroup n s body = refuse s .range 0 := by
  have hnone : indexOf n = none := dif_neg (by omega)
  simp [withGroup, hnone]

theorem withGroup_none {g : Index} (hg : s.groups.get g = none) (body : Index → Group → State × Answer) :
    withGroup g.val s body = refuse s .notFound 0xFF := by
  simp [withGroup, hg]

theorem byteAt_ofNat {n : Nat} (hn : n < 256) (p : List Byte) : byteAt (BitVec.ofNat 8 n :: p) 0 = n := by
  simpa [byteAt] using hn

/-! ## SET_CAROUSEL (R4, R5) -/

/-- Each field of SET_CAROUSEL has one check. -/
theorem carouselFieldChecks_get (r : CarouselRequest) (j : Nat) (hj : j < 13) :
    ∃ ok, (carouselFieldChecks r)[j]? = some (ok, .range, j) ∧ (ok = true ↔ carouselFieldOk r j) := by
  have limit : ∀ l limit, (levelLimitOk r.levels l limit = true ↔
      if l < r.levels then 50 ≤ limit ∧ limit ≤ 800 else limit = 0) := fun l limit => by
    unfold levelLimitOk
    split <;> simp
  interval_cases j
  · exact ⟨_, rfl, by simp only [decide_eq_true_eq, carouselFieldOk]; omega⟩
  · exact ⟨_, rfl, by simp only [decide_eq_true_eq, carouselFieldOk]; omega⟩
  · exact ⟨_, rfl, decide_eq_true_iff⟩
  · exact ⟨_, rfl, decide_eq_true_iff⟩
  · exact ⟨_, rfl, by simp only [decide_eq_true_eq, carouselFieldOk]⟩
  · exact ⟨_, rfl, by simp only [decide_eq_true_eq, carouselFieldOk]⟩
  · exact ⟨_, rfl, by simp only [decide_eq_true_eq, carouselFieldOk]⟩
  · exact ⟨_, rfl, limit 0 _⟩
  · exact ⟨_, rfl, limit 1 _⟩
  · exact ⟨_, rfl, limit 2 _⟩
  · exact ⟨_, rfl, limit 3 _⟩
  · exact ⟨_, rfl, limit 4 _⟩
  · exact ⟨_, rfl, limit 5 _⟩

theorem carouselFieldOk_of_le (r : CarouselRequest) {i : Nat} (h : 13 ≤ i) : carouselFieldOk r i := by
  obtain ⟨k, rfl⟩ := Nat.exists_eq_add_of_le h
  rw [Nat.add_comm]
  change if k + 13 ≤ 12 then
    if k + 13 - 7 < r.levels then 50 ≤ r.limits.getD (k + 13 - 7) 0 ∧ r.limits.getD (k + 13 - 7) 0 ≤ 800
    else r.limits.getD (k + 13 - 7) 0 = 0
  else True
  rw [if_neg (by omega)]
  trivial

theorem carouselFieldChecks_pass {r : CarouselRequest} (h : ∀ j, carouselFieldOk r j) :
    firstFailure (carouselFieldChecks r) = none :=
  firstFailure_fields_pass rfl (carouselFieldChecks_get r) h

theorem exec_setCarousel {p : List Byte} (h : s.Listens) (hp : p.length = 21) :
    exec (.setCarousel p) s = .next (answer 0x10#8 (runSetCarousel p s.heard)) :=
  exec_request setCarouselRequest h rfl (by omega) (by simp [hp]) rfl

/-- SET_CAROUSEL past its field checks. -/
theorem runSetCarousel_at {p : List Byte} {x : Index} (h : ∀ j, carouselFieldOk (readCarousel p) j)
    (hx : byteAt p 0 = x.val) (s : State) : runSetCarousel p s = checked s (carouselGroupChecks s x (readCarousel p))
      (accept (configureCarousel x (readCarousel p).config s)) := by
  have hi : indexOf (readCarousel p).carousel = some x := by
    rw [show (readCarousel p).carousel = x.val from hx, indexOf_val]
  simp only [runSetCarousel, checked_pass (firstFailure_none_iff.mp (carouselFieldChecks_pass h)), hi]

theorem configureCarousel_eq (x : Index) (cfg : CarouselConfig) (s : State) :
    configureCarousel x cfg s = { s with
      carousels := s.carousels.set x
        { config := some cfg, map := (s.carousels.get x).map.reconfigured (s.carousels.get x).config cfg }
      groups := (configureCarousel x cfg s).groups } := by
  unfold configureCarousel
  dsimp only
  split
  · split
    · rw [modGroup_eq]; rfl
    · rfl
  · rfl

/-- The groups after SET_CAROUSEL: those that stood, but for the carousel's where C changes. -/
theorem configureCarousel_groups_same {x : Index} {cfg : CarouselConfig} (h : s.groupOf x = none
    ∨ ∀ o, (s.carousels.get x).config = some o → o.carriers = cfg.carriers) :
    (configureCarousel x cfg s).groups = s.groups := by
  unfold configureCarousel
  dsimp only
  split
  · rename_i g o hg ho
    rcases h with h | h
    · rw [h] at hg; cases hg
    · rw [if_neg (by simpa using h o ho)]
      rfl
  · rfl

theorem configureCarousel_groups_resized {x g : Index} {cfg o : CarouselConfig} {grp : Group} (hx : s.groupOf x = some g)
    (ho : (s.carousels.get x).config = some o) (hne : o.carriers ≠ cfg.carriers) (hg : s.groups.get g = some grp) :
    (configureCarousel x cfg s).groups = s.groups.set g (some (grp.resized cfg.carriers)) := by
  simp only [configureCarousel, hx, ho]
  rw [if_pos hne, modGroup_eq]
  simp [hg]

theorem carouselGroupChecks_pass {x : Index} {r : CarouselRequest} (h : s.serviceGroup x = none)
    (hc : ∀ y ∈ s.companions x, s.geometryOf y = r.config.geometry) : firstFailure (carouselGroupChecks s x r) = none := by
  refine firstFailure_none_iff.mpr ?_
  simp only [carouselGroupChecks, List.forall_mem_cons, List.all_eq_true, beq_iff_eq, h, Option.isNone_none]
  refine ⟨trivial, fun y hy => ?_, fun y hy => ?_, fun y hy => ?_, fun y hy => ?_, by simp⟩ <;> rw [hc y hy]

/-! ## SET_GROUP (R7, R8) -/

/-- The checks of the fields one by one, and then those between fields (log 28). -/
def groupOneFieldChecks (r : GroupRequest) : List (Bool × Reason × Nat) := (groupFieldChecks r).take 11

theorem groupFieldChecks_split (r : GroupRequest) : groupFieldChecks r = groupOneFieldChecks r
    ++ [(decide (r.lp ≤ r.ld), .range, 2), (decide (r.ls1 ≤ r.ls2), .range, 3), (decide (r.ls2 ≤ r.ld), .range, 4)] := rfl

theorem groupOneFieldChecks_get (r : GroupRequest) (j : Nat) (hj : j < 11) :
    ∃ ok, (groupOneFieldChecks r)[j]? = some (ok, .range, j) ∧ (ok = true ↔ groupFieldOk r j) := by
  interval_cases j
  · exact ⟨_, rfl, by simp only [decide_eq_true_eq, groupFieldOk]; omega⟩
  · exact ⟨_, rfl, by simp [groupFieldOk]⟩
  · exact ⟨_, rfl, by simp only [buOk, decide_eq_true_eq, groupFieldOk]⟩
  · exact ⟨_, rfl, by simp only [buOk, decide_eq_true_eq, groupFieldOk]⟩
  · exact ⟨_, rfl, by simp only [buOk, decide_eq_true_eq, groupFieldOk]⟩
  · exact ⟨_, rfl, by simp only [buOk, decide_eq_true_eq, groupFieldOk]⟩
  · exact ⟨_, rfl, by simp only [buOk, decide_eq_true_eq, groupFieldOk]⟩
  · exact ⟨_, rfl, by simp only [buOk, decide_eq_true_eq, groupFieldOk]⟩
  · exact ⟨_, rfl, by simp only [buOk, decide_eq_true_eq, groupFieldOk]⟩
  · exact ⟨_, rfl, by simp only [decide_eq_true_eq, groupFieldOk]⟩
  · exact ⟨_, rfl, by simp only [decide_eq_true_eq, groupFieldOk]; omega⟩

theorem groupFieldOk_of_le (r : GroupRequest) {i : Nat} (h : 11 ≤ i) : groupFieldOk r i := by
  obtain ⟨k, rfl⟩ := Nat.exists_eq_add_of_le h
  rw [Nat.add_comm]
  trivial

/-- The field checks once each field is accepted for itself. -/
theorem groupFieldChecks_of_ok {r : GroupRequest} (h : ∀ j, groupFieldOk r j) : firstFailure (groupFieldChecks r) =
    if r.ld < r.lp then some (.nak .range 2) else if r.ls2 < r.ls1 then some (.nak .range 3)
    else if r.ld < r.ls2 then some (.nak .range 4) else none := by
  rw [groupFieldChecks_split, firstFailure_append, firstFailure_fields_pass (n := 11) rfl (groupOneFieldChecks_get r) h]
  simp only [Option.orElse_none, firstFailure, decide_eq_true_eq, ← Nat.not_le]
  by_cases h1 : r.lp ≤ r.ld <;> by_cases h2 : r.ls1 ≤ r.ls2 <;> by_cases h3 : r.ls2 ≤ r.ld <;> simp [h1, h2, h3]

theorem exec_setGroup {p : List Byte} (h : s.Listens) (hp : p.length = 32) (hm : (readGroup p).members < 16) :
    exec (.setGroup p) s = .next (answer 0x11#8 (runSetGroup p s.heard)) :=
  exec_request setGroupRequest h rfl (by omega) (by simp [hp]) (if_pos hm)

/-- SET_GROUP past its field checks. -/
theorem runSetGroup_at {p : List Byte} {g : Index} (hf : firstFailure (groupFieldChecks (readGroup p)) = none)
    (hx : (readGroup p).group = g.val) (s : State) : runSetGroup p s = checked s (groupStateChecks s g (readGroup p).memberList)
      (accept (defineGroup g (readGroup p).memberList (readGroup p).params s)) := by
  have hi : indexOf (readGroup p).group = some g := by rw [hx, indexOf_val]
  simp only [runSetGroup, checked_pass (firstFailure_none_iff.mp hf), hi]

/-- The group checks of SET_GROUP as four runs of checks. -/
theorem groupStateChecks_split (s : State) (g : Index) (ms : List Index) : firstFailure (groupStateChecks s g ms) =
    ((((if s.groups.get g = none ∨ ∃ grp, s.groups.get g = some grp ∧ grp.state = .offline then none
        else some (.nak .state 0xFF) : Option Answer).orElse fun _ =>
      (ms.find? fun x => !(s.carousels.get x).config.isSome).map fun x => .nak .state x.val).orElse fun _ =>
      (ms.find? fun x => !((s.serviceGroup x).isNone || s.groupOf x == some g)).map fun x => .nak .state x.val).orElse fun _ =>
      (ms.find? fun x => !(some (s.geometryOf x) == ms.head?.map s.geometryOf)).map fun x => .nak .conflict x.val) := by
  unfold groupStateChecks
  rw [firstFailure_append, firstFailure_append, firstFailure_append, firstFailure_memberChecks, firstFailure_memberChecks,
    firstFailure_memberChecks]
  congr 3
  cases hg : s.groups.get g with
  | none => simp [firstFailure]
  | some grp => by_cases ho : grp.state = .offline <;> simp [firstFailure, ho]

theorem defineGroup_eq (g : Index) (ms : List Index) (ps : GroupParams) (s : State) : defineGroup g ms ps s = { s with
    groups := (defineGroup g ms ps s).groups, channels := s.channels.set g { s.channels.get g with dir := .forward } } := by
  have take : ∃ gs : Quad (Option Group), takeMembers g ms s = { s with groups := gs } := by
    refine List.foldlRecOn allIndices _ (motive := fun t => ∃ gs : Quad (Option Group), t = { s with groups := gs }) ⟨s.groups, rfl⟩ ?_
    rintro t ⟨gs, rfl⟩ h -
    split
    · exact ⟨gs, rfl⟩
    · split
      · exact ⟨_, rfl⟩
      · exact ⟨gs, rfl⟩
  obtain ⟨gs, hgs⟩ := take
  unfold defineGroup
  dsimp only
  rw [hgs]
  rfl

/-- What becomes of another group by how many of its members are taken (R8). -/
theorem without_none_taken {grp : Group} {ms : List Index} (h : ∀ x ∈ grp.members, x ∉ ms) : grp.without ms = some grp := by
  have : (grp.members.filter fun x => !ms.contains x) = grp.members := by
    rw [List.filter_eq_self]
    intro x hx
    simpa using h x hx
  unfold Group.without
  simp only [this, if_true]

theorem without_all_taken {grp : Group} {ms : List Index} (h : ∀ x ∈ grp.members, x ∈ ms) (hne : grp.members ≠ []) :
    grp.without ms = none := by
  have : (grp.members.filter fun x => !ms.contains x) = [] := by
    rw [List.filter_eq_nil_iff]
    intro x hx
    simpa using h x hx
  unfold Group.without
  simp only [this, if_neg hne.symm]
  rfl

theorem without_some_taken {grp : Group} {ms : List Index} (h : ∃ x ∈ grp.members, x ∈ ms) (hl : ∃ x ∈ grp.members, x ∉ ms) :
    grp.without ms = some { grp with members := grp.members.filter fun x => !ms.contains x, revolution := 0 } := by
  obtain ⟨x, hx, hm⟩ := h
  obtain ⟨y, hy, hn⟩ := hl
  have h1 : (grp.members.filter fun x => !ms.contains x) ≠ grp.members := fun e => by
    have := (List.filter_eq_self.mp e) x hx
    simp [hm] at this
  have h2 : (grp.members.filter fun x => !ms.contains x).isEmpty = false := by
    rw [List.isEmpty_eq_false_iff]
    exact List.ne_nil_of_mem (List.mem_filter.mpr ⟨hy, by simpa using hn⟩)
  unfold Group.without
  simp only [if_neg h1, h2, Bool.false_eq_true, if_false]

/-! ## COMMISSION (R11) -/

theorem exec_commission (h : s.Listens) {g : Index} {grp : Group} (hg : s.groups.get g = some grp) :
    exec (.commission [BitVec.ofNat 8 g.val]) s = .next (answer 0x12#8 (checked s.heard (commissionChecks s grp)
      (if peak (s.freshProfile g) ≤ grp.params.ld
        then accept (enterReferencing g (s.heard.setGroup g (some (grp.commissioned (s.freshProfile g)))))
        else (s.heard.setGroup g (some (grp.unloaded (s.geometry g).carriers)), .nak .balance 0xFF)))) := by
  rw [exec_request commissionRequest h rfl (by simp) rfl rfl]
  change Host.Outcome.next (answer 0x12#8 (runCommission _ s.heard)) = _
  unfold runCommission
  rw [byteAt_ofNat_index, withGroup_val (s := s.heard) hg]
  rfl

theorem commissionChecks_split (s : State) (grp : Group) : firstFailure (commissionChecks s grp) =
    ((((if grp.state = .offline then none else some (.nak .state 0xFF) : Option Answer).orElse fun _ =>
      (grp.members.find? fun x => !((s.carousels.get x).map.state == .committed)).map fun x => .nak .state x.val).orElse fun _ =>
      (grp.members.find? fun x => !(s.ports.get x).atRest).map fun x => .nak .state x.val).orElse fun _ =>
      if s.link.mode = .normal then none else some (.nak .notNormal 0xFF)) := by
  unfold commissionChecks
  rw [firstFailure_append, firstFailure_append, firstFailure_append, firstFailure_memberChecks, firstFailure_memberChecks]
  congr 3
  · by_cases ho : grp.state = .offline <;> simp [firstFailure, ho]
  · funext _
    by_cases ho : s.link.mode = .normal <;> simp [firstFailure, ho]

/-! ## CLEAR_FAULT (R19, R92, R134, R158) -/

/-- The four rows of CLEAR_FAULT send one request (log 12). -/
theorem exec_clearFault {c : Instr} {p : List Byte} (h : s.Listens)
    (hc : c = .clearFaultGroup p ∨ c = .clearFaultBalance p ∨ c = .clearFaultPort p ∨ c = .clearFaultStation p)
    (hp : p.length = 2) (hu : (readClear p).unusedSet = false) :
    exec c s = .next (answer 0x15#8 (runClearFault p s.heard)) := by
  refine exec_request clearFaultRequest h ?_ (by omega) (by simp [hp]) (if_neg (by simp [hu]))
  rcases hc with rfl | rfl | rfl | rfl <;> rfl

/-- The target of CLEAR_FAULT that is a group. -/
theorem groupTarget (g : Index) (b : Byte) : (readClear [BitVec.ofNat 8 g.val, b]).targetKind = 0
    ∧ (readClear [BitVec.ofNat 8 g.val, b]).targetIndex = g.val ∧ (readClear [BitVec.ofNat 8 g.val, b]).unusedSet = false := by
  have hb : (readClear [BitVec.ofNat 8 g.val, b]).target = g.val := byteAt_ofNat (by omega) [b]
  unfold ClearRequest.targetKind ClearRequest.targetIndex ClearRequest.unusedSet
  rw [hb]
  refine ⟨by omega, by omega, ?_⟩
  fin_cases g <;> decide

theorem runClearFault_fault (g : Index) (s : State) : runClearFault [BitVec.ofNat 8 g.val, 0#8] s =
    withGroup g.val s fun g grp => clearGroup g grp s := by
  obtain ⟨h1, h2, -⟩ := groupTarget g 0#8
  simp only [runClearFault, h1, h2, indexOf_val]
  rfl

theorem runClearFault_balance (g : Index) (s : State) : runClearFault [BitVec.ofNat 8 g.val, 1#8] s =
    withGroup g.val s fun g grp => clearBalance g grp s := by
  obtain ⟨h1, h2, -⟩ := groupTarget g 1#8
  simp only [runClearFault, h1, h2, indexOf_val]
  rfl

end Sys2Proof.Machine

/-! SUPPORT. The profiles computed from the maps, offset by offset (R42, R45), and the peak (R43). -/

namespace Sys2Proof.Machine

open Sys2Proof

variable {s : State}

theorem foldl_profile {α : Type} {f : List Int → α → List Int} {v : α → Int} {c k : Nat}
    (h : ∀ e a, e.length = c → (f e a).length = c ∧ (f e a).getD k 0 = e.getD k 0 + v a) (as : List α) {e : List Int}
    (he : e.length = c) : (as.foldl f e).length = c ∧ (as.foldl f e).getD k 0 = e.getD k 0 + (as.map v).sum := by
  induction as generalizing e with
  | nil => simp [he]
  | cons a as ih =>
    obtain ⟨h1, h2⟩ := h e a he
    obtain ⟨h3, h4⟩ := ih h1
    refine ⟨h3, ?_⟩
    rw [List.foldl_cons, h4, h2, List.map_cons, List.sum_cons, Int.add_assoc]

theorem map_numbered {α β : Type} (f : α → β) (n : Nat) (as : List α) : (numbered n as).map (fun p => f p.2) = as.map f := by
  induction as generalizing n with
  | nil => rfl
  | cons a as ih => simp [numbered, ih]

theorem sum_flatMap {α : Type} (f : α → List Int) (as : List α) : (as.flatMap f).sum = (as.map fun a => (f a).sum).sum := by
  induction as with
  | nil => rfl
  | cons a as ih => simp [ih]

/-- What a slot adds to a profile at an offset. -/
def slotLever (geo : Geometry) (mass : Slot → Int) (k c : Nat) (sl : Slot) : Int :=
  leverWeight geo.carriers geo.bend ((c + k) % geo.carriers) * mass sl

/-- The recorded mass of a HELD slot. -/
def Slot.heldMass (sl : Slot) : Int := if sl.content = .held then (sl.recorded : Int) else 0

/-- The moment of one map at an offset. -/
def mapMoment (geo : Geometry) (mass : Slot → Int) (m : SlotMap) (k : Nat) : Int :=
  (m.walk.map fun e => slotLever geo mass k e.1 e.2.2).sum

theorem slotMoment_eq (s : State) (g : Index) (mass : Slot → Int) (k : Nat) :
    slotMoment s g mass k = ((s.membersOf g).map fun x => mapMoment (s.geometry g) mass (s.carousels.get x).map k).sum := by
  unfold slotMoment mapMoment slotLever
  rw [sum_flatMap]

theorem mapMoment_eq (geo : Geometry) (mass : Slot → Int) (m : SlotMap) (k : Nat) :
    mapMoment geo mass m k = ((numbered 0 m.carriers).map fun q => (q.2.map (slotLever geo mass k q.1)).sum).sum := by
  unfold mapMoment SlotMap.walk
  rw [List.map_flatMap, sum_flatMap]
  congr 1
  refine List.map_congr_left fun q _ => ?_
  rw [List.map_map]
  exact congrArg List.sum (map_numbered (slotLever geo mass k q.1) 0 q.2)

theorem mapProfile_spec {geo : Geometry} (m : SlotMap) {k : Nat} (hk : k < geo.carriers) {e : List Int}
    (he : e.length = geo.carriers) : (mapProfile geo m.carriers e).length = geo.carriers
      ∧ (mapProfile geo m.carriers e).getD k 0 = e.getD k 0 + mapMoment geo Slot.heldMass m k := by
  rw [mapMoment_eq]
  refine foldl_profile (v := fun q : Nat × List Slot => (q.2.map (slotLever geo Slot.heldMass k q.1)).sum) (fun e q he => ?_) _ he
  refine foldl_profile (v := slotLever geo Slot.heldMass k q.1) (fun e sl he => ?_) _ he
  have hl : e.length = (massProfile geo q.1 (sl.recorded : Int)).length := by rw [he, massProfile_length]
  unfold slotLever Slot.heldMass
  split
  · rw [addProfile_length hl, addProfile_getD hl, massProfile_getD _ _ _ hk]
    exact ⟨he, rfl⟩
  · simp [he]

/-- The profile from scratch is the moment of the recorded masses of the HELD slots (R42, R45). -/
theorem freshProfile_spec (s : State) (g : Index) : (s.freshProfile g).length = (s.geometry g).carriers
    ∧ ∀ k, k < (s.geometry g).carriers → (s.freshProfile g).getD k 0 = heldMoment s g k := by
  have spec : ∀ k, k < (s.geometry g).carriers → (s.freshProfile g).length = (s.geometry g).carriers
      ∧ (s.freshProfile g).getD k 0 = heldMoment s g k := fun k hk => by
    have := foldl_profile (f := fun e x => mapProfile (s.geometry g) (s.carousels.get x).map.carriers e)
      (v := fun x => mapMoment (s.geometry g) Slot.heldMass (s.carousels.get x).map k)
      (fun e x he => mapProfile_spec _ hk he) (s.membersOf g) (zeroProfile_length (s.geometry g).carriers)
    rw [zeroProfile_getD, Int.zero_add, ← slotMoment_eq] at this
    exact this
  refine ⟨?_, fun k hk => (spec k hk).2⟩
  rcases Nat.eq_zero_or_pos (s.geometry g).carriers with h0 | hpos
  · have len : ∀ e : List Int, e.length = 0 → ∀ x, (mapProfile (s.geometry g) (s.carousels.get x).map.carriers e).length = 0 := by
      intro e he x
      unfold mapProfile
      refine List.foldlRecOn _ _ (motive := fun e : List Int => e.length = 0) he fun e he q _ =>
        List.foldlRecOn _ _ (motive := fun e : List Int => e.length = 0) he fun e he sl _ => ?_
      split
      · rw [addProfile_length (by rw [he, massProfile_length, h0]), he]
      · exact he
    rw [h0]
    refine List.foldlRecOn _ _ (motive := fun e : List Int => e.length = 0) (by simp [h0]) fun e he x _ => len e he x
  · exact (spec 0 hpos).1

/-- The peak of a profile is within a bound exactly where every value is. -/
theorem peak_le_iff {e : List Int} {n : Nat} : peak e ≤ n ↔ ∀ v ∈ e, v.natAbs ≤ n := by
  obtain ⟨-, h2, h3⟩ := foldl_max_spec Int.natAbs e 0
  refine ⟨fun h v hv => (h2 v hv).trans h, fun h => ?_⟩
  rcases h3 with h3 | ⟨v, hv, h3⟩
  · exact (show peak e = 0 from h3) ▸ Nat.zero_le n
  · exact (show v.natAbs = peak e from h3) ▸ h v hv

end Sys2Proof.Machine

namespace Sys2Proof.Certificates

open Sys2Proof Sys2Proof.Machine

/-- Settles O12: the checks of each request as runs of checks, and the first that fails. -/
theorem groupRequestsRefused : Obligations.GroupRequestsRefused := by
  refine ⟨fun p s hs hp => ⟨fun i hpre hi => ?_, fun hall x hx => ?_⟩, ?_, ?_, fun s g grp hs hg => ?_⟩
  · have hin : i < 13 := by
      by_contra hc
      exact hi (carouselFieldOk_of_le _ (by omega))
    rw [exec_setCarousel hs hp, runSetCarousel,
      checked_fail _ (firstFailure_fields (n := 13) rfl (carouselFieldChecks_get _) hpre hi hin), answer_refuse]
  · have fails : ∀ {reason : Reason} {detail : Nat},
        firstFailure (carouselGroupChecks s x (readCarousel p)) = some (.nak reason detail) →
        exec (.setCarousel p) s = .next (s.heard.refusing 0x10#8 reason detail) := fun hf => by
      rw [exec_setCarousel hs hp, runSetCarousel_at hall hx, checked_fail _ (by exact hf), answer_refuse]
    have same : ∀ f : Geometry → Nat, (s.companions x).all (fun y => f (s.geometryOf y) == f (readCarousel p).config.geometry)
        = true ↔ ∀ y ∈ s.companions x, f (s.geometryOf y) = f (readCarousel p).config.geometry := fun f => by simp
    have differs : ∀ f : Geometry → Nat, (∃ y ∈ s.companions x, f (s.geometryOf y) ≠ f (readCarousel p).config.geometry) →
        ¬(s.companions x).all (fun y => f (s.geometryOf y) == f (readCarousel p).config.geometry) = true := fun f h => by
      rw [same]
      simpa using h
    refine ⟨fun h => fails ?_, fun h => ⟨fun h1 => fails ?_, fun h1 h2 => fails ?_, fun h1 h3 => fails ?_, fun h1 h6 => fails ?_⟩⟩
    · have : (s.serviceGroup x).isNone = false := by
        obtain ⟨g, hg⟩ := Option.isSome_iff_exists.mp h
        rw [hg]
        rfl
      simp only [carouselGroupChecks, firstFailure, this, Bool.false_eq_true, if_false]
    all_goals
      have hn : (s.serviceGroup x).isNone = true := by
        rw [Option.isNone_iff_eq_none]
        simpa using h
      unfold carouselGroupChecks
      simp only [firstFailure, hn, if_true]
    · rw [if_neg (differs Geometry.carriers h1)]
    · rw [if_pos ((same Geometry.carriers).mpr h1), if_neg (differs Geometry.bend h2)]
    · rw [if_pos ((same Geometry.carriers).mpr fun y hy => (h1 y hy).1),
        if_pos ((same Geometry.bend).mpr fun y hy => (h1 y hy).2), if_neg (differs Geometry.port h3)]
    · rw [if_pos ((same Geometry.carriers).mpr fun y hy => (h1 y hy).1),
        if_pos ((same Geometry.bend).mpr fun y hy => (h1 y hy).2.1),
        if_pos ((same Geometry.port).mpr fun y hy => (h1 y hy).2.2), if_neg (differs Geometry.pulses h6)]
  · rintro p s r hs hp rfl hm
    have fails : ∀ {reason : Reason} {detail : Nat},
        firstFailure (groupFieldChecks (readGroup p)) = some (.nak reason detail) →
        exec (.setGroup p) s = .next (s.heard.refusing 0x11#8 reason detail) := fun hf => by
      rw [exec_setGroup hs hp hm, runSetGroup, checked_fail _ hf, answer_refuse]
    refine ⟨fun i hpre hi => fails ?_, fun hall => ⟨fun h => fails ?_, fun h1 h => fails ?_, fun h1 h2 h => fails ?_,
      fun h1 h2 h3 g hg => ?_⟩⟩
    · have hin : i < 11 := by
        by_contra hc
        exact hi (groupFieldOk_of_le _ (by omega))
      rw [groupFieldChecks_split, firstFailure_append,
        firstFailure_fields (n := 11) rfl (groupOneFieldChecks_get _) hpre hi hin]
      rfl
    · rw [groupFieldChecks_of_ok hall, if_pos h]
    · rw [groupFieldChecks_of_ok hall, if_neg (Nat.not_lt.mpr h1), if_pos h]
    · rw [groupFieldChecks_of_ok hall, if_neg (Nat.not_lt.mpr h1), if_neg (Nat.not_lt.mpr h2), if_pos h]
    · have hfields : firstFailure (groupFieldChecks (readGroup p)) = none := by
        rw [groupFieldChecks_of_ok hall, if_neg (Nat.not_lt.mpr h1), if_neg (Nat.not_lt.mpr h2), if_neg (Nat.not_lt.mpr h3)]
      have stateFails : ∀ {reason : Reason} {detail : Nat},
          firstFailure (groupStateChecks s g (readGroup p).memberList) = some (.nak reason detail) →
          exec (.setGroup p) s = .next (s.heard.refusing 0x11#8 reason detail) := fun hf => by
        rw [exec_setGroup hs hp hm, runSetGroup_at hfields hg, checked_fail _ (by exact hf), answer_refuse]
      simp only [groupStateChecks_split] at stateFails
      refine ⟨fun grp hgrp ho => stateFails ?_, fun hoff => ?_⟩
      · rw [if_neg]
        · rfl
        · rintro (h | ⟨b, hb, h⟩)
          · rw [hgrp] at h; cases h
          · cases hgrp.symm.trans hb
            exact ho h
      · have first : s.groups.get g = none ∨ ∃ grp, s.groups.get g = some grp ∧ grp.state = .offline := by
          cases hgrp : s.groups.get g with
          | none => exact .inl rfl
          | some grp => exact .inr ⟨grp, rfl, hoff grp hgrp⟩
        rw [if_pos first] at stateFails
        refine ⟨fun x hx => stateFails ?_, fun hcfg => ⟨fun x hx => stateFails ?_, fun hserve x lowest hl hx => stateFails ?_⟩⟩
        · have : (fun y => !(s.carousels.get y).config.isSome) = fun y => (s.carousels.get y).config.isNone := by
            funext y
            cases (s.carousels.get y).config <;> rfl
          rw [this, hx]
          rfl
        · rw [find?_none_of_all (ok := fun x => (s.carousels.get x).config.isSome) fun y hy =>
            Option.isSome_iff_ne_none.mpr (hcfg y hy)]
          have : (fun y => !((s.serviceGroup y).isNone || s.groupOf y == some g)) =
              fun y => (s.serviceGroup y).isSome && s.groupOf y != some g := by
            funext y
            cases s.serviceGroup y <;> simp [bne]
          rw [this, hx]
          rfl
        · rw [find?_none_of_all (ok := fun x => (s.carousels.get x).config.isSome) fun y hy =>
            Option.isSome_iff_ne_none.mpr (hcfg y hy),
            find?_none_of_all (ok := fun y => (s.serviceGroup y).isNone || s.groupOf y == some g) fun y hy => by
              simpa using hserve y hy]
          have : (fun y => !(some (s.geometryOf y) == (readGroup p).memberList.head?.map s.geometryOf)) =
              fun y => s.geometryOf y != s.geometryOf lowest := by
            funext y
            rw [hl]
            rfl
          rw [this, hx]
          rfl
  · rintro n p q s hs hn rfl rfl
    have hb : ∀ p, byteAt (BitVec.ofNat 8 n :: p) 0 = n := fun p => byteAt_ofNat (by omega) p
    have commission := exec_request commissionRequest (c := .commission [BitVec.ofNat 8 n]) hs rfl (by simp) rfl rfl
    have pause := exec_request pauseRequest (c := .pause false [BitVec.ofNat 8 n]) hs rfl (by simp) rfl rfl
    have cont := exec_request continueRequest (c := .cont false [BitVec.ofNat 8 n]) hs rfl (by simp) rfl rfl
    have reset := exec_request resetGroupRequest (c := .resetGroup [BitVec.ofNat 8 n]) hs rfl (by simp) rfl rfl
    have read := exec_request balanceReadRequest (c := .balanceRead [BitVec.ofNat 8 n, 0#8, 1#8]) hs rfl (by simp) rfl rfl
    rw [commission, pause, cont, reset, read]
    have named : ∀ {reason : Reason} {detail : Nat},
        (∀ body, withGroup n s.heard body = refuse s.heard reason detail) →
        Host.Outcome.next (answer 0x12#8 (runCommission [BitVec.ofNat 8 n] s.heard)) =
            (.next (s.heard.refusing 0x12#8 reason detail) : Host.Outcome State Fault Refusal)
          ∧ Host.Outcome.next (answer 0x13#8 (runPause [BitVec.ofNat 8 n] s.heard)) =
            (.next (s.heard.refusing 0x13#8 reason detail) : Host.Outcome State Fault Refusal)
          ∧ Host.Outcome.next (answer 0x14#8 (runContinue [BitVec.ofNat 8 n] s.heard)) =
            (.next (s.heard.refusing 0x14#8 reason detail) : Host.Outcome State Fault Refusal)
          ∧ Host.Outcome.next (answer 0x16#8 (runResetGroup [BitVec.ofNat 8 n] s.heard)) =
            (.next (s.heard.refusing 0x16#8 reason detail) : Host.Outcome State Fault Refusal)
          ∧ Host.Outcome.next (answer 0x17#8 (runBalanceRead [BitVec.ofNat 8 n, 0#8, 1#8] s.heard)) =
            (.next (s.heard.refusing 0x17#8 reason detail) : Host.Outcome State Fault Refusal) := fun hw => by
      have hff : ¬n = 0xFF := by omega
      refine ⟨?_, ?_, ?_, ?_, ?_⟩
      · rw [runCommission, hb, hw, answer_refuse]
      · rw [runPause, hb, if_neg hff, hw, answer_refuse]
      · rw [runContinue, hb, if_neg hff, hw, answer_refuse]
      · rw [runResetGroup, hb, hw, answer_refuse]
      · simp only [runBalanceRead, readBalance]
        rw [hb, hw, answer_refuse]
    refine ⟨fun h4 => named fun body => withGroup_of_le h4 s.heard body, fun g hg hnone => ?_⟩
    subst hg
    have hw := fun body => withGroup_none (s := s.heard) hnone body
    obtain ⟨h1, h2, h3, h4, h5⟩ := named hw
    refine ⟨h1, h2, h3, h4, h5, ?_, ?_⟩
    · rw [exec_clearFault hs (.inl rfl) rfl (groupTarget g 0#8).2.2, runClearFault_fault, hw, answer_refuse]
    · rw [exec_clearFault hs (.inr (.inl rfl)) rfl (groupTarget g 1#8).2.2, runClearFault_balance, hw, answer_refuse]
  · have fails : ∀ {reason : Reason} {detail : Nat}, firstFailure (commissionChecks s grp) = some (.nak reason detail) →
        exec (.commission [BitVec.ofNat 8 g.val]) s = .next (s.heard.refusing 0x12#8 reason detail) := fun hf => by
      rw [exec_commission hs hg, checked_fail _ (by exact hf), answer_refuse]
    simp only [commissionChecks_split] at fails
    refine ⟨fun ho => fails ?_, fun ho => ?_⟩
    · rw [if_neg ho]; rfl
    · rw [if_pos ho] at fails
      have rest : (fun y => !(s.ports.get y).atRest) = fun y => !(s.ports.get y).home || (s.ports.get y).load
          || (s.ports.get y).shuttle == .faulted := by
        funext y
        unfold Port.atRest
        cases (s.ports.get y).home <;> cases (s.ports.get y).load <;> simp [bne]
      refine ⟨fun x hx => fails ?_, fun hmap => ⟨fun x hx => fails ?_, fun hports hmode => fails ?_⟩⟩
      · have : (fun y => !((s.carousels.get y).map.state == .committed)) = fun y => (s.carousels.get y).map.state != .committed :=
          rfl
        rw [this, hx]; rfl
      · rw [find?_none_of_all (ok := fun y => (s.carousels.get y).map.state == .committed) fun y hy => by simp [hmap y hy],
          rest, hx]
        rfl
      · rw [find?_none_of_all (ok := fun y => (s.carousels.get y).map.state == .committed) fun y hy => by simp [hmap y hy],
          find?_none_of_all (ok := fun y => (s.ports.get y).atRest) fun y hy => by
            obtain ⟨q1, q2, q3⟩ := hports y hy
            simp [Port.atRest, q1, q2, q3]]
        rw [hmode]
        rfl

end Sys2Proof.Certificates

namespace Sys2Proof.Certificates

open Sys2Proof Sys2Proof.Machine

/-- Settles O13: `configureCarousel` on the map by the table of R5 and on the group's profiles. -/
theorem setCarouselConfigures : Obligations.SetCarouselConfigures := by
  intro p s x hs hp hx hall hserve hcomp
  refine ⟨(s.carousels.get x).map.reconfigured (s.carousels.get x).config (readCarousel p).config,
    (configureCarousel x (readCarousel p).config s.heard).groups, (readCarousel p).config, ?_, ?_, ?_, fun hnone => ?_,
    fun old hold => ⟨fun hne => ?_, fun hc hl hne => ?_, fun heq => ?_, fun hc => ?_, fun hc g grp hg hgrp => ?_⟩, fun h => ?_⟩
  · obtain ⟨h1, h6⟩ : 1 ≤ byteAt p 4 ∧ byteAt p 4 ≤ 6 := hall 4
    have : (readCarousel p).limits.take (byteAt p 4) = (List.range (byteAt p 4)).map fun l => wordAt p (9 + 2 * l) := by
      generalize byteAt p 4 = n at h1 h6
      interval_cases n <;> rfl
    simp only [CarouselRequest.config, ← this]
    rfl
  · rw [exec_setCarousel hs hp, runSetCarousel_at hall hx,
      checked_pass (firstFailure_none_iff.mp (carouselGroupChecks_pass (s := s.heard) (r := readCarousel p) hserve hcomp)), answer_accept, configureCarousel_eq]
    rfl
  · unfold SlotMap.reconfigured
    split
    · rfl
    · split
      · rfl
      · split <;> rfl
  · rw [hnone]
    exact ⟨rfl, rfl⟩
  · rw [hold]
    simp only [SlotMap.reconfigured, if_pos hne, and_self]
  · have h1 : ¬(old.carriers ≠ (readCarousel p).config.carriers ∨ old.levels ≠ (readCarousel p).config.levels) := by
      simp [hc, hl]
    rw [hold]
    simp only [SlotMap.reconfigured, if_neg h1, if_neg hne, true_and]
    refine ⟨fun h => ?_, fun h => ?_⟩
    · rw [h]
    · cases hm : (s.carousels.get x).map.state with
      | committed => exact absurd hm h
      | absent => rfl
      | opened => rfl
  · subst heq
    rw [hold]
    simp [SlotMap.reconfigured]
  · exact configureCarousel_groups_same (s := s.heard) (.inr fun o ho => by cases hold.symm.trans ho; exact hc)
  · exact configureCarousel_groups_resized (s := s.heard) hg hold hc hgrp
  · refine configureCarousel_groups_same (s := s.heard) (h.imp id fun hn o ho => ?_)
    rw [heard_carousels, hn] at ho
    cases ho

/-- Settles O14: the groups that `defineGroup` leaves (`defineGroup_get`). -/
theorem setGroupDefines : Obligations.SetGroupDefines := by
  rintro p s r g lowest cfg hs hp rfl hm hg hall h1 h2 h3 hoff hhead hcfg hmem
  have hfields : firstFailure (groupFieldChecks (readGroup p)) = none := by
    rw [groupFieldChecks_of_ok hall, if_neg (Nat.not_lt.mpr h1), if_neg (Nat.not_lt.mpr h2), if_neg (Nat.not_lt.mpr h3)]
  have hlow : s.geometryOf lowest = cfg.geometry := by
    unfold State.geometryOf
    rw [hcfg]
  have hstate : firstFailure (groupStateChecks s g (readGroup p).memberList) = none := by
    have first : s.groups.get g = none ∨ ∃ grp, s.groups.get g = some grp ∧ grp.state = .offline := by
      cases hgrp : s.groups.get g with
      | none => exact .inl rfl
      | some grp => exact .inr ⟨grp, rfl, hoff grp hgrp⟩
    rw [groupStateChecks_split, if_pos first,
      find?_none_of_all (ok := fun x => (s.carousels.get x).config.isSome) fun y hy =>
        Option.isSome_iff_ne_none.mpr (hmem y hy).1,
      find?_none_of_all (ok := fun y => (s.serviceGroup y).isNone || s.groupOf y == some g) fun y hy => by
        simpa using (hmem y hy).2.1,
      find?_none_of_all (ok := fun y => some (s.geometryOf y) == (readGroup p).memberList.head?.map s.geometryOf) fun y hy => by
        rw [hhead, Option.map_some, (hmem y hy).2.2, hlow]
        exact beq_self_eq_true _]
    rfl
  have hget := fun h => defineGroup_get g (readGroup p).memberList (readGroup p).params s.heard h
  have hC : ((readGroup p).memberList.head?.elim 0 fun x => (s.heard.geometryOf x).carriers) = cfg.carriers := by
    rw [hhead]
    exact congrArg Geometry.carriers hlow
  refine ⟨(defineGroup g (readGroup p).memberList (readGroup p).params s.heard).groups,
    Group.fresh (readGroup p).memberList (readGroup p).params cfg.carriers (keptRevolution s g (readGroup p).memberList),
    ?_, ?_, rfl, rfl, rfl, rfl, rfl, rfl, rfl, rfl, rfl, rfl, rfl, rfl, rfl, fun old ho he => ?_, fun hne => ?_,
    fun h hh => ⟨fun hn => ?_, fun grp hgrp => ⟨fun hx => ?_, fun hx hne => ?_, fun hx hl => ?_⟩⟩⟩
  · rw [exec_setGroup hs hp hm, runSetGroup_at hfields hg, checked_pass (firstFailure_none_iff.mp (by exact hstate)),
      answer_accept, defineGroup_eq]
    rfl
  · rw [hget, if_pos rfl, hC]
    rfl
  · change keptRevolution s g _ = _
    unfold keptRevolution
    rw [ho]
    exact if_pos he
  · change keptRevolution s g _ = _
    unfold keptRevolution
    split
    · rename_i old ho
      exact if_neg (hne old ho)
    · rfl
  · rw [hget, if_neg hh, heard_groups, hn]
    rfl
  · rw [hget, if_neg hh, heard_groups, hgrp]
    exact without_none_taken hx
  · rw [hget, if_neg hh, heard_groups, hgrp]
    exact without_all_taken hx hne
  · rw [hget, if_neg hh, heard_groups, hgrp]
    exact without_some_taken hx hl

/-- Settles O15: the profile from scratch is the moment of the HELD slots (`freshProfile_spec`). -/
theorem commissionComputesProfiles : Obligations.CommissionComputesProfiles := by
  intro s g grp hs hg hoff hmem hmode
  obtain ⟨hlen, hval⟩ := freshProfile_spec s g
  have hpass : firstFailure (commissionChecks s grp) = none := by
    rw [commissionChecks_split, if_pos hoff,
      find?_none_of_all (ok := fun y => (s.carousels.get y).map.state == .committed) fun y hy => by simp [(hmem y hy).1],
      find?_none_of_all (ok := fun y => (s.ports.get y).atRest) fun y hy => by
        obtain ⟨-, q1, q2, q3⟩ := hmem y hy
        simp [Port.atRest, q1, q2, q3], if_pos hmode]
    rfl
  have he := exec_commission hs hg
  rw [checked_pass (firstFailure_none_iff.mp (by exact hpass))] at he
  refine ⟨s.freshProfile g, hlen, hval, fun hbig => ?_, fun hsmall => ⟨_, rfl, fun hd => ?_, fun hd => ?_⟩⟩
  · rw [he, if_neg]
    · rfl
    · rw [peak_le_iff]
      simpa using hbig
  · rw [he, if_pos (peak_le_iff.mpr hsmall), enterReferencing]
    simp only [setGroup_channels, heard_channels, hd, Bool.false_eq_true, if_false]
    rfl
  · rw [he, if_pos (peak_le_iff.mpr hsmall), enterReferencing]
    simp only [setGroup_channels, heard_channels, hd, if_true]
    rfl

end Sys2Proof.Certificates

/-! SUPPORT. Scans discarded (R81, R143), PAUSE of groups (R20, R69), RESET GROUP (R22) and the group fault (R18), each as what
it leaves. -/

namespace Sys2Proof.Machine

open Sys2Proof

variable {s : State}

/-! ## Scans discarded (R81, R143) -/

/-- An audit task whose scan that was has none in flight; any other task stays. -/
def discardedTask (port : Port) (t : Option AuditTask) : Option AuditTask :=
  match port.scan with
  | some sc => if sc.user = .audit then t.map fun t => { t with scan := none } else t
  | none => t

theorem discardedTask_none {port : Port} (h : port.scan = none) (t : Option AuditTask) : discardedTask port t = t := by
  unfold discardedTask
  rw [h]

theorem discardedTask_audit {port : Port} {sc : Scan} (h : port.scan = some sc) (hu : sc.user = .audit)
    (t : Option AuditTask) : discardedTask port t = t.map fun t => { t with scan := none } := by
  unfold discardedTask
  rw [h]
  exact if_pos hu

theorem discardedTask_other {port : Port} {sc : Scan} (h : port.scan = some sc) (hu : sc.user ≠ .audit)
    (t : Option AuditTask) : discardedTask port t = t := by
  unfold discardedTask
  rw [h]
  exact if_neg hu

theorem modTask_tasks (s : State) (x : Index) (f : AuditTask → AuditTask) :
    s.modTask x f = { s with audit := { s.audit with tasks := s.audit.tasks.set x ((s.audit.tasks.get x).map f) } } := by
  unfold State.modTask
  split
  · rename_i h; rw [h]; rfl
  · rename_i h; rw [h, Option.map_none, Quad.set_eq_self h]

theorem discardScan_eq (p : Index) (s : State) : discardScan p s = { s with
    ports := s.ports.set p { s.ports.get p with scan := none }
    audit := { s.audit with tasks := s.audit.tasks.set p (discardedTask (s.ports.get p) (s.audit.tasks.get p)) } } := by
  unfold discardScan discardedTask
  cases h : (s.ports.get p).scan with
  | none =>
    have hp : { s.ports.get p with scan := none } = s.ports.get p := by rw [← h]
    dsimp only
    rw [hp, Quad.set_get, Quad.set_get]
  | some sc =>
    dsimp only
    cases hu : sc.user with
    | audit =>
      simp only [if_true, modTask_tasks]
      rfl
    | faceCheck id seq => simp only [reduceCtorEq, if_false, Quad.set_get]; rfl
    | withdrawn => simp only [reduceCtorEq, if_false, Quad.set_get]; rfl

/-- The scans at a list of ports discarded. -/
theorem foldl_discardScan (ps : List Index) (s : State) : ∃ ports tasks,
    ps.foldl (fun s p => discardScan p s) s = { s with ports := ports, audit := { s.audit with tasks := tasks } }
      ∧ (∀ x, ports.get x = if x ∈ ps then { s.ports.get x with scan := none } else s.ports.get x)
      ∧ ∀ x, tasks.get x = if x ∈ ps then discardedTask (s.ports.get x) (s.audit.tasks.get x) else s.audit.tasks.get x := by
  induction ps generalizing s with
  | nil => exact ⟨s.ports, s.audit.tasks, rfl, by simp, by simp⟩
  | cons p ps ih =>
    obtain ⟨ports, tasks, he, hp, ht⟩ := ih (discardScan p s)
    refine ⟨ports, tasks, ?_, fun x => ?_, fun x => ?_⟩
    · rw [List.foldl_cons, he, discardScan_eq]
    · rw [hp, discardScan_eq]
      simp only [Quad.get_set, List.mem_cons]
      by_cases hx : x = p
      · subst hx; simp
      · simp [hx]
    · rw [ht, discardScan_eq]
      simp only [Quad.get_set, List.mem_cons]
      by_cases hx : x = p
      · subst hx
        simp [discardedTask_none]
      · simp [hx]

/-! ## PAUSE (R20, R69) -/

/-- A group as PAUSE leaves it. -/
def Group.pausedBy (grp : Group) : Group :=
  match grp.state with
  | .idle => grp.paused
  | .moving => { grp with pausePending := true }
  | .referencing => { grp.paused with k := none, stallTimer := none }
  | _ => grp

/-- A channel as PAUSE of its group leaves it. -/
def Channel.pausedBy (ch : Channel) (grp : Option Group) : Channel :=
  match grp with
  | some grp => if grp.state = .referencing then { ch with run := false, speed := .creep } else ch
  | none => ch

/-- The ports whose scans PAUSE of a group discards: those of its members where it was IDLE. -/
def idleMembers (o : Option Group) : List Index :=
  match o with
  | some grp => if grp.state = .idle then grp.members else []
  | none => []

theorem pauseGroup_none {g : Index} (h : s.groups.get g = none) : pauseGroup g s = s := by
  unfold pauseGroup
  rw [h]

/-- PAUSE at a group: its record, its channel, and the scans at its ports. -/
theorem pauseGroup_eq (g : Index) (s : State) : pauseGroup g s =
    (idleMembers (s.groups.get g)).foldl (fun s p => discardScan p s) { s with
      groups := s.groups.set g ((s.groups.get g).map Group.pausedBy)
      channels := s.channels.set g ((s.channels.get g).pausedBy (s.groups.get g)) } := by
  unfold pauseGroup idleMembers
  cases h : s.groups.get g with
  | none =>
    dsimp only
    rw [Option.map_none, Quad.set_eq_self h, Channel.pausedBy, Quad.set_get]
    rfl
  | some grp =>
    dsimp only
    rw [Option.map_some, Group.pausedBy, Channel.pausedBy]
    cases hst : grp.state with
    | idle =>
      simp only [if_true, reduceCtorEq, if_false, Quad.set_get, discardScans]
      simp only [State.membersOf, State.setGroup, Quad.get_set_same]
      rfl
    | referencing =>
      simp only [if_true, reduceCtorEq, if_false, List.foldl_nil]
      rw [lowerRun_eq, modGroup_eq]
      simp [h, Group.paused]
    | moving => simp only [reduceCtorEq, if_false, List.foldl_nil, Quad.set_get]; rfl
    | offline => simp only [reduceCtorEq, if_false, List.foldl_nil, Quad.set_get, Quad.set_eq_self h]
    | paused => simp only [reduceCtorEq, if_false, List.foldl_nil, Quad.set_get, Quad.set_eq_self h]
    | faulted => simp only [reduceCtorEq, if_false, List.foldl_nil, Quad.set_get, Quad.set_eq_self h]

/-- PAUSE at a group as what it leaves. -/
theorem pauseGroup_spec (g : Index) (s : State) : ∃ ports tasks, pauseGroup g s = { s with
      groups := s.groups.set g ((s.groups.get g).map Group.pausedBy)
      channels := s.channels.set g ((s.channels.get g).pausedBy (s.groups.get g))
      ports := ports
      audit := { s.audit with tasks := tasks } }
    ∧ (∀ x, ports.get x = if x ∈ idleMembers (s.groups.get g) then { s.ports.get x with scan := none } else s.ports.get x)
    ∧ ∀ x, tasks.get x = if x ∈ idleMembers (s.groups.get g) then discardedTask (s.ports.get x) (s.audit.tasks.get x)
        else s.audit.tasks.get x := by
  obtain ⟨ports, tasks, he, hp, ht⟩ := foldl_discardScan (idleMembers (s.groups.get g)) { s with
      groups := s.groups.set g ((s.groups.get g).map Group.pausedBy)
      channels := s.channels.set g ((s.channels.get g).pausedBy (s.groups.get g)) }
  exact ⟨ports, tasks, (pauseGroup_eq g s).trans he, hp, ht⟩

/-- PAUSE at a list of groups as what it leaves. -/
theorem foldl_pauseGroup (gs : List Index) (hn : gs.Nodup) (s : State) : ∃ groups channels ports tasks,
    gs.foldl (fun s g => pauseGroup g s) s = { s with
      groups := groups, channels := channels, ports := ports, audit := { s.audit with tasks := tasks } }
    ∧ (∀ g, groups.get g = if g ∈ gs then (s.groups.get g).map Group.pausedBy else s.groups.get g)
    ∧ (∀ g, channels.get g = if g ∈ gs then (s.channels.get g).pausedBy (s.groups.get g) else s.channels.get g)
    ∧ (∀ x, ports.get x = if ∃ g ∈ gs, x ∈ idleMembers (s.groups.get g) then { s.ports.get x with scan := none }
        else s.ports.get x)
    ∧ ∀ x, tasks.get x = if ∃ g ∈ gs, x ∈ idleMembers (s.groups.get g)
        then discardedTask (s.ports.get x) (s.audit.tasks.get x) else s.audit.tasks.get x := by
  induction gs generalizing s with
  | nil => exact ⟨s.groups, s.channels, s.ports, s.audit.tasks, rfl, by simp, by simp, by simp, by simp⟩
  | cons g gs ih =>
    obtain ⟨hg, hn⟩ := List.nodup_cons.mp hn
    obtain ⟨ports, tasks, he, hp, ht⟩ := pauseGroup_spec g s
    obtain ⟨groups', channels', ports', tasks', he', hgr', hch', hp', ht'⟩ := ih hn (pauseGroup g s)
    have others : ∀ h, h ∈ gs → (pauseGroup g s).groups.get h = s.groups.get h
        ∧ (pauseGroup g s).channels.get h = s.channels.get h := fun h hh => by
      have hne : h ≠ g := by rintro rfl; exact hg hh
      rw [he]
      exact ⟨Quad.get_set_ne _ _ hne, Quad.get_set_ne _ _ hne⟩
    have idle : ∀ x, (∃ h ∈ gs, x ∈ idleMembers ((pauseGroup g s).groups.get h)) ↔ ∃ h ∈ gs, x ∈ idleMembers (s.groups.get h) :=
      fun x => exists_congr fun h => and_congr_right fun hh => by rw [(others h hh).1]
    refine ⟨groups', channels', ports', tasks', ?_, fun h => ?_, fun h => ?_, fun x => ?_, fun x => ?_⟩
    · rw [List.foldl_cons, he', he]
    · rw [hgr']
      by_cases hh : h ∈ gs
      · rw [if_pos hh, if_pos (List.mem_cons_of_mem _ hh), (others h hh).1]
      · rw [if_neg hh, he]
        by_cases hhg : h = g
        · subst hhg; simp
        · simp [hhg, hh, Quad.get_set_ne _ _ hhg]
    · rw [hch']
      by_cases hh : h ∈ gs
      · rw [if_pos hh, if_pos (List.mem_cons_of_mem _ hh), (others h hh).1, (others h hh).2]
      · rw [if_neg hh, he]
        by_cases hhg : h = g
        · subst hhg; simp
        · simp [hhg, hh, Quad.get_set_ne _ _ hhg]
    · rw [hp']
      simp only [idle, List.exists_mem_cons_iff]
      rw [he]
      simp only [hp]
      by_cases h1 : x ∈ idleMembers (s.groups.get g) <;> by_cases h2 : ∃ h ∈ gs, x ∈ idleMembers (s.groups.get h) <;>
        simp only [h1, h2, if_true, if_false, true_or, or_true, or_self]
    · rw [ht']
      simp only [idle, List.exists_mem_cons_iff]
      rw [he]
      simp only [hp, ht]
      by_cases h1 : x ∈ idleMembers (s.groups.get g) <;> by_cases h2 : ∃ h ∈ gs, x ∈ idleMembers (s.groups.get h) <;>
        simp only [h1, h2, if_true, if_false, true_or, or_true, or_self, discardedTask_none]

end Sys2Proof.Machine

/-! SUPPORT. PAUSE of one group and of all (R20, R69), RESET GROUP (R22) and the group fault (R18): what each leaves, as one
record of the state. -/

namespace Sys2Proof.Machine

open Sys2Proof

variable {s : State} {g : Index} {grp : Group}

/-! ## The engine follows RUN (R151) -/

theorem followRun_eq (s : State) :
    followRun s = { s with audit := { s.audit with engine := (followRun s).audit.engine } } := by
  obtain ⟨e, he, -⟩ := followRun_spec s
  rw [he]
  rfl

/-- RUN dropped, as one record. -/
theorem dropRun_eq (g : Index) (s : State) : dropRun g s = { s with
    groups := s.groups.set g ((s.groups.get g).map fun grp => { grp with stallTimer := none })
    channels := s.channels.set g { s.channels.get g with run := false, speed := .creep }
    audit := { s.audit with
      engine := (followRun (s.setChannel g { s.channels.get g with run := false, speed := .creep })).audit.engine } } := by
  rw [dropRun_spec, followRun_eq]
  rfl

/-! ## Scans discarded, carousel by carousel (R81, R143) -/

/-- What discarding the scans at the ports of `ms` makes of the audit tasks. -/
theorem discarded_tasks {ms : List Index} {ports : Quad Port} {old tasks : Quad (Option AuditTask)}
    (ht : ∀ x, tasks.get x = if x ∈ ms then discardedTask (ports.get x) (old.get x) else old.get x) (x : Index) :
    (x ∉ ms ∨ (ports.get x).scan = none → tasks.get x = old.get x)
      ∧ ∀ sc, x ∈ ms → (ports.get x).scan = some sc →
        (sc.user = .audit → tasks.get x = (old.get x).map fun t => { t with scan := none })
        ∧ (sc.user ≠ .audit → tasks.get x = old.get x) := by
  refine ⟨fun h => ?_, fun sc hx hsc => ⟨fun hu => ?_, fun hu => ?_⟩⟩
  · rw [ht]
    split
    · rename_i hx
      exact discardedTask_none (h.resolve_left (not_not.mpr hx)) _
    · rfl
  · rw [ht, if_pos hx, discardedTask_audit hsc hu]
  · rw [ht, if_pos hx, discardedTask_other hsc hu]

/-! ## PAUSE (R20) -/

/-- An addressed PAUSE of an existing group. -/
theorem exec_pause_one (h : s.Listens) (hg : s.groups.get g = some grp) :
    exec (.pause false [BitVec.ofNat 8 g.val]) s = .next (answer 0x13#8
      (if grp.state = .offline ∨ grp.state = .faulted then refuse s.heard .state 0xFF
        else accept (pauseOne g grp s.heard))) := by
  rw [exec_request pauseRequest h rfl (by simp) rfl rfl]
  change Host.Outcome.next (answer 0x13#8 (runPause _ s.heard)) = _
  unfold runPause
  rw [byteAt_ofNat_index, if_neg (index_val_ne_allGroups g), withGroup_val (s := s.heard) hg]

theorem exec_pause_all (h : s.Listens) :
    exec (.pause false [0xFF#8]) s = .next ((pauseAll s.heard).replying 0x13#8 []) :=
  exec_request (p := [0xFF#8]) pauseRequest h rfl (by decide) rfl rfl

theorem exec_pause_broadcast (h : s.Listens) : exec (.pause true [0xFF#8]) s = .next (pauseAll s.heard) :=
  congrArg Host.Outcome.next (broadcast_of_listens h pauseRequest (by simp) rfl rfl rfl)

theorem exec_pause_of_acts (h : s.Listens) (hg : s.groups.get g = some grp) (ho : grp.state ≠ .offline)
    (hf : grp.state ≠ .faulted) :
    exec (.pause false [BitVec.ofNat 8 g.val]) s = .next ((pauseOne g grp s.heard).replying 0x13#8 []) := by
  rw [exec_pause_one h hg, if_neg (not_or.mpr ⟨ho, hf⟩), answer_accept]

theorem pauseOne_idle (hg : s.groups.get g = some grp) (hst : grp.state = .idle) : ∃ ports tasks,
    pauseOne g grp s = { s with
      groups := s.groups.set g (some grp.paused), ports := ports, audit := { s.audit with tasks := tasks } }
    ∧ (∀ x, ports.get x = if x ∈ grp.members then { s.ports.get x with scan := none } else s.ports.get x)
    ∧ ∀ x, tasks.get x = if x ∈ grp.members then discardedTask (s.ports.get x) (s.audit.tasks.get x)
        else s.audit.tasks.get x := by
  obtain ⟨ports, tasks, he, hp, ht⟩ := pauseGroup_spec g s
  have hms : idleMembers (s.groups.get g) = grp.members := by rw [hg]; exact if_pos hst
  have hgrp : (s.groups.get g).map Group.pausedBy = some grp.paused := by
    rw [hg, Option.map_some, Group.pausedBy, hst]
  have hch : (s.channels.get g).pausedBy (s.groups.get g) = s.channels.get g := by
    rw [hg]
    exact if_neg (by rw [hst]; decide)
  rw [hms] at hp ht
  rw [hgrp, hch, Quad.set_get] at he
  exact ⟨ports, tasks, (if_neg (by rw [hst]; decide)).trans he, hp, ht⟩

theorem pauseOne_moving (hg : s.groups.get g = some grp) (hst : grp.state = .moving) :
    pauseOne g grp s = s.setGroup g (some { grp with pausePending := true }) := by
  simp [pauseOne, pauseGroup, hg, hst]

theorem pauseOne_paused (hg : s.groups.get g = some grp) (hst : grp.state = .paused) : pauseOne g grp s = s := by
  simp [pauseOne, pauseGroup, hg, hst]

theorem pauseOne_referencing (hg : s.groups.get g = some grp) (hst : grp.state = .referencing) :
    pauseOne g grp s = { followRun (s.setChannel g { s.channels.get g with run := false, speed := .creep }) with
      groups := s.groups.set g (some { grp.paused with k := none, stallTimer := none }) } := by
  have hp : pauseGroup g s = { s.setChannel g { s.channels.get g with run := false, speed := .creep } with
      groups := s.groups.set g (some { grp.paused with k := none, stallTimer := none }) } := by
    simp only [pauseGroup, hg, hst]
    rw [lowerRun_eq, modGroup_eq]
    simp [hg, Group.paused]
  rw [pauseOne, if_pos hst, hp, followRun_groups]

/-- PAUSE of all groups: what it leaves. -/
theorem pauseAll_spec (s : State) : ∃ groups channels ports tasks,
    pauseAll s = { s with
      groups := groups, channels := channels, ports := ports
      audit := { s.audit with tasks := tasks, engine := (followRun { s with channels := channels }).audit.engine } }
    ∧ (∀ g, groups.get g = (s.groups.get g).map Group.pausedBy)
    ∧ (∀ g, channels.get g = (s.channels.get g).pausedBy (s.groups.get g))
    ∧ (∀ x, (∀ g, x ∉ idleMembers (s.groups.get g)) →
        ports.get x = s.ports.get x ∧ tasks.get x = s.audit.tasks.get x)
    ∧ ∀ x g, x ∈ idleMembers (s.groups.get g) → ports.get x = { s.ports.get x with scan := none }
        ∧ tasks.get x = discardedTask (s.ports.get x) (s.audit.tasks.get x) := by
  obtain ⟨groups, channels, ports, tasks, he, hg, hc, hp, ht⟩ := foldl_pauseGroup allIndices (by decide) s
  have hg : ∀ g, groups.get g = (s.groups.get g).map Group.pausedBy := fun g => (hg g).trans (if_pos (mem_allIndices g))
  have hc : ∀ g, channels.get g = (s.channels.get g).pausedBy (s.groups.get g) :=
    fun g => (hc g).trans (if_pos (mem_allIndices g))
  refine ⟨groups, channels, ports, tasks, ?_, hg, hc, fun x hx => ?_, fun x g hx => ?_⟩
  rotate_left
  · have hn : ¬∃ g ∈ allIndices, x ∈ idleMembers (s.groups.get g) := fun ⟨g, _, h⟩ => hx g h
    exact ⟨(hp x).trans (if_neg hn), (ht x).trans (if_neg hn)⟩
  · have he : ∃ g ∈ allIndices, x ∈ idleMembers (s.groups.get g) := ⟨g, mem_allIndices g, hx⟩
    exact ⟨(hp x).trans (if_pos he), (ht x).trans (if_pos he)⟩
  rw [pauseAll, he]
  refine (followRun_eq _).trans (congrArg (fun e : Engine => { s with
    groups := groups, channels := channels, ports := ports, audit := { s.audit with tasks := tasks, engine := e } }) ?_)
  exact followRun_engine rfl rfl

theorem mem_idleMembers {x : Index} : x ∈ idleMembers (s.groups.get g) ↔
    ∃ grp, s.groups.get g = some grp ∧ grp.state = .idle ∧ x ∈ grp.members := by
  cases hg : s.groups.get g with
  | none => simp [idleMembers]
  | some grp =>
    by_cases h : grp.state = .idle <;> simp [idleMembers, h]

/-! ## RESET GROUP (R22) -/

theorem resetMember_eq (x : Index) (s : State) : resetMember s x = { s with
    carousels := s.carousels.set x { s.carousels.get x with map := { state := .absent, carriers := [], finding := none } }
    ports := s.ports.set x { s.ports.get x with scan := none }
    audit := { s.audit with tasks := s.audit.tasks.set x none } } := by
  unfold resetMember
  rw [discardScan_eq]
  simp only [State.setTask, State.setAudit, Quad.set_set, State.setCarousel]

theorem foldl_resetMember (ms : List Index) (s : State) : ∃ cs ports tasks,
    ms.foldl resetMember s = { s with carousels := cs, ports := ports, audit := { s.audit with tasks := tasks } }
    ∧ ∀ x, (x ∉ ms → cs.get x = s.carousels.get x ∧ ports.get x = s.ports.get x ∧ tasks.get x = s.audit.tasks.get x)
      ∧ (x ∈ ms → cs.get x = { s.carousels.get x with map := { state := .absent, carriers := [], finding := none } }
          ∧ ports.get x = { s.ports.get x with scan := none } ∧ tasks.get x = none) := by
  induction ms generalizing s with
  | nil => exact ⟨s.carousels, s.ports, s.audit.tasks, rfl, by simp⟩
  | cons y ms ih =>
    obtain ⟨cs, ports, tasks, he, hx⟩ := ih (resetMember s y)
    refine ⟨cs, ports, tasks, ?_, fun x => ⟨fun hn => ?_, fun hm => ?_⟩⟩
    · rw [List.foldl_cons, he, resetMember_eq]
    · obtain ⟨hne, hn⟩ := not_or.mp (List.mem_cons.not.mp hn)
      have hset := (hx x).1 hn
      rw [resetMember_eq] at hset
      simpa only [Quad.get_set_ne _ _ hne] using hset
    · by_cases hx' : x ∈ ms
      · have hset := (hx x).2 hx'
        rw [resetMember_eq] at hset
        by_cases hxy : x = y
        · subst hxy; simpa only [Quad.get_set_same] using hset
        · simpa only [Quad.get_set_ne _ _ hxy] using hset
      · have hset := (hx x).1 hx'
        obtain rfl : x = y := (List.mem_cons.mp hm).resolve_right hx'
        rw [resetMember_eq] at hset
        simpa only [Quad.get_set_same] using hset

theorem resetGroup_spec (g : Index) (grp : Group) (s : State) : ∃ cs ports tasks,
    resetGroup g grp s = { s with
      carousels := cs
      groups := s.groups.set g (some (Group.fresh grp.members grp.params (s.geometry g).carriers 0))
      channels := s.channels.set g { s.channels.get g with run := false, speed := .creep, dir := .forward }
      ports := ports
      audit := { s.audit with
        tasks := tasks
        engine := (followRun (s.setChannel g { s.channels.get g with run := false, speed := .creep })).audit.engine } }
    ∧ ∀ x, (x ∉ grp.members →
        cs.get x = s.carousels.get x ∧ ports.get x = s.ports.get x ∧ tasks.get x = s.audit.tasks.get x)
      ∧ (x ∈ grp.members →
          cs.get x = { s.carousels.get x with map := { state := .absent, carriers := [], finding := none } }
          ∧ ports.get x = { s.ports.get x with scan := none } ∧ tasks.get x = none) := by
  obtain ⟨cs, ports, tasks, he, hx⟩ :=
    foldl_resetMember grp.members ((dropRun g s).modChannel g fun ch => { ch with dir := .forward })
  refine ⟨cs, ports, tasks, ?_, ?_⟩
  · unfold resetGroup
    dsimp only
    rw [he, dropRun_eq]
    simp only [State.modChannel, State.setChannel, State.setGroup, Quad.set_set, Quad.get_set_same]
  · simpa only [modChannel_carousels, modChannel_ports, modChannel_audit, dropRun_eq] using hx

theorem exec_resetGroup (h : s.Listens) : exec (.resetGroup [BitVec.ofNat 8 g.val]) s =
    .next (answer 0x16#8 (withGroup g.val s.heard fun g grp =>
      checked s.heard (resetGroupChecks s grp) (accept (resetGroup g grp s.heard)))) := by
  rw [exec_request resetGroupRequest h rfl (by simp) rfl rfl]
  change Host.Outcome.next (answer 0x16#8 (runResetGroup _ s.heard)) = _
  unfold runResetGroup
  rw [byteAt_ofNat_index]
  rfl

theorem exec_resetGroup_none (h : s.Listens) (hg : s.groups.get g = none) :
    exec (.resetGroup [BitVec.ofNat 8 g.val]) s = .next (s.heard.refusing 0x16#8 .notFound 0xFF) := by
  rw [exec_resetGroup h, withGroup_none (s := s.heard) hg, answer_refuse]

theorem exec_resetGroup_fail (h : s.Listens) (hg : s.groups.get g = some grp) {reason : Reason} {detail : Nat}
    (hf : firstFailure (resetGroupChecks s grp) = some (.nak reason detail)) :
    exec (.resetGroup [BitVec.ofNat 8 g.val]) s = .next (s.heard.refusing 0x16#8 reason detail) := by
  rw [exec_resetGroup h, withGroup_val (s := s.heard) hg, checked_fail _ hf, answer_refuse]

/-- The checks of RESET GROUP as three runs over the members. -/
theorem resetGroupChecks_split (s : State) (grp : Group) : firstFailure (resetGroupChecks s grp) =
    (((grp.members.find? fun y => s.reserved y).map fun x => Answer.nak .state x.val).orElse fun _ =>
      ((grp.members.find? fun y => (s.stores.get y).isSome).map fun x => Answer.nak .state x.val).orElse fun _ =>
      (grp.members.find? fun y => (s.ports.get y).shuttle != .homeEmpty).map fun x => Answer.nak .state x.val) := by
  simp only [resetGroupChecks, firstFailure_append, firstFailure_memberChecks, Bool.not_not, Option.not_isNone]
  cases grp.members.find? fun y => s.reserved y <;> cases grp.members.find? fun y => (s.stores.get y).isSome <;> rfl

/-! ## The group fault (R18) -/

/-- A cause is taken only by a group that is neither OFFLINE nor FAULTED. -/
theorem groupFault_not_taken (cause : FaultCause)
    (h : ∀ grp, s.groups.get g = some grp → grp.state = .offline ∨ grp.state = .faulted) : groupFault g cause s = s := by
  unfold groupFault
  split
  · rfl
  · rename_i grp hg
    exact if_pos (h grp hg)

theorem groupFault_spec (cause : FaultCause) (hg : s.groups.get g = some grp) (ho : grp.state ≠ .offline)
    (hf : grp.state ≠ .faulted) : ∃ ports tasks, groupFault g cause s =
      (if cause = .position then raiseEvent .positionLost else id) (raiseEvent .groupFault { s with
        groups := s.groups.set g (some { grp with
          state := .faulted, k := none, cause := cause, current := none, next := none, pausePending := false
          arrivalOpen := false, startedHere := Quad.fill false, settle := false, stallTimer := none })
        channels := s.channels.set g { s.channels.get g with run := false, speed := .creep }
        ports := ports
        audit := { s.audit with
          tasks := tasks
          engine := (followRun (s.setChannel g { s.channels.get g with run := false, speed := .creep })).audit.engine } })
    ∧ (∀ x, ports.get x = if x ∈ grp.members then { s.ports.get x with scan := none } else s.ports.get x)
    ∧ ∀ x, tasks.get x = if x ∈ grp.members then discardedTask (s.ports.get x) (s.audit.tasks.get x)
        else s.audit.tasks.get x := by
  obtain ⟨ports, tasks, he, hp, ht⟩ := foldl_discardScan grp.members ((dropRun g s).modGroup g fun grp =>
    { grp with state := .faulted, k := none, cause := cause, current := none, next := none,
               pausePending := false, arrivalOpen := false, startedHere := Quad.fill false, settle := false })
  have hm : State.membersOf ((dropRun g s).modGroup g fun grp =>
      { grp with state := .faulted, k := none, cause := cause, current := none, next := none,
                 pausePending := false, arrivalOpen := false, startedHere := Quad.fill false, settle := false }) g
      = grp.members := by
    simp [State.membersOf, modGroup_eq, dropRun_eq, hg]
  refine ⟨ports, tasks, ?_, ?_, ?_⟩
  · unfold groupFault
    rw [hg]
    dsimp only
    rw [if_neg (not_or.mpr ⟨ho, hf⟩)]
    simp only [discardScans, hm]
    rw [he, modGroup_eq, dropRun_eq]
    simp only [Quad.get_set_same, hg, Option.map_some, Quad.set_set]
    split <;> rfl
  · simpa only [modGroup_ports, dropRun_ports] using hp
  · simpa only [modGroup_ports, modGroup_audit, dropRun_eq] using ht

end Sys2Proof.Machine

namespace Sys2Proof.Machine

open Sys2Proof

/-! ## Reading the spec of PAUSE -/

theorem pausedBy_idle {grp : Group} (h : grp.state = .idle) : grp.pausedBy = grp.paused := by
  rw [Group.pausedBy, h]

theorem pausedBy_moving {grp : Group} (h : grp.state = .moving) : grp.pausedBy = { grp with pausePending := true } := by
  rw [Group.pausedBy, h]

theorem pausedBy_referencing {grp : Group} (h : grp.state = .referencing) :
    grp.pausedBy = { grp.paused with k := none, stallTimer := none } := by
  rw [Group.pausedBy, h]

theorem pausedBy_other {grp : Group} (h : grp.state = .offline ∨ grp.state = .faulted ∨ grp.state = .paused) :
    grp.pausedBy = grp := by
  rcases h with h | h | h <;> rw [Group.pausedBy, h]

theorem channel_pausedBy_other {ch : Channel} {o : Option Group} (h : ∀ grp, o = some grp → grp.state ≠ .referencing) :
    ch.pausedBy o = ch := by
  cases o with
  | none => rfl
  | some grp => exact if_neg (h grp rfl)

theorem channel_pausedBy_referencing {ch : Channel} {grp : Group} (h : grp.state = .referencing) :
    ch.pausedBy (some grp) = { ch with run := false, speed := .creep } := if_pos h

end Sys2Proof.Machine

namespace Sys2Proof.Certificates

open Sys2Proof Sys2Proof.Machine

/-- Settles O16: `pauseOne` state by state, and `pauseAll` as one record of what it leaves. -/
theorem pauseGroups : Obligations.PauseGroups := by
  refine ⟨fun s g grp hs hg => ⟨fun hst => ?idle, fun hst => ?moving, fun hst => ?referencing, fun hst => ?paused,
    fun hst => ?refused⟩, fun s hs => ?all, fun s b => ⟨rfl, rfl⟩⟩
  case idle =>
    obtain ⟨ports, tasks, he, hp, ht⟩ := pauseOne_idle (s := s.heard) hg hst
    refine ⟨ports, tasks, ?_, hp, discarded_tasks ht⟩
    rw [exec_pause_of_acts hs hg (by simp [hst]) (by simp [hst]), he]
    rfl
  case moving =>
    rw [exec_pause_of_acts hs hg (by simp [hst]) (by simp [hst]), pauseOne_moving (s := s.heard) hg hst]
  case referencing =>
    rw [exec_pause_of_acts hs hg (by simp [hst]) (by simp [hst]), pauseOne_referencing (s := s.heard) hg hst]
    rfl
  case paused =>
    rw [exec_pause_of_acts hs hg (by simp [hst]) (by simp [hst]), pauseOne_paused (s := s.heard) hg hst]
  case refused =>
    rw [exec_pause_one hs hg, if_pos hst, answer_refuse]
  case all =>
    obtain ⟨groups, channels, ports, tasks, he, hgr, hch, hstays, hacts⟩ := pauseAll_spec s.heard
    simp only [heard_groups, heard_channels, heard_ports, heard_audit] at hgr hch hstays hacts
    refine ⟨_, exec_pause_broadcast hs, exec_pause_all hs, ?_⟩
    rw [he]
    refine ⟨rfl, rfl, rfl, rfl, rfl, rfl, rfl, rfl, rfl, rfl, rfl, followRun_engine rfl rfl, fun g => ⟨fun hg => ?_,
      fun grp hg => ⟨fun hst => ?_, fun hst => ?_, fun hst => ⟨?_, ?_⟩, fun hst => ?_, fun hst => ?_⟩⟩, fun g hg => ?_,
      fun x => ⟨fun hx => ?_, fun g grp sc hg hst hx hsc => ?_⟩⟩
    · rw [hgr, hg, Option.map_none]
    · rw [hgr, hg, Option.map_some, pausedBy_idle hst]; rfl
    · rw [hgr, hg, Option.map_some, pausedBy_moving hst]
    · rw [hch, hg, channel_pausedBy_referencing hst]
    · rw [hgr, hg, Option.map_some, pausedBy_referencing hst]; rfl
    · rw [hgr, hg, Option.map_some, pausedBy_other hst]
    · exact (hch g).trans (channel_pausedBy_other fun a ha => by rw [hg] at ha; cases ha; exact hst)
    · exact (hch g).trans (channel_pausedBy_other fun a ha => by rw [hg] at ha; cases ha)
    · by_cases hm : ∃ g, x ∈ idleMembers (s.groups.get g)
      · obtain ⟨g, hm⟩ := hm
        obtain ⟨grp, hg, hst, hmem⟩ := mem_idleMembers.mp hm
        have hscan : (s.ports.get x).scan = none := hx.resolve_right fun h => h g grp hg hst hmem
        obtain ⟨hport, htask⟩ := hacts x g hm
        exact ⟨hport.trans (by rw [← hscan]), htask.trans (discardedTask_none hscan _)⟩
      · exact hstays x fun g hg => hm ⟨g, hg⟩
    · obtain ⟨hport, htask⟩ := hacts x g (mem_idleMembers.mpr ⟨grp, hg, hst, hx⟩)
      exact ⟨hport, fun hu => htask.trans (discardedTask_audit hsc hu _), fun hu => htask.trans (discardedTask_other hsc hu _)⟩

/-- Settles O19: three runs of member checks, then `resetGroup` as one record of what it leaves. -/
theorem resetGroupToOffline : Obligations.ResetGroupToOffline := by
  intro s g hs
  refine ⟨exec_resetGroup_none hs, fun grp hg => ⟨fun x hx => ?_, fun hres => ⟨fun x hx => ?_, fun hst =>
    ⟨fun x hx => ?_, fun hhome => ?_⟩⟩⟩⟩
  · exact exec_resetGroup_fail hs hg (by rw [resetGroupChecks_split, hx]; rfl)
  all_goals have noReserved : (grp.members.find? fun y => s.reserved y) = none :=
    List.find?_eq_none.mpr fun y hy => by simp [hres y hy]
  · exact exec_resetGroup_fail hs hg (by rw [resetGroupChecks_split, noReserved, hx]; rfl)
  all_goals have noStore : (grp.members.find? fun y => (s.stores.get y).isSome) = none :=
    List.find?_eq_none.mpr fun y hy => by simp [hst y hy]
  · exact exec_resetGroup_fail hs hg (by rw [resetGroupChecks_split, noReserved, noStore, hx]; rfl)
  · have allHome : (grp.members.find? fun y => (s.ports.get y).shuttle != .homeEmpty) = none :=
      List.find?_eq_none.mpr fun y hy => by simp [hhome y hy]
    have hpass : firstFailure (resetGroupChecks s grp) = none := by
      rw [resetGroupChecks_split, noReserved, noStore, allHome]; rfl
    obtain ⟨cs, ports, tasks, he, hx⟩ := resetGroup_spec g grp s.heard
    refine ⟨cs, ports, tasks, Group.fresh grp.members grp.params (s.geometry g).carriers 0, ?_, rfl, rfl, rfl, rfl, rfl, rfl, rfl,
      rfl, rfl, rfl, rfl, rfl, rfl, rfl, rfl, rfl, rfl, rfl, hx⟩
    have follows : (followRun (s.heard.setChannel g { s.heard.channels.get g with run := false, speed := .creep })).audit.engine
        = (followRun (s.setChannel g { s.channels.get g with run := false, speed := .creep })).audit.engine :=
      followRun_engine rfl rfl
    rw [follows] at he
    rw [exec_resetGroup hs, withGroup_val (s := s.heard) hg, checked_pass (firstFailure_none_iff.mp (by exact hpass)),
      answer_accept, he]
    rfl

/-- Settles O29: `groupFault` as one record of what it leaves, under the two events that carry it. -/
theorem groupFaultTaken : Obligations.GroupFaultTaken := by
  refine ⟨fun s g cause => ⟨groupFault_not_taken cause, fun grp hg ho hf => ?_⟩, fun s g grp hg => ⟨fun hst => ?_, rfl, rfl⟩⟩
  · obtain ⟨ports, tasks, he, hp, ht⟩ := groupFault_spec cause hg ho hf
    refine ⟨ports, tasks, (groupFault g cause s).link.flags, ?_, hp, discarded_tasks ht, fun hsamp => ?_⟩
    · rw [he]
      split <;> rfl
    · rw [he]
      split
      · simp only [raiseEvent_link, hsamp, if_true, setFlag, BitVec.or_assoc]
        rfl
      · simp only [id, raiseEvent_link, hsamp, if_true, setFlag]
        rfl
  · have hsome : grp.stallTimer.isSome = true := Option.isSome_iff_ne_none.mpr hst
    change execStallTimerExpiry g s = _
    simp only [execStallTimerExpiry, hg, hsome, if_true]

end Sys2Proof.Certificates

/-! SUPPORT. CLEAR_FAULT (R19, R92, R134, R158): the target that a payload names, and what clearing each kind of target does. -/

namespace Sys2Proof.Machine

open Sys2Proof

variable {s : State}

/-! ## The target of CLEAR_FAULT -/

theorem unusedSet_of_lt {a b : Byte} (h : a.toNat < 64) (h3 : a.toNat.testBit 3 = false) :
    (readClear [a, b]).unusedSet = false := by
  change (a.toNat.testBit 7 || a.toNat.testBit 6 || a.toNat.testBit 3) = false
  rw [h3, Nat.testBit_lt_two_pow (i := 7) (by omega), Nat.testBit_lt_two_pow (i := 6) (by omega)]
  rfl

theorem targetKind_eq (a b : Byte) : (readClear [a, b]).targetKind = a.toNat / 16 % 4 := rfl

theorem targetIndex_eq (a b : Byte) : (readClear [a, b]).targetIndex = a.toNat % 8 := rfl

theorem argument_eq (a b : Byte) : (readClear [a, b]).argument = b.toNat := rfl

theorem indexOf_of_le {n : Nat} (h : 4 ≤ n) : indexOf n = none := dif_neg (by omega)

/-- No group, no port, and not the station. -/
theorem runClearFault_noTarget {a b : Byte} (ha : a.toNat < 64) (h3 : a.toNat.testBit 3 = false)
    (h : 4 ≤ a.toNat % 8 ∨ 32 < a.toNat) : runClearFault [a, b] s = refuse s .range 0 := by
  have hlow : a.toNat % 16 < 8 := by
    rw [Nat.testBit_eq_decide_div_mod_eq] at h3
    have : a.toNat / 2 ^ 3 % 2 ≠ 1 := of_decide_eq_false h3
    omega
  unfold runClearFault
  dsimp only
  rw [targetKind_eq, targetIndex_eq]
  rcases h with h | h
  · rw [indexOf_of_le h, if_neg (by omega : ¬a.toNat % 8 = 0)]
    split <;> rfl
  · obtain hk | hk : a.toNat / 16 % 4 = 2 ∨ a.toNat / 16 % 4 = 3 := by omega
    · rw [hk]
      exact if_neg (by omega)
    · rw [hk]
      rfl

/-- The scope of a group is 0 or 1. -/
theorem runClearFault_scope {a b : Byte} (ha : a.toNat ≤ 3) (hb : 2 ≤ b.toNat) :
    runClearFault [a, b] s = refuse s .range 1 := by
  have hk : a.toNat / 16 % 4 = 0 := by omega
  have hi : indexOf (a.toNat % 8) = some ⟨a.toNat % 8, by omega⟩ := dif_pos (by omega)
  unfold runClearFault
  dsimp only
  rw [targetKind_eq, targetIndex_eq, hk, hi, argument_eq]
  simp only [if_neg (by omega : ¬b.toNat = 0), if_neg (by omega : ¬b.toNat = 1)]

/-- The second byte of a port target is 0. -/
theorem runClearFault_portArgument {a b : Byte} (h16 : 16 ≤ a.toNat) (h19 : a.toNat ≤ 19) (hb : b ≠ 0#8) :
    runClearFault [a, b] s = refuse s .range 1 := by
  have hk : a.toNat / 16 % 4 = 1 := by omega
  have hi : indexOf (a.toNat % 8) = some ⟨a.toNat % 8, by omega⟩ := dif_pos (by omega)
  have hne : ¬b.toNat = 0 := fun h => hb (BitVec.eq_of_toNat_eq h)
  unfold runClearFault
  dsimp only
  rw [targetKind_eq, targetIndex_eq, hk, hi, argument_eq]
  exact if_neg hne

/-- A target that is a port. -/
theorem exec_clearFaultPort (h : s.Listens) (p : Index) :
    exec (.clearFaultPort [BitVec.ofNat 8 (16 + p.val), 0#8]) s = .next (answer 0x15#8 (clearPort p s.heard)) := by
  have ht : (BitVec.ofNat 8 (16 + p.val)).toNat = 16 + p.val := by
    rw [BitVec.toNat_ofNat]
    omega
  have hk : (BitVec.ofNat 8 (16 + p.val)).toNat / 16 % 4 = 1 := by omega
  have hi : (BitVec.ofNat 8 (16 + p.val)).toNat % 8 = p.val := by omega
  have h3 : (BitVec.ofNat 8 (16 + p.val)).toNat.testBit 3 = false := by fin_cases p <;> decide
  rw [exec_clearFault h (.inr (.inr (.inl rfl))) rfl (unusedSet_of_lt (by omega) h3)]
  unfold runClearFault
  dsimp only
  rw [targetKind_eq, targetIndex_eq, hk, hi, indexOf_val]
  rfl

/-- A target that is the station. -/
theorem exec_clearFaultStation (h : s.Listens) (b : Byte) :
    exec (.clearFaultStation [0x20#8, b]) s = .next (answer 0x15#8 (clearStation b.toNat s.heard)) := by
  rw [exec_clearFault h (.inr (.inr (.inr rfl))) rfl (unusedSet_of_lt (by decide) (by decide))]
  unfold runClearFault
  dsimp only
  rw [targetKind_eq, targetIndex_eq]
  rfl

/-! ## A port (R92) -/

theorem clearPort_eq (p : Index) (s : State) : clearPort p s = checked s (clearPortChecks (s.ports.get p))
    (accept (giveTurns (s.groupOf p).toList s (afterPortClear (s.ports.get p) (s.setPort p (s.ports.get p).cleared)))) := rfl

theorem firstFailure_clearPort (port : Port) : firstFailure (clearPortChecks port) =
    if port.shuttle ≠ .faulted then some (.nak .state 0xFF)
    else if port.home = false ∨ port.extended = true then some (.nak .state 0xFE)
    else if port.fault ≠ some .release ∧ port.load = true then some (.nak .state 0xFD) else none := by
  cases hsh : port.shuttle <;> cases hh : port.home <;> cases he : port.extended <;> cases hl : port.load <;>
    by_cases hf : port.fault = some .release <;> simp [firstFailure, clearPortChecks, hsh, hh, he, hl, hf]

theorem cleared_of_other {port : Port} (h : port.fault ≠ some .release) :
    port.cleared = { port with shuttle := .homeEmpty, fault := none, awaitingRest := false } := by
  unfold Port.cleared
  split
  · exact absurd ‹_› h
  · rfl

theorem cleared_of_release {port : Port} (h : port.fault = some .release) : port.cleared =
    if port.load = true then { port with shuttle := .homeLoaded, fault := none, awaitingRest := false }
    else { port with shuttle := .homeEmpty, fault := none, loadRec := none, awaitingRest := false } := by
  unfold Port.cleared
  rw [h]

theorem afterPortClear_of_other {port : Port} (h : port.fault ≠ some .release) (s : State) : afterPortClear port s = s := by
  unfold afterPortClear
  split
  · exact absurd ‹_› h
  · rfl

theorem afterPortClear_of_release {port : Port} {lr : LoadRecord} (h : port.fault = some .release)
    (hlr : port.loadRec = some lr) (s : State) :
    afterPortClear port s = if port.load = true then judgeGate s else makeShort lr.order lr.line .jam s := by
  unfold afterPortClear
  rw [h, hlr]

/-! ## The station (R134) -/

theorem clearStation_fault {f : StationFault} (h : s.station.fault = some f) (n : Nat) : clearStation n s =
    checked s [(decide (n ≤ 1), .range, 1)] (accept (giveTurns [] s (clearStationFault f (n == 0) s))) := by
  unfold clearStation
  rw [h]

theorem leaveFault_cleared (s : State) : leaveFault s = s.setStation { s.station with
    fault := none, drive := true, diverter := if s.station.divertingNow then .idle else s.station.diverter } := by
  unfold leaveFault Station.divertingNow
  cases s.station.diverter <;> rfl

theorem destination_of {e : CollectorItem} {j : Nat} {o : Order} {l : Line} (ho : s.findOrder e.order = some (j, o))
    (hl : o.line? e.line = some l) :
    destination s e = if l.rejectBound then .reject else (o.lane.elim .reject .order) := by
  unfold destination
  rw [ho]
  dsimp only
  rw [hl]
  cases o.lane <;> rfl

/-- The head of the collector delivered once the fault is left. -/
theorem deliverFaulted_cons {e : CollectorItem} {es : List CollectorItem} (h : s.station.collector = e :: es) :
    deliverFaulted s = afterDelivery (judgeOrder e.order ((s.setStation (s.station.delivered (destination s e) e es)).setLine
      e.order e.line (deliveredState (destination s e)))) := by
  unfold deliverFaulted
  rw [h]
  dsimp only
  rw [deliverHead_cons h]

end Sys2Proof.Machine

namespace Sys2Proof.Certificates

open Sys2Proof Sys2Proof.Machine

/-- Settles O18: the three kinds of target, each through the checks of its own clearing. -/
theorem clearFaultTargets : Obligations.ClearFaultTargets := by
  refine ⟨fun c s a b hs ha h3 hc => ?payload, fun s g grp hs hg => ?group, fun s p b hs hb => ?port, fun s b hs => ?station⟩
  case payload =>
    have he : exec c s = .next (answer 0x15#8 (runClearFault [a, b] s.heard)) :=
      exec_clearFault hs hc rfl (unusedSet_of_lt ha h3)
    rw [he]
    exact ⟨fun h => by rw [runClearFault_noTarget ha h3 h, answer_refuse],
      fun h hb => by rw [runClearFault_scope h hb, answer_refuse],
      fun h16 h19 hb => by rw [runClearFault_portArgument h16 h19 hb, answer_refuse]⟩
  case group =>
    have hu : ∀ b, (readClear [BitVec.ofNat 8 g.val, b]).unusedSet = false := fun b => (groupTarget g b).2.2
    have hfault : exec (.clearFaultGroup [BitVec.ofNat 8 g.val, 0#8]) s =
        .next (answer 0x15#8 (clearGroup g grp s.heard)) := by
      rw [exec_clearFault hs (.inl rfl) rfl (hu 0#8), runClearFault_fault, withGroup_val (s := s.heard) hg]
    have hbalance : exec (.clearFaultBalance [BitVec.ofNat 8 g.val, 1#8]) s =
        .next (answer 0x15#8 (clearBalance g grp s.heard)) := by
      rw [exec_clearFault hs (.inr (.inl rfl)) rfl (hu 1#8), runClearFault_balance, withGroup_val (s := s.heard) hg]
    rw [hfault, hbalance]
    refine ⟨fun hst => ?_, fun hst hd => ?_, fun hst hd => ?_, fun hsus => ?_, fun hsus => ?_⟩
    · unfold clearGroup
      rw [checked_fail _ (by simp [firstFailure, hst]; exact ⟨rfl, rfl⟩), answer_refuse]
    · unfold clearGroup
      rw [checked_fail _ (by simp [firstFailure, hst, hd]; exact ⟨rfl, rfl⟩), answer_refuse]
    · simp [clearGroup, checked, firstFailure, hst, hd, enterReferencing, Group.cleared, answer_accept]
    · unfold clearBalance
      rw [checked_fail _ (by simp [firstFailure, hsus]; exact ⟨rfl, rfl⟩), answer_refuse]
    · simp [clearBalance, checked, firstFailure, hsus, Group.trusted, answer_accept]
  case port =>
    subst hb
    rw [exec_clearFaultPort hs p, clearPort_eq]
    have fails : ∀ detail, firstFailure (clearPortChecks (s.ports.get p)) = some (.nak .state detail) →
        ∀ b, Host.Outcome.next (φ := Fault) (ρ := Refusal)
          (answer 0x15#8 (checked s.heard (clearPortChecks (s.heard.ports.get p)) b)) =
          .next (s.heard.refusing 0x15#8 .state detail) := fun detail hf b => by
      rw [checked_fail _ (by exact hf), answer_refuse]
    have passes : firstFailure (clearPortChecks (s.ports.get p)) = none → ∀ u,
        Host.Outcome.next (φ := Fault) (ρ := Refusal)
          (answer 0x15#8 (checked s.heard (clearPortChecks (s.heard.ports.get p)) (accept u))) =
          .next (u.replying 0x15#8 []) := fun hf u => by
      rw [checked_pass (firstFailure_none_iff.mp (by exact hf)), answer_accept]
    rw [firstFailure_clearPort] at fails passes
    refine ⟨fun hsh => fails _ (if_pos hsh) _, fun hsh => ⟨fun h => fails _ ?_ _, fun hh he => ⟨fun hf hl => fails _ ?_ _,
      fun hf hl => ?_, fun lr hf hlr => ⟨fun hl => ?_, fun hl => ?_⟩⟩⟩⟩
    · simp [hsh, h]
    · simp [hsh, hh, he, hf, hl]
    · rw [passes (by simp [hsh, hh, he, hl]), afterPortClear_of_other (by exact hf), cleared_of_other (by exact hf)]
      rfl
    · rw [passes (by simp [hsh, hh, he, hf]), afterPortClear_of_release (by exact hf) (by exact hlr), cleared_of_release (by exact hf),
        if_pos (by exact hl), if_pos (by exact hl)]
      rfl
    · rw [passes (by simp [hsh, hh, he, hf]), afterPortClear_of_release (by exact hf) (by exact hlr), cleared_of_release (by exact hf),
        if_neg (by simp [hl]), if_neg (by simp [hl])]
      rfl
  case station =>
    rw [exec_clearFaultStation hs b]
    refine ⟨fun hf => ?_, fun f u hf hu => ⟨fun hb => ?_, fun hb => ?_, fun e es j o l v hb hd hcol ho hl hv => ?_⟩⟩
    · have : clearStation b.toNat s.heard = refuse s.heard .state 0xFF := by
        unfold clearStation
        rw [heard_station, hf]
      rw [this, answer_refuse]
    · rw [clearStation_fault (s := s.heard) hf, checked_fail (reason := .range) (detail := 1) _ (by simp [firstFailure]; omega), answer_refuse]
    · have hle : b.toNat ≤ 1 := by rcases hb with rfl | ⟨rfl, -⟩ <;> decide
      have hnot : (f.diversion.isSome && (b.toNat == 0)) = false := by
        rcases hb with rfl | ⟨rfl, hd⟩
        · exact Bool.and_false _
        · rw [hd]; rfl
      rw [clearStation_fault (s := s.heard) hf, checked_pass (by simp [hle]), answer_accept, hu]
      unfold clearStationFault
      rw [leaveFault_cleared, hnot]
      rfl
    · subst hb
      have hsome : (f.diversion.isSome && ((0#8 : Byte).toNat == 0)) = true := by
        rw [Option.isSome_iff_ne_none.mpr hd]; rfl
      rw [clearStation_fault (s := s.heard) hf, checked_pass (by simp), answer_accept]
      unfold clearStationFault
      have hleft : leaveFault s.heard = u := (leaveFault_cleared _).trans hu.symm
      rw [hsome, if_pos rfl, hleft]
      have hdest := destination_of (s := u) (e := e) (by rw [hu]; exact ho) hl
      rw [deliverFaulted_cons (s := u) (e := e) (es := es) (by rw [hu]; exact hcol), hdest]
      rcases hv with ⟨hr, rfl⟩ | ⟨i, hr, hi, rfl⟩
      · rw [if_pos hr, hu]
        rfl
      · rw [hr, if_neg (by decide), hi, hu]
        rfl

end Sys2Proof.Certificates

/-! SUPPORT. The walk of MAP_COMMIT (R26): where a slot stands in it, the tags seen before a slot, and the first failure. -/

namespace Sys2Proof.Machine

open Sys2Proof

variable {s : State} {cfg : CarouselConfig}

/-! ## Where a slot stands in the walk (R28) -/

/-- The slots of the carriers from number `n` on with their carrier and level. -/
def walkFrom (n : Nat) (carriers : List (List Slot)) : List (Nat × Nat × Slot) :=
  (numbered n carriers).flatMap fun (c, ls) => (numbered 0 ls).map fun (l, sl) => (c, l, sl)

theorem walk_eq (m : SlotMap) : m.walk = walkFrom 0 m.carriers := rfl

theorem walkFrom_cons (n : Nat) (ls : List Slot) (rest : List (List Slot)) : walkFrom n (ls :: rest) =
    ((numbered 0 ls).map fun (l, sl) => (n, l, sl)) ++ walkFrom (n + 1) rest := rfl

theorem numbered_getElem? {α : Type} (as : List α) (n i : Nat) :
    (numbered n as)[i]? = as[i]?.map fun a => (n + i, a) := by
  induction as generalizing n i with
  | nil => rfl
  | cons a as ih =>
    cases i with
    | zero => rfl
    | succ i =>
      have h := ih (n + 1) i
      rw [Nat.add_assoc, Nat.add_comm 1 i] at h
      exact h

theorem numbered_map_snd {α : Type} (as : List α) (n : Nat) : (numbered n as).map Prod.snd = as := by
  induction as generalizing n with
  | nil => rfl
  | cons a as ih => exact congrArg (a :: ·) (ih (n + 1))

theorem walkFrom_slots (carriers : List (List Slot)) (n : Nat) :
    (walkFrom n carriers).map (fun e => e.2.2) = carriers.flatten := by
  induction carriers generalizing n with
  | nil => rfl
  | cons ls rest ih =>
    rw [walkFrom_cons, List.map_append, ih, List.map_map]
    exact congrArg (· ++ rest.flatten) (numbered_map_snd ls 0)

/-- Slot `l` of carrier `c` follows the slots of the carriers before and the levels below. -/
theorem walkFrom_getElem? (carriers : List (List Slot)) (n i c l : Nat) (sl : Slot) :
    (walkFrom n carriers)[i]? = some (c, l, sl) ↔
      ∃ j ls, carriers[j]? = some ls ∧ ls[l]? = some sl ∧ c = n + j ∧ i = (carriers.take j).flatten.length + l := by
  induction carriers generalizing n i with
  | nil => simp [walkFrom, numbered]
  | cons ls rest ih =>
    rw [walkFrom_cons]
    by_cases hi : i < ls.length
    · rw [List.getElem?_append_left (by simpa using hi), List.getElem?_map, numbered_getElem?]
      constructor
      · intro h
        obtain ⟨e, hp, he⟩ := Option.map_eq_some_iff.mp h
        obtain ⟨a, ha, hae⟩ := Option.map_eq_some_iff.mp hp
        subst hae
        cases he
        rw [Nat.zero_add]
        exact ⟨0, ls, rfl, ha, rfl, (Nat.zero_add i).symm⟩
      · rintro ⟨j, ls', hj, hl, rfl, rfl⟩
        cases j with
        | zero =>
          cases hj
          simp only [List.take_zero, List.flatten_nil, List.length_nil, Nat.zero_add, hl, Option.map_some, Nat.add_zero]
        | succ j =>
          simp only [List.take_succ_cons, List.flatten_cons, List.length_append] at hi
          omega
    · rw [List.getElem?_append_right (by simpa using hi), List.length_map, length_numbered, ih]
      constructor
      · rintro ⟨j, ls', hj, hl, rfl, he⟩
        refine ⟨j + 1, ls', hj, hl, by omega, ?_⟩
        rw [List.take_succ_cons, List.flatten_cons, List.length_append]
        omega
      · rintro ⟨j, ls', hj, hl, rfl, he⟩
        cases j with
        | zero =>
          cases hj
          have hlt : l < ls.length := (List.getElem?_eq_some_iff.mp hl).1
          simp only [List.take_zero, List.flatten_nil, List.length_nil] at he
          omega
        | succ j =>
          rw [List.take_succ_cons, List.flatten_cons, List.length_append] at he
          exact ⟨j, ls', hj, hl, by omega, by omega⟩

theorem walk_getElem? (m : SlotMap) (i c l : Nat) (sl : Slot) : m.walk[i]? = some (c, l, sl) ↔
    ∃ ls, m.carriers[c]? = some ls ∧ ls[l]? = some sl ∧ i = (m.carriers.take c).flatten.length + l := by
  rw [walk_eq, walkFrom_getElem?]
  constructor
  · rintro ⟨j, ls, hj, hl, rfl, hi⟩
    rw [Nat.zero_add]
    exact ⟨ls, hj, hl, hi⟩
  · rintro ⟨ls, hj, hl, hi⟩
    exact ⟨c, ls, hj, hl, (Nat.zero_add c).symm, hi⟩

/-- The slots walked before slot `l` of carrier `c`. -/
theorem flatten_take_index {carriers : List (List Slot)} {c : Nat} {ls : List Slot} (h : carriers[c]? = some ls) {l : Nat}
    (hl : l ≤ ls.length) :
    carriers.flatten.take ((carriers.take c).flatten.length + l) = (carriers.take c).flatten ++ ls.take l := by
  obtain ⟨hlt, he⟩ := List.getElem?_eq_some_iff.mp h
  have hsplit : carriers.flatten = (carriers.take c).flatten ++ (ls ++ (carriers.drop (c + 1)).flatten) := by
    conv_lhs => rw [← List.take_append_drop c carriers, List.drop_eq_getElem_cons hlt, he]
    rw [List.flatten_append, List.flatten_cons]
  rw [hsplit, List.take_length_add_append, List.take_append_of_le_length hl]

theorem flatten_take_le (carriers : List (List Slot)) {c d : Nat} (h : c ≤ d) :
    (carriers.take c).flatten.length ≤ (carriers.take d).flatten.length := by
  have hsub : (carriers.take c).flatten.Sublist (carriers.take d).flatten :=
    (List.take_sublist_take_left (l := carriers) h).flatten
  exact hsub.length_le

/-- A slot of an earlier carrier stands earlier in the walk. -/
theorem walkIndex_lt {carriers : List (List Slot)} {c d : Nat} {ls : List Slot} (h : carriers[c]? = some ls) {k : Nat}
    (hk : k < ls.length) (hcd : c < d) : (carriers.take c).flatten.length + k < (carriers.take d).flatten.length := by
  have hs : (carriers.take (c + 1)).flatten.length = (carriers.take c).flatten.length + ls.length := by
    rw [List.take_add_one, h]
    simp
  have := flatten_take_le carriers (show c + 1 ≤ d from hcd)
  omega

/-! ## The tags seen (R26) -/

/-- The tags of the HELD slots of a list. -/
def heldTagsOf (sls : List Slot) : List Id32 := (sls.filter fun sl => sl.content == .held).map Slot.tag

theorem mem_foldl_seenWith (sls : List Slot) (seen : List Id32) (t : Id32) :
    t ∈ sls.foldl seenWith seen ↔ t ∈ seen ∨ t ∈ heldTagsOf sls := by
  induction sls generalizing seen with
  | nil => simp [heldTagsOf]
  | cons sl sls ih =>
    rw [List.foldl_cons, ih]
    unfold seenWith heldTagsOf
    by_cases h : sl.content = .held
    · simp only [h, if_true, List.mem_cons, List.filter_cons, beq_self_eq_true, List.map_cons]
      tauto
    · rw [if_neg h, List.filter_cons_of_neg (by simp [h])]

/-- A slot's failure depends on which tags were seen only. -/
theorem slotFailure_congr {seen seen' : List Id32} (h : ∀ t, t ∈ seen ↔ t ∈ seen') (l : Nat) (sl : Slot) :
    slotFailure s cfg seen l sl = slotFailure s cfg seen' l sl := by
  simp only [slotFailure, List.contains_iff_mem, h]

theorem slotFailure_seenWith (pre : List Slot) (l : Nat) (sl : Slot) :
    slotFailure s cfg (pre.foldl seenWith []) l sl = slotFailure s cfg (heldTagsOf pre) l sl :=
  slotFailure_congr (fun t => by rw [mem_foldl_seenWith]; simp) l sl

/-! ## The first failure -/

theorem walkLevels_pass {ls : List Slot} {c l : Nat} {seen : List Id32}
    (h : ∀ j sl, ls[j]? = some sl → slotFailure s cfg ((ls.take j).foldl seenWith seen) (l + j) sl = none) :
    walkLevels s cfg c l ls seen = .inr (ls.foldl seenWith seen) := by
  induction ls generalizing l seen with
  | nil => rfl
  | cons sl ls ih =>
    have h0 : slotFailure s cfg seen l sl = none := h 0 sl rfl
    rw [walkLevels, h0]
    exact ih fun j sl' hj => by rw [Nat.add_assoc, Nat.add_comm 1 j]; exact h (j + 1) sl' hj

theorem walkLevels_fail {ls : List Slot} {c l i : Nat} {seen : List Id32} {sl : Slot} {reason : Reason} (hi : ls[i]? = some sl)
    (hbefore : ∀ j sl', j < i → ls[j]? = some sl' →
      slotFailure s cfg ((ls.take j).foldl seenWith seen) (l + j) sl' = none)
    (hfail : slotFailure s cfg ((ls.take i).foldl seenWith seen) (l + i) sl = some reason) :
    walkLevels s cfg c l ls seen = .inl { reason := reason, carrier := c, level := some (l + i) } := by
  induction ls generalizing l i seen with
  | nil => cases hi
  | cons sl0 ls ih =>
    cases i with
    | zero =>
      have h0 : slotFailure s cfg seen l sl0 = some reason := by cases hi; exact hfail
      rw [walkLevels, h0]
      rfl
    | succ i =>
      have h0 : slotFailure s cfg seen l sl0 = none := hbefore 0 sl0 (by omega) rfl
      have hstep : ∀ j, l + 1 + j = l + (j + 1) := fun j => by omega
      rw [walkLevels, h0, ← hstep i]
      refine ih hi (fun j sl' hj he => ?_) ?_
      · rw [hstep j]
        exact hbefore (j + 1) sl' (by omega) he
      · rw [hstep i]
        exact hfail

/-- The slots of carrier number `c` of a list pass, with the slots of the carriers before it seen. -/
def carrierPasses (s : State) (cfg : CarouselConfig) (seen : List Id32) (carriers : List (List Slot)) (c : Nat) : Prop :=
  ∀ ls k sl, carriers[c]? = some ls → ls[k]? = some sl →
    slotFailure s cfg ((ls.take k).foldl seenWith ((carriers.take c).flatten.foldl seenWith seen)) k sl = none

/-- A carrier that passes, its mass limit included, is walked past. -/
theorem walkCarriers_step {ls : List Slot} {rest : List (List Slot)} {n : Nat} {seen : List Id32}
    (h : carrierPasses s cfg seen (ls :: rest) 0) (hl : (ls.map Slot.recorded).sum ≤ cfg.carrierLimit) :
    walkCarriers s cfg n (ls :: rest) seen = walkCarriers s cfg (n + 1) rest (ls.foldl seenWith seen) := by
  rw [walkCarriers, walkLevels_pass fun j sl hj => by rw [Nat.zero_add]; exact h ls j sl rfl hj]
  exact if_neg (by omega)

theorem carrierPasses_tail {ls : List Slot} {rest : List (List Slot)} {c : Nat} {seen : List Id32}
    (h : carrierPasses s cfg seen (ls :: rest) (c + 1)) : carrierPasses s cfg (ls.foldl seenWith seen) rest c := by
  intro ls' k sl hc hk
  have := h ls' k sl hc hk
  rwa [List.take_succ_cons, List.flatten_cons, List.foldl_append] at this

theorem walkCarriers_pass {carriers : List (List Slot)} {n : Nat} {seen : List Id32}
    (h : ∀ c, carrierPasses s cfg seen carriers c)
    (hl : ∀ c, ((carriers.getD c []).map Slot.recorded).sum ≤ cfg.carrierLimit) : walkCarriers s cfg n carriers seen = none := by
  induction carriers generalizing n seen with
  | nil => rfl
  | cons ls rest ih =>
    rw [walkCarriers_step (h 0) (hl 0)]
    exact ih (fun c => carrierPasses_tail (h (c + 1))) fun c => hl (c + 1)

theorem walkCarriers_slot {carriers : List (List Slot)} {n c k : Nat} {seen : List Id32} {ls : List Slot} {sl : Slot}
    {reason : Reason} (hc : carriers[c]? = some ls) (hk : ls[k]? = some sl)
    (hbefore : ∀ c', c' < c → carrierPasses s cfg seen carriers c')
    (hl : ∀ c', c' < c → ((carriers.getD c' []).map Slot.recorded).sum ≤ cfg.carrierLimit)
    (hlevels : ∀ j sl', j < k → ls[j]? = some sl' →
      slotFailure s cfg ((ls.take j).foldl seenWith ((carriers.take c).flatten.foldl seenWith seen)) j sl' = none)
    (hfail : slotFailure s cfg ((ls.take k).foldl seenWith ((carriers.take c).flatten.foldl seenWith seen)) k sl = some reason) :
    walkCarriers s cfg n carriers seen = some { reason := reason, carrier := n + c, level := some k } := by
  induction carriers generalizing n c seen with
  | nil => cases hc
  | cons ls0 rest ih =>
    cases c with
    | zero =>
      cases hc
      rw [walkCarriers, walkLevels_fail hk (fun j sl' hj he => by rw [Nat.zero_add]; exact hlevels j sl' hj he)
        (by rw [Nat.zero_add]; exact hfail)]
      simp
    | succ c =>
      rw [walkCarriers_step (hbefore 0 (by omega)) (hl 0 (by omega)), show n + (c + 1) = n + 1 + c by omega]
      rw [List.take_succ_cons, List.flatten_cons, List.foldl_append] at hlevels hfail
      exact ih hc (fun c' h => carrierPasses_tail (hbefore (c' + 1) (by omega))) (fun c' h => hl (c' + 1) (by omega))
        hlevels hfail

theorem walkCarriers_limit {carriers : List (List Slot)} {n c : Nat} {seen : List Id32} (hc : c < carriers.length)
    (hpass : ∀ c', c' ≤ c → carrierPasses s cfg seen carriers c')
    (hl : ∀ c', c' < c → ((carriers.getD c' []).map Slot.recorded).sum ≤ cfg.carrierLimit)
    (hfail : cfg.carrierLimit < ((carriers.getD c []).map Slot.recorded).sum) :
    walkCarriers s cfg n carriers seen = some { reason := .limit, carrier := n + c, level := none } := by
  induction carriers generalizing n c seen with
  | nil => exact absurd hc (by simp)
  | cons ls rest ih =>
    cases c with
    | zero =>
      rw [walkCarriers, walkLevels_pass fun j sl hj => by rw [Nat.zero_add]; exact hpass 0 le_rfl ls j sl rfl hj]
      exact if_pos hfail
    | succ c =>
      rw [walkCarriers_step (hpass 0 (by omega)) (hl 0 (by omega)), show n + (c + 1) = n + 1 + c by omega]
      exact ih (by simpa using hc) (fun c' h => carrierPasses_tail (hpass (c' + 1) (by omega)))
        (fun c' h => hl (c' + 1) (by omega)) hfail

/-! ## The walk by its index -/

/-- The tags of the HELD slots among the first of the walk. -/
theorem walk_take_tags (m : SlotMap) (i : Nat) :
    ((m.walk.take i).filter fun e => e.2.2.content == .held).map (fun e => e.2.2.tag) = heldTagsOf (m.carriers.flatten.take i) := by
  rw [← walkFrom_slots m.carriers 0, ← walk_eq, ← List.map_take, heldTagsOf, List.filter_map, List.map_map]
  rfl

/-- Slot `k` of carrier `c` passes as the slot of the walk that it is. -/
theorem slotFailure_of_walkPasses {m : SlotMap} {c k : Nat} {ls : List Slot} {sl : Slot} (hc : m.carriers[c]? = some ls)
    (hk : ls[k]? = some sl) : slotFailure s cfg ((ls.take k).foldl seenWith ((m.carriers.take c).flatten.foldl seenWith [])) k sl =
      slotFailure s cfg (((m.walk.take ((m.carriers.take c).flatten.length + k)).filter fun e => e.2.2.content == .held).map
        fun e => e.2.2.tag) k sl := by
  have hlen : k ≤ ls.length := (List.getElem?_eq_some_iff.mp hk).1.le
  rw [walk_take_tags, flatten_take_index hc hlen, ← List.foldl_append, slotFailure_seenWith]

theorem passes_of_walkPasses {m : SlotMap} {c k : Nat} {ls : List Slot} {sl : Slot} (hc : m.carriers[c]? = some ls)
    (hk : ls[k]? = some sl) (h : walkPasses s cfg m ((m.carriers.take c).flatten.length + k)) :
    slotFailure s cfg ((ls.take k).foldl seenWith ((m.carriers.take c).flatten.foldl seenWith [])) k sl = none := by
  rw [slotFailure_of_walkPasses hc hk]
  exact h c k sl ((walk_getElem? m _ c k sl).mpr ⟨ls, hc, hk, rfl⟩)

/-! ## MAP_COMMIT -/

theorem exec_mapCommit (h : s.Listens) (x : Index) :
    exec (.mapCommit [BitVec.ofNat 8 x.val]) s = .next (answer 0x22#8 (runMapCommit [BitVec.ofNat 8 x.val] s.heard)) :=
  exec_request (p := [BitVec.ofNat 8 x.val]) mapCommitRequest h rfl (by simp) rfl rfl

theorem runMapCommit_opened {x : Index} (hcfg : (s.carousels.get x).config = some cfg)
    (ho : (s.carousels.get x).map.state = .opened) : runMapCommit [BitVec.ofNat 8 x.val] s =
      (walkCarriers s cfg 0 (s.carousels.get x).map.carriers []).elim
        (s.setMap x { (s.carousels.get x).map with state := .committed, finding := none },
          .ack (u16 (s.carousels.get x).map.held.length ++ u32 ((s.carousels.get x).map.held.map Slot.recorded).sum))
        fun f => (s.setMap x { (s.carousels.get x).map with finding := some f }, .nak f.reason f.carrier) := by
  unfold runMapCommit
  rw [byteAt_ofNat_index, withCarousel_val]
  dsimp only
  rw [ho, hcfg]
  dsimp only
  cases walkCarriers s cfg 0 (s.carousels.get x).map.carriers [] <;> rfl

/-- An addressed MAP_COMMIT of an OPEN map, by what its walk finds. -/
theorem exec_mapCommit_opened (h : s.Listens) {x : Index} (hcfg : (s.carousels.get x).config = some cfg)
    (ho : (s.carousels.get x).map.state = .opened) {found : Option CommitFinding}
    (hf : walkCarriers s.heard cfg 0 (s.carousels.get x).map.carriers [] = found) :
    exec (.mapCommit [BitVec.ofNat 8 x.val]) s = .next (answer 0x22#8 (found.elim
        (s.heard.setMap x { (s.carousels.get x).map with state := .committed, finding := none },
          .ack (u16 (s.carousels.get x).map.held.length ++ u32 ((s.carousels.get x).map.held.map Slot.recorded).sum))
        fun f => (s.heard.setMap x { (s.carousels.get x).map with finding := some f }, .nak f.reason f.carrier))) := by
  subst hf
  rw [exec_mapCommit h, runMapCommit_opened (s := s.heard) hcfg ho]
  rfl

theorem runMapCommit_notOpened {x : Index} (ho : (s.carousels.get x).map.state ≠ .opened) :
    runMapCommit [BitVec.ofNat 8 x.val] s = refuse s .state 0xFF := by
  unfold runMapCommit
  rw [byteAt_ofNat_index, withCarousel_val]
  dsimp only
  split
  · rename_i h _
    exact absurd h ho
  · rfl

theorem walk_held (m : SlotMap) :
    (m.walk.filter fun e => e.2.2.content == .held).map (fun e => e.2.2) = m.held := by
  have hflat : m.held = m.carriers.flatten.filter fun sl => sl.content == .held := by
    rw [SlotMap.held, List.filter_flatten, List.flatMap_def]
  rw [hflat, ← walkFrom_slots m.carriers 0, ← walk_eq, List.filter_map]
  rfl

theorem slotFailure_eq (s : State) (cfg : CarouselConfig) (seen : List Id32) (l : Nat) (sl : Slot) :
    slotFailure s cfg seen l sl =
      if (sl.content = .held ∧ (sl.tag = 0#32 ∨ sl.recorded = 0 ∨ (sl.member ≠ 0 ∧ sl.setId = 0#32)))
          ∨ (sl.content = .empty ∧ (sl.tag ≠ 0#32 ∨ sl.setId ≠ 0#32 ∨ sl.member ≠ 0 ∨ sl.recorded ≠ 0))
      then some .range
      else if cfg.levelLimits.getD l 0 < sl.recorded then some .limit
      else if sl.content = .held ∧ (sl.tag ∈ seen ∨ places s sl.tag ≠ []) then some .conflict
      else none := by
  have hplace : (tagPlace s sl.tag).isSome = true ↔ places s sl.tag ≠ [] := by
    unfold tagPlace
    cases places s sl.tag <;> simp
  have hcoh : (!sl.coherent) = true ↔
      (sl.content = .held ∧ (sl.tag = 0#32 ∨ sl.recorded = 0 ∨ (sl.member ≠ 0 ∧ sl.setId = 0#32)))
        ∨ (sl.content = .empty ∧ (sl.tag ≠ 0#32 ∨ sl.setId ≠ 0#32 ∨ sl.member ≠ 0 ∨ sl.recorded ≠ 0)) := by
    unfold Slot.coherent
    cases sl.content with
    | held => simp [Nat.lt_one_iff]; tauto
    | empty => simp; tauto
  simp only [slotFailure, hcoh, List.contains_iff_mem, hplace]
  rfl

end Sys2Proof.Machine

namespace Sys2Proof.Certificates

open Sys2Proof Sys2Proof.Machine

/-- Settles O21: `walkCarriers` finds the first failure, carrier after carrier, and the walk's index names the same slot. -/
theorem mapCommitWalk : Obligations.MapCommitWalk := by
  refine ⟨fun s x cfg m hs hcfg hm ho => ?_, slotFailure_eq, fun s x hs ho => ?_⟩
  · subst hm
    have passes : ∀ c, (∀ k ls sl, (s.carousels.get x).map.carriers[c]? = some ls → ls[k]? = some sl →
        walkPasses s cfg (s.carousels.get x).map (((s.carousels.get x).map.carriers.take c).flatten.length + k)) →
        carrierPasses s.heard cfg [] (s.carousels.get x).map.carriers c := fun c h ls k sl hc hk =>
      passes_of_walkPasses hc hk (h k ls sl hc hk)
    refine ⟨fun i c l sl reason hi hbefore hl hfail => ?_, fun c hc hbefore hl hfail => ?_, fun hpass hl => ?_⟩
    · obtain ⟨ls, hc, hk, rfl⟩ := (walk_getElem? _ i c l sl).mp hi
      have hfind : walkCarriers s.heard cfg 0 (s.carousels.get x).map.carriers [] =
          some { reason := reason, carrier := 0 + c, level := some l } := by
        refine walkCarriers_slot hc hk (fun c' hc' => passes c' fun k ls' sl' h1 h2 => ?_) hl (fun j sl' hj he => ?_) ?_
        · have := walkIndex_lt h1 (List.getElem?_eq_some_iff.mp h2).1 hc'
          exact hbefore _ (by omega)
        · exact passes_of_walkPasses hc he (hbefore _ (by omega))
        · rw [slotFailure_of_walkPasses (s := s.heard) hc hk]
          exact hfail
      rw [Nat.zero_add] at hfind
      exact exec_mapCommit_opened hs hcfg ho hfind
    · have hfind : walkCarriers s.heard cfg 0 (s.carousels.get x).map.carriers [] =
          some { reason := .limit, carrier := 0 + c, level := none } := by
        refine walkCarriers_limit hc (fun c' hc' => passes c' fun k ls' sl' h1 h2 => ?_) hl hfail
        exact hbefore _ _ ((walk_getElem? _ _ c' k sl').mpr ⟨ls', h1, h2, rfl⟩) hc'
      rw [Nat.zero_add] at hfind
      exact exec_mapCommit_opened hs hcfg ho hfind
    · have hfind : walkCarriers s.heard cfg 0 (s.carousels.get x).map.carriers [] = none := by
        refine walkCarriers_pass (fun c => passes c fun k ls' sl' h1 h2 => hpass _) fun c => ?_
        by_cases hc : c < (s.carousels.get x).map.carriers.length
        · exact hl c hc
        · rw [List.getD_eq_default _ _ (by omega)]
          exact Nat.zero_le _
      refine (exec_mapCommit_opened hs hcfg ho hfind).trans ?_
      have hlen : (s.carousels.get x).map.held.length =
          ((s.carousels.get x).map.walk.filter fun e => e.2.2.content == .held).length := by
        rw [← walk_held, List.length_map]
      have hsum : ((s.carousels.get x).map.held.map Slot.recorded) =
          ((s.carousels.get x).map.walk.filter fun e => e.2.2.content == .held).map fun e => e.2.2.recorded := by
        rw [← walk_held, List.map_map]
        rfl
      rw [← hlen, ← hsum]
      rfl
  · rw [exec_mapCommit hs, runMapCommit_notOpened (s := s.heard) ho, answer_refuse]

end Sys2Proof.Certificates

/-! SUPPORT. The balance unit's changes (R44, R52) as records of the state, the lever weights over the whole loop (R1), and the
checks of SLOT_RESOLVE (R38). -/

namespace Sys2Proof.Machine

open Sys2Proof

variable {s : State} {g x : Index} {grp : Group}

/-! ## What depends on the members of the groups alone -/

theorem groupOf_congr {t : State} (h : ∀ g, (t.groups.get g).map Group.members = (s.groups.get g).map Group.members)
    (x : Index) : t.groupOf x = s.groupOf x := by
  unfold State.groupOf
  congr 1
  funext g
  have hg := h g
  cases ht : t.groups.get g <;> cases hs : s.groups.get g <;> simp_all

theorem membersOf_eq (s : State) (g : Index) : s.membersOf g = ((s.groups.get g).map Group.members).getD [] := by
  unfold State.membersOf
  cases s.groups.get g <;> rfl

theorem membersOf_some (hg : s.groups.get g = some grp) : s.membersOf g = grp.members := by
  unfold State.membersOf
  rw [hg]

theorem modGroup_memberLists {f : Group → Group} (hf : ∀ a, (f a).members = a.members) (g h : Index) :
    ((s.modGroup g f).groups.get h).map Group.members = (s.groups.get h).map Group.members := by
  rw [modGroup_eq]
  by_cases hh : h = g
  · subst hh
    rw [Quad.get_set_same, Option.map_map]
    exact congrArg (Option.map · _) (funext hf)
  · rw [Quad.get_set_ne _ _ hh]

/-! ## Stores changed one after the other -/

/-- A change of the store records at the ports of a list that a second change leaves as it is. -/
theorem foldl_modStore {f : StoreRecord → StoreRecord} (hf : ∀ r, f (f r) = f r) (ps : List Index) (s : State) :
    ∃ sts, ps.foldl (fun s p => s.modStore p f) s = { s with stores := sts }
      ∧ ∀ y, sts.get y = if y ∈ ps then (s.stores.get y).map f else s.stores.get y := by
  have once : ∀ (s : State) (p : Index), s.modStore p f = { s with stores := s.stores.set p ((s.stores.get p).map f) } :=
    fun s p => by
      unfold State.modStore
      cases h : s.stores.get p with
      | none => rw [Option.map_none, Quad.set_eq_self h]
      | some r => rfl
  have twice : ∀ o : Option StoreRecord, (o.map f).map f = o.map f := fun o => by cases o <;> simp [hf]
  induction ps generalizing s with
  | nil => exact ⟨s.stores, rfl, by simp⟩
  | cons p ps ih =>
    obtain ⟨sts, he, hy⟩ := ih (s.modStore p f)
    refine ⟨sts, ?_, fun y => ?_⟩
    · rw [List.foldl_cons, he, once]
    · rw [hy, once]
      by_cases hyp : y = p
      · subst hyp
        simp [twice]
      · simp [hyp, Quad.get_set_ne _ _ hyp]

theorem reconsiderStore_idem (r : StoreRecord) : reconsiderStore (reconsiderStore r) = reconsiderStore r := by
  unfold reconsiderStore
  by_cases h : r.cond = .balanceWait <;> simp [h]

theorem reconsiderLine_eq (s : State) (g : Index) (l : Line) : reconsiderLine s g l =
    if (l.state = .balanceWait false ∨ l.state = .balanceWait true) ∧ s.groupOf l.carousel = some g
      then { l with state := .balanceWait true } else l := by
  unfold reconsiderLine
  cases hst : l.state with
  | balanceWait b => cases b <;> by_cases hg : s.groupOf l.carousel = some g <;> simp [hst, hg]
  | _ => simp

/-- Every waiting task of a group is marked reconsidered (R52). -/
theorem reconsider_spec (g : Index) (s : State) : ∃ sts, reconsider g s = { s with
      sched := { s.sched with orders := s.sched.orders.map fun e => e.map fun o =>
        { o with lines := o.lines.map (reconsiderLine s g) } }
      stores := sts }
    ∧ ∀ y, sts.get y = if y ∈ s.membersOf g then (s.stores.get y).map reconsiderStore else s.stores.get y :=
  foldl_modStore reconsiderStore_idem (s.membersOf g)
    (s.mapOrders fun o => { o with lines := o.lines.map (reconsiderLine s g) })

/-! ## Mass handed to the balance unit (R44) -/

theorem handMass_not_taken {c : Nat} {dm : Int} {w : Named} (h : dm = 0 ∨ s.serviceGroup x = none) :
    handMass x c dm w s = s := by
  unfold handMass
  rcases h with rfl | h
  · exact if_pos rfl
  · split
    · rfl
    · rw [h]

theorem handMass_taken {c : Nat} {dm : Int} {w : Named} (hdm : dm ≠ 0) (hx : s.serviceGroup x = some g)
    (hg : s.groups.get g = some grp) : handMass x c dm w s =
      if w.hasE then reconsider g (s.setGroup g (some (grp.addMass (s.geometry g) c dm w)))
      else s.setGroup g (some (grp.addMass (s.geometry g) c dm w)) := by
  unfold handMass
  rw [if_neg hdm, hx]
  dsimp only
  rw [modGroup_of_get hg]

/-- Each profile that a change names takes the lever weights of the carrier's positions. -/
theorem addMass_profiles {geo : Geometry} (he : grp.effective.length = geo.carriers) (hp : grp.planned.length = geo.carriers)
    (c : Nat) (dm : Int) (w : Named) :
    (grp.addMass geo c dm w).effective.length = geo.carriers ∧ (grp.addMass geo c dm w).planned.length = geo.carriers
    ∧ ∀ k, k < geo.carriers →
      (grp.addMass geo c dm w).effective.getD k 0 = grp.effective.getD k 0 +
        (if w = .planned then 0 else leverWeight geo.carriers geo.bend ((c + k) % geo.carriers) * dm)
      ∧ (grp.addMass geo c dm w).planned.getD k 0 = grp.planned.getD k 0 +
        (if w = .effective then 0 else leverWeight geo.carriers geo.bend ((c + k) % geo.carriers) * dm) := by
  have hE : grp.effective.length = (massProfile geo c dm).length := by rw [he, massProfile_length]
  have hP : grp.planned.length = (massProfile geo c dm).length := by rw [hp, massProfile_length]
  have lengthE := (addProfile_length hE).trans he
  have lengthP := (addProfile_length hP).trans hp
  have atE : ∀ k, k < geo.carriers → (addProfile grp.effective (massProfile geo c dm)).getD k 0 =
      grp.effective.getD k 0 + leverWeight geo.carriers geo.bend ((c + k) % geo.carriers) * dm := fun k hk => by
    rw [addProfile_getD hE, massProfile_getD _ _ _ hk]
  have atP : ∀ k, k < geo.carriers → (addProfile grp.planned (massProfile geo c dm)).getD k 0 =
      grp.planned.getD k 0 + leverWeight geo.carriers geo.bend ((c + k) % geo.carriers) * dm := fun k hk => by
    rw [addProfile_getD hP, massProfile_getD _ _ _ hk]
  cases w with
  | effective => exact ⟨lengthE, hp, fun k hk => ⟨atE k hk, (Int.add_zero _).symm⟩⟩
  | planned => exact ⟨he, lengthP, fun k hk => ⟨(Int.add_zero _).symm, atP k hk⟩⟩
  | both => exact ⟨lengthE, lengthP, fun k hk => ⟨atE k hk, atP k hk⟩⟩

/-! ## The lever weights over the loop (R1) -/

theorem leverWeight_sum {geo : Geometry} (h : geo.Sound) :
    ((List.range geo.carriers).map (leverWeight geo.carriers geo.bend)).sum = 0 := by
  obtain ⟨hc, hhalf⟩ := h.carriers_eq
  have hsplit : geo.carriers = geo.carriers / 2 + geo.carriers / 2 := by omega
  have far : ∀ p ∈ List.range (geo.carriers / 2), leverWeight geo.carriers geo.bend (geo.carriers / 2 + p) =
      -leverWeight geo.carriers geo.bend p := fun p hp => by
    have hlt : p < geo.carriers / 2 := List.mem_range.mp hp
    rw [← leverWeight_half h (by omega), Nat.mod_eq_of_lt (by omega), Nat.add_comm]
  have hr : List.range geo.carriers =
      List.range (geo.carriers / 2) ++ (List.range (geo.carriers / 2)).map (geo.carriers / 2 + ·) := by
    conv_lhs => rw [hsplit]
    exact List.range_add
  rw [hr, List.map_append, List.sum_append, List.map_map]
  have hneg : (List.range (geo.carriers / 2)).map (leverWeight geo.carriers geo.bend ∘ (geo.carriers / 2 + ·)) =
      (List.range (geo.carriers / 2)).map fun p => -1 * leverWeight geo.carriers geo.bend p :=
    List.map_congr_left fun p hp => (far p hp).trans (neg_one_mul _).symm
  rw [hneg, List.sum_map_mul_left]
  ring

/-! ## SLOT_RESOLVE (R38, R39) -/

theorem i16_eq (z : Int) : i16 z = [BitVec.ofInt 8 z, BitVec.ofInt 8 (z.fdiv 256)] := by
  have hlow : BitVec.ofNat 8 (BitVec.ofInt 16 z).toNat = BitVec.ofInt 8 z := by
    apply BitVec.eq_of_toNat_eq
    simp only [BitVec.toNat_ofNat, BitVec.toNat_ofInt]
    omega
  have hhigh : BitVec.ofNat 8 ((BitVec.ofInt 16 z).toNat / 256) = BitVec.ofInt 8 (z.fdiv 256) := by
    apply BitVec.eq_of_toNat_eq
    simp only [BitVec.toNat_ofNat, BitVec.toNat_ofInt, Int.fdiv_eq_ediv_of_nonneg z (by omega : (0 : Int) ≤ 256)]
    omega
  rw [← hlow, ← hhigh]
  rfl

theorem exec_slotResolve (h : s.Listens) {p : List Byte} (hp : p.length = 15) :
    exec (.slotResolve p) s = .next (answer 0x25#8 (runSlotResolve p s.heard)) :=
  exec_request (p := p) slotResolveRequest h rfl (by omega) (by simp [slotResolveRequest, plainRequest, lenIs, hp]) rfl

theorem runSlotResolve_notCommitted {p : List Byte} (hx : byteAt p 0 = x.val) (hst : (s.carousels.get x).map.state ≠ .committed) :
    runSlotResolve p s = refuse s .state 0xFF := by
  unfold runSlotResolve
  dsimp only
  rw [hx, withCarousel_val]
  split
  · rename_i h _
    exact absurd h hst
  · rfl

theorem runSlotResolve_committed {p : List Byte} {cfg : CarouselConfig} (hx : byteAt p 0 = x.val)
    (hcfg : (s.carousels.get x).config = some cfg) (hst : (s.carousels.get x).map.state = .committed) :
    runSlotResolve p s = checked s (imageChecks cfg.carriers cfg.levels 0 (readImage p 1) ++ coherenceChecks (readImage p 1))
      ((s.slot? x (readImage p 1).carrier (readImage p 1).level).elim (refuse s .range 0) fun old =>
        checked s (resolveStateChecks s x cfg old (readImage p 1))
          (giveTurns [] s (resolveSlot x old (readImage p 1) s), .ack (i16 (resolveDelta old (readImage p 1))))) := by
  unfold runSlotResolve
  dsimp only
  rw [hx, withCarousel_val, hst, hcfg]
  dsimp only
  cases s.slot? x (readImage p 1).carrier (readImage p 1).level <;> rfl

theorem coherenceChecks_pass {im : SlotImage}
    (h1 : im.content = 1 → im.tag ≠ 0#32 ∧ 1 ≤ im.mass ∧ (im.member = 0 ∨ im.setId ≠ 0#32))
    (h0 : im.content ≠ 1 → im.tag = 0#32 ∧ im.setId = 0#32 ∧ im.member = 0 ∧ im.mass = 0) :
    firstFailure (coherenceChecks im) = none := by
  unfold coherenceChecks
  split
  · rename_i hc
    obtain ⟨ht, hm, hs⟩ := h1 hc
    rcases hs with hs | hs <;> simp [firstFailure, ht, hm, hs]
  · rename_i hc
    obtain ⟨ht, hs, hm, hmass⟩ := h0 hc
    simp [firstFailure, ht, hs, hm, hmass]

theorem firstFailure_resolveStateChecks (s : State) (x : Index) (cfg : CarouselConfig) (old : Slot) (im : SlotImage) :
    firstFailure (resolveStateChecks s x cfg old im) =
      if old.reservation ≠ .none then some (.nak .state 0xFE)
      else if cfg.levelLimits.getD im.level 0 < im.mass then some (.nak .limit 0)
      else if cfg.carrierLimit < im.mass + otherLoad s x im.carrier im.level then some (.nak .limit 1)
      else if (otherPlace s x im).isSome then some (.nak .conflict (((otherPlace s x im).map Place.code).getD 0))
      else if resolveBalanced s x old im = false then some (.nak .balance 0xFF) else none := by
  simp only [resolveStateChecks, firstFailure, beq_iff_eq, decide_eq_true_eq, CarouselConfig.levelLimit, Option.isNone_iff_eq_none]
  split_ifs <;> simp_all <;> omega

theorem otherPlace_eq_none {im : SlotImage} (h : im.content = 1 → ∀ pl ∈ places s im.tag, pl = .slot x im.carrier im.level) :
    otherPlace s x im = none := by
  unfold otherPlace
  split
  · rename_i hc
    exact List.find?_eq_none.mpr fun pl hpl => by simp [h hc pl hpl]
  · rfl

theorem resolveBalanced_of_service {im : SlotImage} {old : Slot} (hx : s.serviceGroup x = some g)
    (hg : s.groups.get g = some grp) : resolveBalanced s x old im =
      decide (trialPeak (s.geometry g) grp.effective im.carrier (resolveDelta old im) ≤ grp.params.ld) := by
  unfold resolveBalanced gatePasses
  rw [hx]
  dsimp only
  rw [hg]

end Sys2Proof.Machine

namespace Sys2Proof.Certificates

open Sys2Proof Sys2Proof.Machine

/-- Settles O22: a change taken is `addMass` with the waiting tasks reconsidered, and the lever weights from R1's table. -/
theorem handedMassChangesProfiles : Obligations.HandedMassChangesProfiles := by
  refine ⟨fun s x c dm w => ⟨handMass_not_taken, fun g grp hdm hx hg he hp => ?_⟩, fun geo hgeo => ⟨fun p => leverWeight_half hgeo,
    fun p hpr => ⟨leverWeight_front hpr, leverWeight_rear hpr⟩, fun j hj => ?_, leverWeight_sum hgeo⟩⟩
  · obtain ⟨lengthE, lengthP, values⟩ := addMass_profiles he hp c dm w
    have members : ∀ h, ((s.setGroup g (some (grp.addMass (s.geometry g) c dm w))).groups.get h).map Group.members =
        (s.groups.get h).map Group.members := fun h => by
      rw [← modGroup_of_get hg fun grp => grp.addMass (s.geometry g) c dm w]
      exact modGroup_memberLists (f := fun grp => grp.addMass (s.geometry g) c dm w) (fun _ => rfl) g h
    rw [handMass_taken hdm hx hg]
    by_cases hw : w = .planned
    · subst hw
      exact ⟨_, s.sched, s.stores, rfl, rfl, rfl, lengthE, lengthP, values, fun _ => ⟨rfl, rfl⟩, fun h => absurd rfl h⟩
    · have hE : w.hasE = true := by
        cases w with
        | planned => exact absurd rfl hw
        | effective => rfl
        | both => rfl
      have lines : reconsiderLine (s.setGroup g (some (grp.addMass (s.geometry g) c dm w))) g = fun l =>
          if (l.state = .balanceWait false ∨ l.state = .balanceWait true) ∧ s.groupOf l.carousel = some g
            then { l with state := .balanceWait true } else l := by
        funext l
        rw [reconsiderLine_eq, groupOf_congr members]
      obtain ⟨sts, hr, hsts⟩ := reconsider_spec g (s.setGroup g (some (grp.addMass (s.geometry g) c dm w)))
      rw [if_pos hE, hr]
      refine ⟨_, _, sts, rfl, rfl, rfl, lengthE, lengthP, values, fun h => absurd h hw, fun _ => ⟨fun y => ?_, ?_⟩⟩
      · rw [hsts, membersOf_some (grp := grp.addMass (s.geometry g) c dm w) (Quad.get_set_same _ _ _)]
        change (if y ∈ grp.members then _ else _) = _
        split
        · rename_i hy
          simp only [hy, true_and]
          rfl
        · rename_i hy
          simp [hy]
      · rw [lines]
        rfl
  · rw [show (geo.carriers - 2 * geo.bend) / 2 = runLength geo.carriers geo.bend from rfl, leverWeight_top hj]
    obtain ⟨-, ⟨hb, hb4, -⟩, -⟩ := hgeo
    generalize geo.bend = b at *
    interval_cases b <;> interval_cases j <;> rfl

/-- Settles O23: the checks of SLOT_RESOLVE in order, then the record replaced and its mass change handed. -/
theorem slotResolveReplacesRecord : Obligations.SlotResolveReplacesRecord := by
  refine ⟨?accepted, ?refused⟩
  case accepted =>
    rintro s p x cfg im old dm hs hlen hx rfl hcfg hst hf h1 h0 hold hres hlevel hcarrier htag rfl hbal
    have hcontent : (readImage p 1).content ≠ 1 → (readImage p 1).content = 0 := fun h => (hf 2).resolve_right h
    have hfields : firstFailure (imageChecks cfg.carriers cfg.levels 0 (readImage p 1) ++ coherenceChecks (readImage p 1)) = none := by
      rw [firstFailure_append, firstFailure_of_pass (imageChecks_pass hf 0)]
      exact coherenceChecks_pass h1 fun h => h0 (hcontent h)
    have hbalanced : resolveBalanced s x old (readImage p 1) = true := by
      cases hg : s.serviceGroup x with
      | none => unfold resolveBalanced; rw [hg]
      | some g =>
        obtain ⟨-, grp, hgrp, -⟩ := serviceGroup_eq_some.mp hg
        rw [resolveBalanced_of_service hg hgrp]
        exact decide_eq_true (hbal g grp hg hgrp)
    have hstate : firstFailure (resolveStateChecks s x cfg old (readImage p 1)) = none := by
      rw [firstFailure_resolveStateChecks, otherPlace_eq_none htag, hbalanced, if_neg (not_not.mpr hres),
        if_neg (Nat.not_lt.mpr hlevel), if_neg (Nat.not_lt.mpr hcarrier)]
      rfl
    rw [exec_slotResolve hs hlen, runSlotResolve_committed (s := s.heard) hx hcfg hst,
      checked_pass (firstFailure_none_iff.mp hfields), show s.heard.slot? x _ _ = some old from hold, Option.elim_some,
      checked_pass (firstFailure_none_iff.mp (by exact hstate)), i16_eq]
    rfl
  case refused =>
    rintro s p x cfg im old hs hlen hx rfl hcfg
    refine ⟨fun hst => ?_, fun hst => ?_⟩
    · rw [exec_slotResolve hs hlen, runSlotResolve_notCommitted (s := s.heard) hx hst, answer_refuse]
    have run := runSlotResolve_committed (s := s.heard) hx hcfg hst
    refine ⟨fun f hb hf => ?_, fun hf f hcoh => ?_, fun hf h1 h0 hold => ?_⟩
    · rw [exec_slotResolve hs hlen, run, checked_fail (reason := .range) (detail := f) _ (by
        rw [firstFailure_append, firstFailure_imageChecks hb hf 0, Nat.mul_zero, Nat.zero_add]; rfl), answer_refuse]
    · rw [exec_slotResolve hs hlen, run, checked_fail (reason := .range) (detail := f) _ ?_, answer_refuse]
      rw [firstFailure_append, firstFailure_of_pass (imageChecks_pass hf 0)]
      rcases hcoh with ⟨hc, ⟨ht, rfl⟩ | ⟨ht, hm, hset, rfl⟩ | ⟨ht, hm, hmass, rfl⟩⟩ |
        ⟨hc, ⟨ht, rfl⟩ | ⟨ht, hset, rfl⟩ | ⟨ht, hset, hm, rfl⟩ | ⟨ht, hset, hm, hmass, rfl⟩⟩
      case inl.inr.inr => rcases hm with hm | hm <;> simp [coherenceChecks, firstFailure, *]
      all_goals simp [coherenceChecks, firstFailure, *]
    have hcontent : (readImage p 1).content ≠ 1 → (readImage p 1).content = 0 := fun h => (hf 2).resolve_right h
    have hfields : firstFailure (imageChecks cfg.carriers cfg.levels 0 (readImage p 1) ++ coherenceChecks (readImage p 1)) = none := by
      rw [firstFailure_append, firstFailure_of_pass (imageChecks_pass hf 0)]
      exact coherenceChecks_pass h1 fun h => h0 (hcontent h)
    have fails : ∀ reason detail, firstFailure (resolveStateChecks s x cfg old (readImage p 1)) = some (.nak reason detail) →
        exec (.slotResolve p) s = .next (s.heard.refusing 0x25#8 reason detail) := fun reason detail h => by
      rw [exec_slotResolve hs hlen, run, checked_pass (firstFailure_none_iff.mp hfields), show s.heard.slot? x _ _ = some old from hold,
        Option.elim_some, checked_fail _ (by exact h), answer_refuse]
    rw [firstFailure_resolveStateChecks] at fails
    refine ⟨fun hres => fails _ _ (if_pos hres), fun hres => ⟨fun hlevel => fails _ _ ?_, fun hlevel => ⟨fun hcarrier => fails _ _ ?_,
      fun hcarrier => ⟨fun pl hc hpl => fails _ _ ?_, fun htag g grp hg hgrp hbal => fails _ _ ?_⟩⟩⟩⟩
    · rw [if_neg (not_not.mpr hres), if_pos hlevel]
    all_goals rw [if_neg (not_not.mpr hres), if_neg (Nat.not_lt.mpr hlevel)]
    · rw [if_pos hcarrier]
    all_goals rw [if_neg (Nat.not_lt.mpr hcarrier)]
    · have hother : otherPlace s x (readImage p 1) = some pl := (if_pos hc).trans hpl
      rw [hother]
      rfl
    · have hnot : resolveBalanced s x old (readImage p 1) = false := by
        rw [resolveBalanced_of_service hg hgrp]
        exact decide_eq_false (by unfold resolveDelta; omega)
      rw [otherPlace_eq_none htag, hnot]
      rfl

end Sys2Proof.Certificates

/-! SUPPORT. Carrier marks (R12 to R15, R65 to R67): how each is judged, and what it makes of its group. -/

namespace Sys2Proof.Machine

open Sys2Proof

variable {s : State} {g : Index} {grp : Group}

/-! ## The judgement of a mark (R13) -/

theorem countDirection_of_pos {n : Int} (h : 0 < n) : countDirection n = .forward := if_pos h

theorem countDirection_of_neg {n : Int} (h : n < 0) : countDirection n = .reverse := if_neg (by omega)

theorem inWindow_iff {geo : Geometry} {n : Int} : geo.inWindow n = true ↔
    geo.pulses - geo.pulses / 8 ≤ n.natAbs ∧ n.natAbs ≤ geo.pulses + geo.pulses / 8 := decide_eq_true_iff

theorem judgeMark_recrossing {geo : Geometry} {n : Int} {dir : Direction} (h : n.natAbs ≤ geo.pulses / 8) :
    judgeMark geo n dir = .recrossing := if_pos h

theorem judgeMark_step {geo : Geometry} {n : Int} {dir : Direction} (h : geo.pulses / 8 < n.natAbs)
    (hw : geo.inWindow n = true) (hd : countDirection n = dir) : judgeMark geo n dir = .step dir := by
  unfold judgeMark
  rw [if_neg (by exact Nat.not_le.mpr h), if_pos ⟨hw, hd⟩]

theorem judgeMark_fault {geo : Geometry} {n : Int} {dir : Direction} (h : geo.pulses / 8 < n.natAbs)
    (hbad : ¬(geo.inWindow n = true ∧ countDirection n = dir)) : judgeMark geo n dir = .fault := by
  unfold judgeMark
  rw [if_neg (by exact Nat.not_le.mpr h), if_neg hbad]

theorem homeAgrees_iff {home : Bool} {k : Nat} : homeAgrees home k = true ↔ (home = true ↔ k = 0) := by
  unfold homeAgrees
  cases home <;> simp

theorem stepRun_add (r : StepRun) (d : Direction) :
    r.add d = if r = .fresh ∨ r = .oneWay d then .oneWay d else .broken := by
  cases r with
  | fresh => rfl
  | oneWay d' => by_cases h : d = d' <;> simp [StepRun.add, h, eq_comm]
  | broken => rfl

/-- A group after a step of the loop (R14). -/
theorem countStep_eq (grp : Group) (d : Direction) (home : Bool) : grp.countStep d home =
    if home then { grp with
      homeSteps := 0, homeDir := .fresh
      revolution := if grp.homeDir = .fresh ∨ grp.homeDir = .oneWay d then grp.homeSteps + 1 else grp.revolution }
    else { grp with
      homeSteps := grp.homeSteps + 1
      homeDir := if grp.homeDir = .fresh ∨ grp.homeDir = .oneWay d then .oneWay d else .broken } := by
  unfold Group.countStep
  simp only [stepRun_add]
  by_cases h : grp.homeDir = .fresh ∨ grp.homeDir = .oneWay d
  · simp only [if_pos h, if_true]
  · simp only [if_neg h, reduceCtorEq, if_false]

/-! ## A mark in TRAVEL (R65) -/

theorem zeroCount_eq (hg : s.groups.get g = some grp) : zeroCount g s = s.setGroup g (some { grp with encoder := 0 }) :=
  modGroup_of_get hg _

theorem travelMark_fault {m : Move} {k : Nat} {home : Bool} (hg : s.groups.get g = some grp)
    (hv : judgeMark (s.geometry g) grp.encoder (s.channels.get g).dir = .fault) :
    travelMark g grp m k home s = groupFault g .position (s.setGroup g (some { grp with encoder := 0 })) := by
  unfold travelMark
  dsimp only
  rw [hv, if_pos rfl, zeroCount_eq hg]

theorem travelMark_recrossing {m : Move} {k : Nat} {home : Bool}
    (hv : judgeMark (s.geometry g) grp.encoder (s.channels.get g).dir = .recrossing) :
    travelMark g grp m k home s = if homeAgrees home k
      then dealWithMark g m k (s.setGroup g (some (grp.atMark k home .recrossing)))
      else groupFault g .position (s.setGroup g (some (grp.atMark k home .recrossing))) := by
  unfold travelMark
  dsimp only
  rw [hv]
  rfl

theorem travelMark_step {m : Move} {k : Nat} {home : Bool} {d : Direction}
    (hv : judgeMark (s.geometry g) grp.encoder (s.channels.get g).dir = .step d) :
    travelMark g grp m k home s = if homeAgrees home (stepOffset (s.geometry g).carriers k d)
      then dealWithMark g m (stepOffset (s.geometry g).carriers k d)
        (s.setGroup g (some (grp.atMark (stepOffset (s.geometry g).carriers k d) home (.step d))))
      else groupFault g .position
        (s.setGroup g (some (grp.atMark (stepOffset (s.geometry g).carriers k d) home (.step d)))) := by
  unfold travelMark
  dsimp only
  rw [hv]
  rfl

theorem stepOffset_forward (c k : Nat) : stepOffset c k .forward = (k + 1) % c := rfl

theorem stepOffset_reverse {c k : Nat} (h : k < c) : stepOffset c k .reverse = (k + c - 1) % c :=
  subMod_of_le (by omega) (by omega)

/-! ## The end of a move (R66, R67) -/

/-- RUN dropped at a group whose record is known, with a further change of that record. -/
theorem dropRun_setGroup_modGroup (a : Group) (f : Group → Group) :
    (dropRun g (s.setGroup g (some a))).modGroup g f =
      { followRun (s.setChannel g { s.channels.get g with run := false, speed := .creep }) with
        groups := s.groups.set g (some (f { a with stallTimer := none })) } := by
  have hd : dropRun g (s.setGroup g (some a)) =
      { followRun (s.setChannel g { s.channels.get g with run := false, speed := .creep }) with
        groups := s.groups.set g (some { a with stallTimer := none }) } := by
    rw [dropRun, lowerRun_eq]
    simp only [setGroup_groups, Quad.get_set_same, Option.map_some, Quad.set_set]
    exact followRun_groups (s.setChannel g _) _
  rw [hd, modGroup_eq]
  simp only [Quad.get_set_same, Option.map_some, Quad.set_set]

theorem reportMark_keeps (grp : Group) (k : Nat) (last : Bool) :
    (grp.reportMark k last).pausePending = grp.pausePending ∧ (grp.reportMark k last).current = grp.current := by
  have h := (reportMark_noted grp k last).core
  have hpause := congrArg Group.pausePending h
  have hcurrent := congrArg Group.current h
  exact ⟨hpause, hcurrent⟩

theorem dealWithMark_on {m : Move} {k : Nat} {a : Group} (hp : a.pausePending = false) (hh : m.holdStop = false)
    (hk : k ≠ m.target) : dealWithMark g m k (s.setGroup g (some a)) = s.setGroup g (some (a.reportMark k false)) := by
  unfold dealWithMark
  simp only [setGroup_groups, Quad.get_set_same, hp, hh, Bool.or_self, Bool.false_eq_true, if_false, if_neg hk, Bool.false_or,
    beq_eq_false_iff_ne.mpr hk, modGroup_eq, Option.map_some, Quad.set_set]
  rfl

/-- The group that a mark stops (R67). -/
def Group.stoppedAt (grp : Group) (k : Nat) : Group :=
  if grp.pausePending then { grp.reportMark k true with
    stallTimer := none, state := .paused, current := none, next := none, pausePending := false, arrivalOpen := false
    settle := false }
  else { grp.reportMark k true with stallTimer := none, current := none, next := none, settle := true }

theorem dealWithMark_stop {m : Move} {k : Nat} {a : Group} (h : a.pausePending = true ∨ m.holdStop = true) :
    dealWithMark g m k (s.setGroup g (some a)) = judgeMove g
      { followRun (s.setChannel g { s.channels.get g with run := false, speed := .creep }) with
        groups := s.groups.set g (some (a.stoppedAt k)) } := by
  have hstop : (a.pausePending || m.holdStop) = true := Bool.or_eq_true_iff.mpr h
  have hm : (s.setGroup g (some a)).modGroup g (fun grp => grp.reportMark k true) = s.setGroup g (some (a.reportMark k true)) := by
    rw [modGroup_eq]
    simp [State.setGroup]
  unfold dealWithMark
  simp only [setGroup_groups, Quad.get_set_same, hstop, if_true, Bool.true_or, hm]
  unfold stopMove
  dsimp only
  rw [dropRun_setGroup_modGroup]
  unfold Group.stoppedAt
  simp only [(reportMark_keeps a k true).1]
  split <;> rfl

theorem dealWithMark_arrive {m : Move} {k : Nat} {a : Group} (hp : a.pausePending = false) (hh : m.holdStop = false)
    (hk : k = m.target) (hc : a.current = some m) : dealWithMark g m k (s.setGroup g (some a)) = judgeMove g
      { followRun (s.setChannel g { s.channels.get g with run := false, speed := .creep }) with
        groups := s.groups.set g (some { a.reportMark k true with
          stallTimer := none, current := some { m with phase := .settling }, settle := true }) } := by
  have hm : (s.setGroup g (some a)).modGroup g (fun grp => grp.reportMark k true) = s.setGroup g (some (a.reportMark k true)) := by
    rw [modGroup_eq]
    simp [State.setGroup]
  have hcur : (a.reportMark k true).current = some m := (reportMark_keeps a k true).2.trans hc
  have hstop : (a.pausePending || m.holdStop) = false := by rw [hp, hh]; rfl
  have hmove : { a.reportMark k true with
      stallTimer := none, settle := true
      current := (a.reportMark k true).current.map fun m => { m with phase := MovePhase.settling } } =
      { a.reportMark k true with
        stallTimer := none, current := some { m with phase := .settling }, settle := true } := by
    rw [hcur]
    rfl
  unfold dealWithMark
  simp only [setGroup_groups, Quad.get_set_same, hstop, Bool.false_eq_true, if_false, Bool.false_or,
    beq_iff_eq.mpr hk, if_pos hk, hm]
  unfold arrive
  dsimp only
  rw [dropRun_setGroup_modGroup]
  exact congrArg (fun new => judgeMove g { followRun (s.setChannel g _) with groups := s.groups.set g (some new) }) hmove

/-! ## A stationary group (R15) -/

/-- The states in which a mark finds its group stationary. -/
theorem takeMark_stationary {k : Nat} {home : Bool} (hg : s.groups.get g = some grp) (hk : grp.k = some k)
    (h : grp.state = .idle ∨ grp.state = .paused ∨ (grp.state = .referencing ∧ (s.channels.get g).run = false)
      ∨ (grp.state = .moving ∧ ∀ m, grp.current = some m → m.phase ≠ .travel)) :
    takeMark g home s = stationaryMark g grp k home s := by
  unfold takeMark
  rw [hg]
  dsimp only
  rcases h with h | h | ⟨h, hr⟩ | ⟨h, hm⟩
  · simp only [h, hk]
  · simp only [h, hk]
  · simp only [h, hk, hr, Bool.false_eq_true, if_false]
  · simp only [h, hk]
    cases hc : grp.current with
    | none => rfl
    | some m => exact if_neg (hm m hc)

theorem stationaryMark_recrossing {k : Nat} {home : Bool} (hg : s.groups.get g = some grp)
    (h : grp.encoder.natAbs ≤ (s.geometry g).pulses / 8) :
    stationaryMark g grp k home s = if homeAgrees home k
      then s.setGroup g (some { grp with encoder := 0, homeDir := .broken })
      else groupFault g .position (s.setGroup g (some { grp with encoder := 0, homeDir := .broken })) := by
  have hm : (zeroCount g s).modGroup g Group.countRecrossing =
      s.setGroup g (some { grp with encoder := 0, homeDir := .broken }) := by
    rw [zeroCount_eq hg, modGroup_eq]
    simp [State.setGroup, Group.countRecrossing]
  unfold stationaryMark
  rw [if_pos (by exact h), hm]

theorem stationaryMark_away {k : Nat} {home : Bool} (hg : s.groups.get g = some grp)
    (h : (s.geometry g).pulses / 8 < grp.encoder.natAbs) : ∃ n, stationaryMark g grp k home s =
      groupFault g .position (s.setGroup g (some { grp with encoder := n })) := by
  unfold stationaryMark
  rw [if_neg (by exact Nat.not_le.mpr h)]
  split
  · exact ⟨0, by rw [zeroCount_eq hg]⟩
  · exact ⟨grp.encoder, by rw [State.setGroup, Quad.set_eq_self hg]⟩

/-! ## A referencing run (R12) -/

theorem takeMark_referencing {home : Bool} (hg : s.groups.get g = some grp) (hst : grp.state = .referencing)
    (hr : (s.channels.get g).run = true) : takeMark g home s = referencingMark g grp home s := by
  unfold takeMark
  simp only [hg, hst, hr, if_true]

/-- A group that has counted one mark more of its referencing run. -/
def Group.markCounted (grp : Group) : Group :=
  { grp with markCount := grp.markCount + 1, encoder := 0, stallTimer := some grp.params.stallTime }

theorem referencingMark_eq {home : Bool} (hg : s.groups.get g = some grp) : referencingMark g grp home s =
    if (grp.markCount == 0 || ((s.geometry g).inWindow grp.encoder && countDirection grp.encoder == .forward)) = false
      then groupFault g .position (s.setGroup g (some grp.markCounted))
    else if home then findHome g (s.setGroup g (some grp.markCounted))
    else if (s.geometry g).carriers + 2 ≤ grp.markCount + 1 then groupFault g .position (s.setGroup g (some grp.markCounted))
    else s.setGroup g (some grp.markCounted) := by
  have hm : (s.modGroup g fun a => { a with
      markCount := grp.markCount + 1, encoder := 0, stallTimer := some a.params.stallTime }) =
      s.setGroup g (some grp.markCounted) := modGroup_of_get hg _
  unfold referencingMark
  dsimp only
  rw [hm]
  simp only [Bool.not_eq_true']

theorem findHome_eq (a : Group) : findHome g (s.setGroup g (some a)) =
    { followRun (s.setChannel g { s.channels.get g with run := false, speed := .creep }) with
      groups := s.groups.set g (some { a with
        k := some 0, encoder := 0, settle := true, stallTimer := none, homeSteps := 0, homeDir := .fresh }) } :=
  dropRun_setGroup_modGroup a _

end Sys2Proof.Machine

namespace Sys2Proof.Certificates

open Sys2Proof Sys2Proof.Machine

/-- Settles O27: `judgeMark` splits on the count, `atMark` is the group marked, and `dealWithMark` goes on, stops or arrives. -/
theorem travelMarksAndMoveEnd : Obligations.TravelMarksAndMoveEnd := by
  rintro s g grp marked m dir k k' n steps rv hd home hg hst hc hm hk hlt rfl rfl
  have take : takeMark g home s = travelMark g grp m k home s := by
    unfold takeMark
    simp only [hg, hst, hk, hc, hm, if_true]
  have event : ∀ u, travelMark g grp m k home s = u → exec (.carrierMark g home) s = .next (giveTurns [] s u) := fun u h => by
    rw [← h, ← take]
    rfl
  have sign : (s.geometry g).pulses / 8 < grp.encoder.natAbs → grp.encoder < 0 ∨ 0 < grp.encoder := fun h => by omega
  refine ⟨fun hbad => event _ (travelMark_fault hg ?_), fun hok hmarked => ?_⟩
  · have hout : (s.geometry g).pulses / 8 < grp.encoder.natAbs := by rcases hbad with h | h | h <;> exact h.1
    refine judgeMark_fault hout fun ⟨hw, hdir⟩ => ?_
    obtain ⟨hlow, hhigh⟩ := inWindow_iff.mp hw
    rcases hbad with h | h | ⟨-, h⟩
    · omega
    · omega
    · rcases sign hout with hs | hs
      · rw [countDirection_of_neg hs, h.mpr hs] at hdir
        cases hdir
      · rw [countDirection_of_pos hs] at hdir
        have := h.mp hdir.symm
        omega
  · have marks : travelMark g grp m k home s = if homeAgrees home k' then dealWithMark g m k' (s.setGroup g (some marked))
        else groupFault g .position (s.setGroup g (some marked)) := by
      rcases hok with ⟨hn, rfl, rfl, rfl, rfl⟩ | ⟨hn, hlow, hhigh, hdir, hcount⟩
      · rw [travelMark_recrossing (judgeMark_recrossing hn), hmarked]
        rfl
      · have step : ∀ d, (s.channels.get g).dir = d → countDirection grp.encoder = d →
            k' = stepOffset (s.geometry g).carriers k d → marked = grp.atMark k' home (.step d) →
            travelMark g grp m k home s = if homeAgrees home k' then dealWithMark g m k' (s.setGroup g (some marked))
              else groupFault g .position (s.setGroup g (some marked)) := fun d hd hcd hk' hmk => by
          rw [travelMark_step (judgeMark_step hn (inWindow_iff.mpr ⟨hlow, hhigh⟩) (hcd.trans hd.symm)), hmk, hd, hk']
        have counted : ∀ d, (s.channels.get g).dir = d → marked = grp.atMark k' home (.step d) := fun d hd => by
          change marked = Group.countStep { grp with k := some k', encoder := 0, stallTimer := some grp.params.stallTime } d home
          rw [countStep_eq, hmarked, ← hd]
          rcases hcount with ⟨rfl, rfl, rfl, rfl⟩ | ⟨rfl, rfl, rfl, rfl⟩ <;> rfl
        rcases hdir with ⟨hd, hpos, hk'⟩ | ⟨hd, hneg, hk'⟩
        · exact step .forward hd (countDirection_of_pos hpos) hk' (counted _ hd)
        · exact step .reverse hd (countDirection_of_neg hneg) (hk'.trans (stepOffset_reverse hlt).symm) (counted _ hd)
    have hpause : marked.pausePending = grp.pausePending := by rw [hmarked]
    have hcur : marked.current = some m := by rw [hmarked]; exact hc
    refine ⟨fun hno => event _ ?_, fun hyes => ⟨fun hp hh ht => event _ ?_, fun hend => ?_⟩⟩
    · rw [marks, if_neg fun h => by have := homeAgrees_iff.mp h; tauto]
    all_goals rw [if_pos (homeAgrees_iff.mpr hyes)] at marks
    · rw [marks, dealWithMark_on (hpause.trans hp) hh ht]
    · by_cases hstop : grp.pausePending = true ∨ m.holdStop = true
      · refine ⟨marked.stoppedAt k', event _ ?_, fun hp => ?_, fun hp _ => ?_, fun hp hh => ?_⟩
        · rw [marks, dealWithMark_stop (hpause.symm ▸ hstop)]
        · exact if_pos (hpause.trans hp)
        · exact if_neg (by simp [hpause, hp])
        · simp [hp, hh] at hstop
      · obtain ⟨hp, hh⟩ := not_or.mp hstop
        have hp := Bool.eq_false_iff.mpr hp
        have hh := Bool.eq_false_iff.mpr hh
        have ht : k' = m.target := by simpa [hp, hh] using hend
        refine ⟨{ marked.reportMark k' true with
          stallTimer := none, current := some { m with phase := .settling }, settle := true }, event _ ?_, fun h => ?_,
          fun _ h => ?_, fun _ _ => rfl⟩
        · rw [marks, dealWithMark_arrive (hpause.trans hp) hh ht hcur]
        · rw [hp] at h; cases h
        · rw [hh] at h; cases h

/-- Settles O28: the stationary mark, the referencing mark, and the settle and encoder events. -/
theorem stationaryMarksPulsesAndSettling : Obligations.StationaryMarksPulsesAndSettling := by
  have event : ∀ (s : State) (g : Index) (home : Bool) (u : State), takeMark g home s = u →
      exec (.carrierMark g home) s = .next (giveTurns [] s u) := fun s g home u h => by
    rw [← h]
    rfl
  refine ⟨fun s g home => ⟨fun hg => event _ _ _ _ ?none, fun grp hg => ⟨fun hidle => event _ _ _ _ ?unheeded, fun k hk hst =>
    ⟨fun hn hh => event _ _ _ _ ?recross, fun hbad => ?away⟩⟩⟩, fun s g grp home hg hst hr => ?run, fun s g grp hg =>
    ⟨fun ho f => ?pulse, fun ho f => ?offline, fun hst hs hp => ?arrived, fun hst hs hp => ?paused, fun hst hs => ?referenced⟩⟩
  case none =>
    unfold takeMark
    rw [hg]
  case unheeded =>
    unfold takeMark
    rcases hidle with h | h | ⟨h, hk⟩ | ⟨h, hr, hk⟩
    · simp only [hg, h]
    · simp only [hg, h]
    · simp only [hg, h, hk]
    · simp only [hg, h, hr, hk, Bool.false_eq_true, if_false]
  case recross =>
    rw [takeMark_stationary hg hk hst, stationaryMark_recrossing hg hn, if_pos (homeAgrees_iff.mpr hh)]
  case away =>
    by_cases hn : (s.geometry g).pulses / 8 < grp.encoder.natAbs
    · obtain ⟨n, he⟩ := stationaryMark_away (k := k) (home := home) hg hn
      exact ⟨{ grp with encoder := n }, event _ _ _ _ ((takeMark_stationary hg hk hst).trans he), rfl⟩
    · have hh : ¬homeAgrees home k = true := fun h => (hbad.resolve_left hn) (homeAgrees_iff.mp h)
      refine ⟨{ grp with encoder := 0, homeDir := .broken }, event _ _ _ _ ?_, rfl⟩
      rw [takeMark_stationary hg hk hst, stationaryMark_recrossing hg (by omega), if_neg hh]
  case run =>
    have take := (takeMark_referencing (home := home) hg hst hr).trans (referencingMark_eq hg)
    refine ⟨grp.markCounted, rfl, fun ⟨hm, hout⟩ => event _ _ _ _ ?_, fun hok => ?_⟩
    · have hbad : (grp.markCount == 0 || ((s.geometry g).inWindow grp.encoder && countDirection grp.encoder == .forward)) = false := by
        have hwin : ¬((s.geometry g).inWindow grp.encoder = true ∧ countDirection grp.encoder = .forward) := fun ⟨hw, hd⟩ => by
          obtain ⟨hlow, hhigh⟩ := inWindow_iff.mp hw
          have hpos : 0 < grp.encoder := by
            by_contra h
            rw [countDirection, if_neg h] at hd
            cases hd
          omega
        simpa [hm] using hwin
      rw [take, if_pos hbad]
    · have hgood : ¬(grp.markCount == 0 || ((s.geometry g).inWindow grp.encoder && countDirection grp.encoder == .forward)) = false := by
        rcases hok with h | ⟨hlow, hhigh, hpos⟩
        · simp [h]
        · have hw : (s.geometry g).inWindow grp.encoder = true := inWindow_iff.mpr (by omega)
          simp [hw, countDirection_of_pos hpos]
      rw [if_neg hgood] at take
      refine ⟨fun hh => event _ _ _ _ ?_, fun hh hn => event _ _ _ _ ?_, fun hh hn => event _ _ _ _ ?_⟩
      · rw [take, if_pos hh, findHome_eq]
        rfl
      · rw [take, hh, if_neg Bool.false_ne_true, if_pos hn]
      · rw [take, hh, if_neg Bool.false_ne_true, if_neg (by omega)]
  case pulse =>
    change Host.Outcome.next (s.modGroup g fun grp => grp.pulse f) = _
    rw [modGroup_of_get hg, Group.pulse, if_neg ho]
  case offline =>
    change Host.Outcome.next (s.modGroup g fun grp => grp.pulse f) = _
    rw [modGroup_of_get hg, Group.pulse, if_pos ho, State.setGroup, Quad.set_eq_self hg]
  case arrived =>
    change execSettleTimerExpiry g s = _
    simp [execSettleTimerExpiry, hg, hst, hs, hp, Group.settled]
  case paused =>
    change execSettleTimerExpiry g s = _
    simp [execSettleTimerExpiry, hg, hst, hs, hp, Group.settled, Group.paused]
  case referenced =>
    change execReferencingSettled g s = _
    simp [execReferencingSettled, hg, hst, hs]

end Sys2Proof.Certificates

/-! SUPPORT. The torque engine and monitor (R151 to R156): the conversion, the next visit, the end of a visit, and the auto
tasks of a group that becomes BALANCE_SUSPECT. -/

namespace Sys2Proof.Machine

open Sys2Proof

variable {s : State} {g : Index} {grp : Group}

/-! ## The conversion (R152) -/

theorem torqueOf_below {duty fs : Nat} (h : duty < 50 ∨ 950 < duty) : torqueOf duty fs = none := if_pos h

theorem torqueOf_low {duty fs : Nat} (h1 : 50 ≤ duty) (h2 : duty < 100) : torqueOf duty fs = some (-(fs : Int)) := by
  unfold torqueOf
  rw [if_neg (by omega)]
  simp only [if_pos h2]
  have : ((((100 : Nat) : Int) - 500) * (fs : Int)) = 400 * -(fs : Int) := by push_cast; ring
  rw [this, Int.mul_tdiv_cancel_left _ (by decide)]

theorem torqueOf_reverse {duty fs : Nat} (h1 : 100 ≤ duty) (h2 : duty < 500) :
    torqueOf duty fs = some (-(((500 - duty) * fs / 400 : Nat) : Int)) := by
  unfold torqueOf
  rw [if_neg (by omega)]
  simp only [if_neg (by omega : ¬duty < 100), if_neg (by omega : ¬900 < duty)]
  have hsub : (((500 - duty) * fs : Nat) : Int) = (500 - (duty : Int)) * fs := by
    rw [Nat.cast_mul, Nat.cast_sub (by omega)]
    rfl
  have : (((duty : Int) - 500) * (fs : Int)) = -(((500 - duty) * fs : Nat) : Int) := by rw [hsub]; ring
  rw [this, Int.neg_tdiv]
  rfl

theorem torqueOf_forward {duty fs : Nat} (h1 : 500 ≤ duty) (h2 : duty ≤ 900) :
    torqueOf duty fs = some (((duty - 500) * fs / 400 : Nat) : Int) := by
  unfold torqueOf
  rw [if_neg (by omega)]
  simp only [if_neg (by omega : ¬duty < 100), if_neg (by omega : ¬900 < duty)]
  have : (((duty : Int) - 500) * (fs : Int)) = (((duty - 500) * fs : Nat) : Int) := by
    rw [Nat.cast_mul, Nat.cast_sub (by omega)]
    rfl
  rw [this]
  rfl

theorem torqueOf_high {duty fs : Nat} (h1 : 900 < duty) (h2 : duty ≤ 950) : torqueOf duty fs = some (fs : Int) := by
  unfold torqueOf
  rw [if_neg (by omega)]
  simp only [if_neg (by omega : ¬duty < 100), if_pos h1]
  have : ((((900 : Nat) : Int) - 500) * (fs : Int)) = 400 * (fs : Int) := by push_cast; ring
  rw [this, Int.mul_tdiv_cancel_left _ (by decide)]

/-! ## The next visit (R151) -/

theorem nextDriving_none_iff (s : State) (last : Index) :
    s.nextDriving last = none ↔ ∀ h : Index, (s.channels.get h).run = false := by
  have round : ∀ last h : Index, h ∈ [last + 1, last + 2, last + 3, last] := by decide
  unfold State.nextDriving
  rw [List.find?_eq_none]
  exact ⟨fun h i => Bool.eq_false_iff.mpr (h i (round last i)), fun h i _ => by simp [h i]⟩

/-- The groups are asked in the order of their distance above the one last visited. -/
theorem nextDriving_some {last h : Index} (hn : s.nextDriving last = some h) :
    (s.channels.get h).run = true ∧ ∀ i : Index, (i - last - 1).val < (h - last - 1).val → (s.channels.get i).run = false := by
  have place : ∀ (last : Index) (j : Fin 4), ([last + 1, last + 2, last + 3, last] : List Index)[j.val] - last - 1 = j := by
    decide
  have found : ∀ last i : Index, ([last + 1, last + 2, last + 3, last] : List Index)[(i - last - 1).val] = i := by decide
  obtain ⟨hr, j, hj, he, hbefore⟩ := List.find?_eq_some_iff_getElem.mp hn
  refine ⟨hr, fun i hi => ?_⟩
  have hpos : (h - last - 1).val = j := by rw [← he]; exact congrArg Fin.val (place last ⟨j, hj⟩)
  have hlow := hbefore (i - last - 1).val (hpos ▸ hi)
  rw [found last i] at hlow
  simpa using hlow

theorem followRun_visiting (h : s.audit.engine.measuring = some g) :
    followRun s = if (s.channels.get g).run then s else beginVisit s := by
  unfold followRun
  rw [h]

theorem followRun_idle (h : s.audit.engine.measuring = none) : followRun s = beginVisit s := by
  unfold followRun
  rw [h]

/-! ## The end of a visit (R151, R153) -/

/-- A sample that does not fault its group ends the visit and the engine goes on. -/
theorem endVisit_on {t : Option Int} (hm : s.audit.engine.measuring = some g) (hg : s.groups.get g = some grp)
    (h : t = none → grp.invalidCount < 3) :
    endVisit g t s = beginVisit (s.setGroup g (some (grp.sampled t))) := by
  have hno : ¬(t.isNone = true ∧ (grp.sampled t).invalidCount = 4) := by
    rintro ⟨hnone, h4⟩
    cases t with
    | none =>
      have hlt := h rfl
      have : min (grp.invalidCount + 1) 4 = 4 := h4
      omega
    | some v => cases hnone
  unfold endVisit
  rw [modGroup_of_get hg]
  simp only [setGroup_groups, Quad.get_set_same]
  rw [if_neg hno]
  exact if_pos hm

/-- The fourth invalid sample in a row faults the group; the engine has followed its RUN then. -/
theorem endVisit_fault (hg : s.groups.get g = some grp) (h3 : grp.invalidCount = 3) (ho : grp.state ≠ .offline)
    (hf : grp.state ≠ .faulted) :
    endVisit g none s = groupFault g .feedback (s.setGroup g (some { grp with invalidCount := 4 })) := by
  have hs : grp.sampled none = { grp with invalidCount := 4 } := by simp [Group.sampled, h3]
  obtain ⟨ports, tasks, he, -, -⟩ := groupFault_spec (s := s.setGroup g (some { grp with invalidCount := 4 })) .feedback
    (Quad.get_set_same _ _ _) ho hf
  have hleft : (groupFault g .feedback (s.setGroup g (some { grp with invalidCount := 4 }))).audit.engine.measuring ≠ some g := by
    rw [he]
    intro hm
    obtain ⟨e, heq, hrun⟩ := followRun_spec ((s.setGroup g (some { grp with invalidCount := 4 })).setChannel g
      { (s.setGroup g (some { grp with invalidCount := 4 })).channels.get g with run := false, speed := .creep })
    have hme : e.measuring = some g := by
      rw [heq] at hm
      exact hm
    have := hrun g hme
    rw [setChannel_channels, Quad.get_set_same] at this
    cases this
  unfold endVisit
  rw [modGroup_of_get hg, hs]
  simp only [setGroup_groups, Quad.get_set_same, Option.isNone_none, and_self, if_true]
  exact if_neg hleft

/-! ## Comparison (R154) -/

theorem reportMark_uncompared {k : Nat} {last : Bool} (h : last = true ∨ grp.moveMarks = 0 ∨ grp.lastSample = none) :
    grp.reportMark k last = { grp with moveMarks := grp.moveMarks + 1 } := by
  unfold Group.reportMark
  rcases h with h | h | h
  · rw [if_pos (.inr h)]
  · rw [if_pos (.inl h)]
  · have : grp.compareAt k = grp := by unfold Group.compareAt; rw [h]
    rw [this, ite_self]

theorem reportMark_compared {k : Nat} {v : Int} (hm : grp.moveMarks ≠ 0) (hv : grp.lastSample = some v) :
    grp.reportMark k false = { grp with
      moveMarks := grp.moveMarks + 1
      compared := grp.compared + 1
      outside := if grp.params.tolerance < (v - expectedTorque grp k grp.moveDir).natAbs then grp.outside + 1 else grp.outside
      lastCompared := some { offset := k, measured := v, expected := expectedTorque grp k grp.moveDir } } := by
  unfold Group.reportMark Group.compareAt
  rw [if_neg (by simp [hm]), hv]

/-! ## Auto tasks (R139, R156) -/

theorem countUp_eq (n : Nat) : countUp n = min (n + 1) 4294967295 := by
  unfold countUp
  change (if n < 4294967295 then n + 1 else 4294967295) = _
  split <;> omega

theorem spanList_whole (c : Nat) : spanList c 0 c = List.range c := by
  unfold spanList
  rw [Nat.min_self]
  refine (List.map_congr_left fun i hi => ?_).trans (List.map_id _)
  rw [Nat.zero_add]
  exact Nat.mod_eq_of_lt (List.mem_range.mp hi)

/-- The task that an auto audit starts with generation `n`. -/
def autoTask (c n : Nat) : AuditTask :=
  { state := .running, origin := .auto, check := .presence, selection := .span 0 c, generation := n, list := List.range c,
    findings := 0, scan := none }

/-- The members without an open task. -/
def State.idleTasks (s : State) (xs : List Index) : List Index := xs.filter fun x => !s.taskOpen x

theorem taskOpen_setTask_ne {x y : Index} (h : y ≠ x) (t : Option AuditTask) (a : Audit) (ha : a.tasks = s.audit.tasks) :
    ((s.setAudit a).setTask x t).taskOpen y = s.taskOpen y := by
  unfold State.taskOpen
  simp only [setTask_audit, setAudit_audit, Quad.get_set_ne _ _ h, ha]

theorem startAutoTasks_spec (g : Index) (xs : List Index) (hn : xs.Nodup) (s : State) : ∃ a : Audit,
    startAutoTasks g xs s = s.setAudit a
    ∧ a.log = s.audit.log ∧ a.entryCounter = s.audit.entryCounter ∧ a.engine = s.audit.engine
    ∧ (s.idleTasks xs ≠ [] → a.generation = min (s.audit.generation + (s.idleTasks xs).length) 4294967295)
    ∧ (s.idleTasks xs = [] → a.generation = s.audit.generation)
    ∧ (∀ x, x ∉ xs ∨ s.taskOpen x = true → a.tasks.get x = s.audit.tasks.get x)
    ∧ ∀ (i : Nat) (x : Index), (s.idleTasks xs)[i]? = some x →
        a.tasks.get x = some (autoTask (s.geometry g).carriers (min (s.audit.generation + i + 1) 4294967295)) := by
  induction xs generalizing s with
  | nil => exact ⟨s.audit, rfl, rfl, rfl, rfl, fun h => absurd rfl h, fun _ => rfl, fun _ _ => rfl, fun i x h => by cases h⟩
  | cons y ys ih =>
    obtain ⟨hy, hn⟩ := List.nodup_cons.mp hn
    by_cases ho : s.taskOpen y = true
    · obtain ⟨a, he, hlog, hctr, heng, hgen, hnone, hkeep, hnew⟩ := ih hn s
      have hid : s.idleTasks (y :: ys) = s.idleTasks ys := List.filter_cons_of_neg (by simp [ho])
      refine ⟨a, ?_, hlog, hctr, heng, hid ▸ hgen, hid ▸ hnone, fun x hx => hkeep x ?_, hid ▸ hnew⟩
      · rw [← he, startAutoTasks, List.foldl_cons, if_pos ho]
        rfl
      · exact hx.imp (fun h hm => h (List.mem_cons_of_mem _ hm)) id
    · have hstart : startTask y .auto .presence (.span 0 (s.geometry g).carriers)
          (spanList (s.geometry g).carriers 0 (s.geometry g).carriers) s =
          (s.setAudit { s.audit with generation := countUp s.audit.generation }).setTask y
            (some (autoTask (s.geometry g).carriers (countUp s.audit.generation))) := by
        rw [spanList_whole]
        rfl
      have hrest : ∀ x, x ≠ y → ((s.setAudit { s.audit with generation := countUp s.audit.generation }).setTask y
          (some (autoTask (s.geometry g).carriers (countUp s.audit.generation)))).taskOpen x = s.taskOpen x := fun x hx =>
        taskOpen_setTask_ne hx _ _ rfl
      have hids : State.idleTasks ((s.setAudit { s.audit with generation := countUp s.audit.generation }).setTask y
          (some (autoTask (s.geometry g).carriers (countUp s.audit.generation)))) ys = s.idleTasks ys :=
        List.filter_congr fun x hx => by rw [hrest x fun h => hy (h ▸ hx)]
      obtain ⟨a, he, hlog, hctr, heng, hgen, hnone, hkeep, hnew⟩ := ih hn
        ((s.setAudit { s.audit with generation := countUp s.audit.generation }).setTask y
          (some (autoTask (s.geometry g).carriers (countUp s.audit.generation))))
      rw [hids] at hgen hnone hnew
      have hid : s.idleTasks (y :: ys) = y :: s.idleTasks ys := List.filter_cons_of_pos (by simp [ho])
      have hown : a.tasks.get y = some (autoTask (s.geometry g).carriers (countUp s.audit.generation)) :=
        (hkeep y (.inl hy)).trans (Quad.get_set_same _ _ _)
      refine ⟨a, ?_, hlog, hctr, heng, fun _ => ?_, fun h => ?_, fun x hx => ?_, fun i x hx => ?_⟩
      · rw [startAutoTasks, List.foldl_cons, if_neg ho, hstart]
        exact he
      · rw [hid, List.length_cons]
        by_cases hys : s.idleTasks ys = []
        · rw [hnone hys, hys]
          exact (countUp_eq _).trans rfl
        · rw [hgen hys]
          change min (countUp s.audit.generation + _) _ = _
          rw [countUp_eq]
          omega
      · rw [hid] at h
        cases h
      · have hxy : x ≠ y := by
          rintro rfl
          rcases hx with hx | hx
          · exact hx List.mem_cons_self
          · exact ho hx
        refine (hkeep x ?_).trans (Quad.get_set_ne _ _ hxy)
        rw [hrest x hxy]
        exact hx.imp (fun h hm => h (List.mem_cons_of_mem _ hm)) id
      · rw [hid] at hx
        cases i with
        | zero =>
          cases hx
          rw [hown, countUp_eq]
        | succ i =>
          rw [hnew i x hx]
          refine congrArg (fun n => some (autoTask _ n)) ?_
          change min (countUp s.audit.generation + i + 1) _ = _
          rw [countUp_eq]
          omega

end Sys2Proof.Machine

/-! SUPPORT. The step to BALANCE_SUSPECT (R155, R156). -/

namespace Sys2Proof.Machine

open Sys2Proof

variable {s : State} {g : Index} {grp : Group}

theorem judgeMove_eq (hg : s.groups.get g = some grp) : judgeMove g s =
    if grp.deviant = 2 ∧ grp.deviantAfter = 3 ∧ grp.suspect = false
      then becomeSuspect g (s.setGroup g (some { grp with deviant := grp.deviantAfter }))
      else s.setGroup g (some { grp with deviant := grp.deviantAfter }) := by
  unfold judgeMove
  rw [hg]
  dsimp only
  rw [modGroup_of_get hg]
  simp only [Bool.not_eq_true]

/-- A group that is BALANCE_SUSPECT, its watch not begun. -/
def Group.suspected (grp : Group) : Group := { grp with suspect := true, watch := none }

theorem becomeSuspect_manual (h : grp.params.autoAudit = false) :
    becomeSuspect g (s.setGroup g (some grp)) = raiseEvent .balanceSuspect (s.setGroup g (some grp.suspected)) := by
  unfold becomeSuspect
  simp only [setGroup_groups, Quad.get_set_same, h, Bool.false_eq_true, if_false]
  rw [modGroup_of_get (grp := grp) (Quad.get_set_same _ _ _), State.setGroup, setGroup_groups, Quad.set_set]
  rfl

/-- With auto-audit on, each member without an open task is given one and the watch holds them. -/
theorem becomeSuspect_auto (h : grp.params.autoAudit = true) {a : Audit}
    (ha : startAutoTasks g grp.members (raiseEvent .balanceSuspect (s.setGroup g (some grp.suspected))) =
      (raiseEvent .balanceSuspect (s.setGroup g (some grp.suspected))).setAudit a) :
    becomeSuspect g (s.setGroup g (some grp)) = raiseEvent .balanceSuspect ((s.setGroup g (some { grp with
      suspect := true
      watch := if s.idleTasks grp.members = [] then none
        else some { carousels := s.idleTasks grp.members, spoiled := false } })).setAudit a) := by
  have hm : (s.setGroup g (some grp)).modGroup g (fun grp => { grp with suspect := true, watch := none }) =
      s.setGroup g (some grp.suspected) := by
    rw [modGroup_of_get (grp := grp) (Quad.get_set_same _ _ _), State.setGroup, setGroup_groups, Quad.set_set]
    rfl
  unfold becomeSuspect
  simp only [setGroup_groups, Quad.get_set_same, h, if_true, hm, ha]
  change (if (s.idleTasks grp.members).isEmpty = true then _ else _) = _
  by_cases hempty : s.idleTasks grp.members = []
  · rw [if_pos (List.isEmpty_iff.mpr hempty), if_pos hempty]
    rfl
  · rw [if_neg (fun h => hempty (List.isEmpty_iff.mp h)), if_neg hempty,
      modGroup_of_get (grp := grp.suspected) (Quad.get_set_same _ _ _)]
    simp only [State.setGroup, setAudit_groups, raiseEvent_groups, Quad.set_set]
    rfl

end Sys2Proof.Machine

namespace Sys2Proof.Certificates

open Sys2Proof Sys2Proof.Machine

/-- Settles O30: the conversion by bands, the visit's end, and the order in which the next group is sought. -/
theorem torqueMeasured : Obligations.TorqueMeasured := by
  refine ⟨⟨fun h p hp => if_neg (by omega), fun duty fs => ⟨torqueOf_below, torqueOf_low, torqueOf_reverse, torqueOf_forward,
    torqueOf_high⟩⟩, fun s g grp hm hg => ?visit, fun t last => ⟨?begin, fun h hm => ⟨fun hr => ?_, fun hr => ?_⟩, followRun_idle,
    nextDriving_none_iff t last, fun h => nextDriving_some⟩⟩
  case visit =>
    have measured : ∀ h p, exec (.torqueMeasurement h p) s =
        .next (endVisit g (torqueOf (dutyOf h p) grp.params.fullScale) s) := fun h p => by
      change execTorqueMeasurement h p s = _
      simp only [execTorqueMeasurement, hm, sampleOf, hg]
    have timedOut : exec .torqueVisitTimeout s = .next (endVisit g none s) := by
      change execTorqueVisitTimeout s = _
      simp only [execTorqueVisitTimeout, hm]
    refine ⟨fun h p v hv => ?_, fun h p hv => ?_, fun hlt => ?_, fun h3 hr hst => ?_⟩
    · rw [measured, hv, endVisit_on hm hg fun h => by cases h]
      rfl
    · rw [measured, hv, timedOut]
    · rw [timedOut, endVisit_on hm hg fun _ => hlt, Group.sampled, Nat.min_eq_left (by omega)]
    · rw [timedOut, endVisit_fault hg h3]
      · rcases hst with h | h <;> simp [h]
      · rcases hst with h | h <;> simp [h]
  case begin =>
    unfold beginVisit
    cases t.nextDriving t.audit.engine.last <;> rfl
  · rw [followRun_visiting hm, if_pos hr]
  · rw [followRun_visiting hm, hr, if_neg Bool.false_ne_true]

/-- Settles O31: `reportMark` per mark, and `judgeMove` with the auto tasks that `becomeSuspect` starts. -/
theorem torqueSamplesCompared : Obligations.TorqueSamplesCompared := by
  refine ⟨fun grp k last => ⟨reportMark_uncompared, fun v e hl hm hv he => ?_⟩, fun s g grp n hg hn => ?_⟩
  · have hexp : expectedTorque grp k grp.moveDir = e := by
      rw [he]
      unfold expectedTorque
      cases grp.moveDir <;> rfl
    have habs : grp.params.tolerance < (v - e).natAbs ↔
        (grp.params.tolerance : Int) < v - e ∨ (grp.params.tolerance : Int) < e - v := by omega
    rw [hl, reportMark_compared hm hv, hexp]
    simp only [habs]
  · have hn : n = grp.deviantAfter := hn
    subst hn
    rw [judgeMove_eq hg]
    refine ⟨fun h => ?_, fun h2 h3 hs => ⟨fun hoff => ?_, fun hon hnd => ?_⟩⟩
    · rw [if_neg]
      rintro ⟨h2, h3, hs⟩
      rcases h with h | h | h
      · exact h h2
      · exact h h3
      · rw [hs] at h; cases h
    · rw [if_pos ⟨h2, h3, hs⟩, becomeSuspect_manual (grp := { grp with deviant := grp.deviantAfter }) hoff, h3]
      rfl
    · obtain ⟨a, he, hlog, hctr, heng, hgen, hnone, hkeep, hnew⟩ := startAutoTasks_spec g grp.members hnd
        (raiseEvent .balanceSuspect (s.setGroup g (some (Group.suspected { grp with deviant := 3 }))))
      have hgeo : (raiseEvent .balanceSuspect (s.setGroup g (some (Group.suspected { grp with deviant := 3 })))).geometry g =
          s.geometry g :=
        geometry_of_members (a := grp) (b := Group.suspected { grp with deviant := 3 }) hg (Quad.get_set_same _ _ _) rfl
          (fun _ => rfl)
      rw [hgeo] at hnew
      have hmem : ∀ x, x ∈ s.idleTasks grp.members ↔ x ∈ grp.members ∧ s.taskOpen x = false := fun x => by
        simp [State.idleTasks]
      rw [if_pos ⟨h2, h3, hs⟩, h3, becomeSuspect_auto (grp := { grp with deviant := 3 }) hon he]
      refine ⟨_, a, rfl, rfl, ?_, fun w hw => ?_, ?_, hlog, hctr, heng, fun x => ⟨hkeep x, fun hx ho => ?_⟩⟩
      · constructor
        · intro hw x hx
          by_contra ho
          have hne : s.idleTasks grp.members ≠ [] :=
            List.ne_nil_of_mem ((hmem x).mpr ⟨hx, Bool.eq_false_iff.mpr ho⟩)
          rw [if_neg hne] at hw
          cases hw
        · intro hall
          refine if_pos (List.eq_nil_iff_forall_not_mem.mpr fun x hx => ?_)
          obtain ⟨hx, ho⟩ := (hmem x).mp hx
          rw [hall x hx] at ho
          cases ho
      · dsimp only at hw
        split at hw
        · cases hw
        · cases hw
          exact ⟨rfl, rfl⟩
      · rintro given rfl
        exact ⟨hgen, hnone, fun i x hx => ⟨_, hnew i x hx, rfl⟩⟩
      · obtain ⟨i, hi⟩ := List.mem_iff_getElem?.mp ((hmem x).mpr ⟨hx, ho⟩)
        exact ⟨_, hnew i x hi, rfl, rfl, rfl, rfl, rfl, rfl, rfl⟩

end Sys2Proof.Certificates

/-! SUPPORT. Reading the order table, the slots and the records after a change, and handed mass and noted starts as records. -/

namespace Sys2Proof.Machine

open Sys2Proof

variable {s : State} {id : Id32}

/-! ## The order table (R107) -/

theorem findSome?_numbered_map {α β γ : Type} (f : α → β) (p : Nat × α → Option γ) (q : Nat × β → Option γ)
    (as : List α) (h : ∀ i a, a ∈ as → q (i, f a) = p (i, a)) (n : Nat) :
    (numbered n (as.map f)).findSome? q = (numbered n as).findSome? p := by
  induction as generalizing n with
  | nil => rfl
  | cons a as ih =>
    have ha := h n a List.mem_cons_self
    have ht := ih (fun i b hb => h i b (List.mem_cons_of_mem _ hb)) (n + 1)
    rw [List.map_cons, numbered, numbered, List.findSome?_cons, List.findSome?_cons, ha, ht]

theorem findSome?_map_option {α β γ : Type} (p : α → Option β) (f : β → γ) (as : List α) :
    as.findSome? (fun a => (p a).map f) = (as.findSome? p).map f := by
  induction as with
  | nil => rfl
  | cons a as ih =>
    rw [List.findSome?_cons, List.findSome?_cons, ih]
    cases p a <;> rfl

theorem findOrder_mapOrders {f : Order → Order} (hf : ∀ o, (f o).id = o.id) (s : State) (id : Id32) :
    (s.mapOrders f).findOrder id = (s.findOrder id).map fun e => (e.1, f e.2) := by
  unfold State.findOrder
  rw [← findSome?_map_option]
  refine findSome?_numbered_map (Option.map f) _ _ s.sched.orders (fun i e _ => ?_) 0
  cases e with
  | none => rfl
  | some o =>
    simp only [Option.map_some, hf]
    split <;> rfl

theorem findOrder_id {i : Nat} {o : Order} (h : s.findOrder id = some (i, o)) : o.id = id := by
  unfold State.findOrder at h
  obtain ⟨⟨j, e⟩, -, he⟩ := List.exists_of_findSome?_eq_some h
  cases e with
  | none => cases he
  | some o' =>
    simp only at he
    split at he
    · rename_i hid
      cases he
      exact hid
    · cases he

theorem findLine_eq (s : State) (id : Id32) (seq : Nat) : s.findLine id seq = (s.findOrder id).bind fun e => e.2.line? seq := by
  unfold State.findLine
  cases s.findOrder id <;> rfl

theorem line?_seq {o : Order} {seq : Nat} {l : Line} (h : o.line? seq = some l) : l.seq = seq := by
  have := List.find?_some h
  simpa using this

/-- A line looked up among lines changed one by one, their numbers kept. -/
theorem line?_map {f : Line → Line} (hf : ∀ l, (f l).seq = l.seq) (o : Order) (seq : Nat) :
    ({ o with lines := o.lines.map f } : Order).line? seq = (o.line? seq).map f := by
  unfold Order.line?
  rw [List.find?_map]
  exact congrArg (fun p => (o.lines.find? p).map f) (funext fun l => by simp [hf])

theorem findLine_mapLines {f : Line → Line} (hf : ∀ l, (f l).seq = l.seq) (s : State) (id : Id32) (seq : Nat) :
    (s.mapOrders fun o => { o with lines := o.lines.map f }).findLine id seq = (s.findLine id seq).map f := by
  rw [findLine_eq, findLine_eq, findOrder_mapOrders (f := fun o => { o with lines := o.lines.map f }) fun _ => rfl]
  cases s.findOrder id with
  | none => rfl
  | some e => exact line?_map hf e.2 seq

theorem findOrder_modLine (s : State) (id id' : Id32) (seq : Nat) (f : Line → Line) :
    (s.modLine id seq f).findOrder id' =
      (s.findOrder id').map fun e => (e.1, if e.2.id = id then e.2.modLine seq f else e.2) :=
  findOrder_mapOrders (fun o => by split <;> rfl) s id'

theorem findLine_setLine_same (s : State) (id : Id32) (seq : Nat) (st : LineState) :
    (s.setLine id seq st).findLine id seq = (s.findLine id seq).map fun l => { l with state := st } := by
  rw [findLine_eq, findLine_eq, State.setLine, findOrder_modLine]
  cases h : s.findOrder id with
  | none => rfl
  | some e =>
    obtain ⟨i, o⟩ := e
    simp only [Option.map_some, Option.bind_some, if_pos (findOrder_id h), Order.modLine]
    rw [line?_map fun l => by split <;> rfl]
    cases hl : o.line? seq with
    | none => rfl
    | some l => rw [Option.map_some, Option.map_some, if_pos (line?_seq hl)]

theorem findLine_setLine_ne {id' : Id32} {seq seq' : Nat} (h : id' ≠ id ∨ seq' ≠ seq) (s : State) (st : LineState) :
    (s.setLine id seq st).findLine id' seq' = s.findLine id' seq' := by
  rw [findLine_eq, findLine_eq, State.setLine, findOrder_modLine]
  cases ho : s.findOrder id' with
  | none => rfl
  | some e =>
    obtain ⟨i, o⟩ := e
    simp only [Option.map_some, Option.bind_some]
    split
    · rename_i hid
      have hseq : seq' ≠ seq := h.resolve_left fun hne => hne ((findOrder_id ho).symm.trans hid)
      unfold Order.modLine
      rw [line?_map fun l => by split <;> rfl]
      cases hl : o.line? seq' with
      | none => rfl
      | some l => rw [Option.map_some, if_neg (fun h => hseq ((line?_seq hl).symm.trans h))]
    · rfl

/-! ## Slots and stores (R28, R94) -/

theorem modSlot_of_get {x : Index} {c l : Nat} {sl : Slot} (h : s.slot? x c l = some sl) (f : Slot → Slot) :
    s.modSlot x c l f = s.setSlot x c l (f sl) := by
  unfold State.modSlot
  rw [h]

theorem modStore_of_get {p : Index} {r : StoreRecord} (h : s.stores.get p = some r) (f : StoreRecord → StoreRecord) :
    s.modStore p f = s.setStore p (some (f r)) := by
  unfold State.modStore
  rw [h]

theorem slot?_setSlot_same {x : Index} {c l : Nat} {old : Slot} (h : s.slot? x c l = some old) (sl : Slot) :
    (s.setSlot x c l sl).slot? x c l = some sl := by
  rw [slot?_eq] at h ⊢
  rw [setSlot_carousels, Quad.get_set_same]
  change ((s.carousels.get x).map.setSlot c l sl).slot? c l = some sl
  rw [setSlot_slot?, h]
  simp

/-! ## Handed mass, field by field (R44, R52) -/

theorem reconsiderLine_seq (s : State) (g : Index) (l : Line) : (reconsiderLine s g l).seq = l.seq := by
  rw [reconsiderLine_eq]
  split <;> rfl

/-- Handed mass is not taken, or it is the group's `addMass`, with the waiting tasks reconsidered where it names E. -/
theorem handMass_cases (x : Index) (c : Nat) (dm : Int) (w : Named) (s : State) : handMass x c dm w s = s
    ∨ ∃ g grp, s.serviceGroup x = some g ∧ s.groups.get g = some grp
      ∧ (handMass x c dm w s = s.setGroup g (some (grp.addMass (s.geometry g) c dm w))
        ∨ handMass x c dm w s = reconsider g (s.setGroup g (some (grp.addMass (s.geometry g) c dm w)))) := by
  by_cases hdm : dm = 0
  · exact .inl (handMass_not_taken (.inl hdm))
  cases hx : s.serviceGroup x with
  | none => exact .inl (handMass_not_taken (.inr hx))
  | some g =>
    obtain ⟨-, grp, hg, -⟩ := serviceGroup_eq_some.mp hx
    refine .inr ⟨g, grp, rfl, hg, ?_⟩
    rw [handMass_taken hdm hx hg]
    cases w.hasE
    · exact .inl rfl
    · exact .inr rfl

/-- Handed mass changes the groups, the stores and the orders only. -/
theorem handMass_record (x : Index) (c : Nat) (dm : Int) (w : Named) (s : State) : ∃ gs sts os,
    handMass x c dm w s = { s with groups := gs, stores := sts, sched := { s.sched with orders := os } } := by
  rcases handMass_cases x c dm w s with h | ⟨g, grp, -, -, h | h⟩
  · exact ⟨s.groups, s.stores, s.sched.orders, h⟩
  · exact ⟨_, s.stores, s.sched.orders, h⟩
  · obtain ⟨sts, hr, -⟩ := reconsider_spec g (s.setGroup g (some (grp.addMass (s.geometry g) c dm w)))
    exact ⟨_, sts, _, h.trans hr⟩

theorem handMass_groups_get (x : Index) (c : Nat) (dm : Int) (w : Named) (s : State) (g : Index) :
    (handMass x c dm w s).groups.get g = s.groups.get g
      ∨ ∃ grp, s.groups.get g = some grp ∧ (handMass x c dm w s).groups.get g = some (grp.addMass (s.geometry g) c dm w) := by
  have set : ∀ h grp, s.groups.get h = some grp → (s.groups.set h (some (grp.addMass (s.geometry h) c dm w))).get g = s.groups.get g
      ∨ ∃ a, s.groups.get g = some a
        ∧ (s.groups.set h (some (grp.addMass (s.geometry h) c dm w))).get g = some (a.addMass (s.geometry g) c dm w) :=
    fun h grp hg => by
      by_cases hgh : g = h
      · subst hgh
        exact .inr ⟨grp, hg, Quad.get_set_same _ _ _⟩
      · exact .inl (Quad.get_set_ne _ _ hgh)
  rcases handMass_cases x c dm w s with h | ⟨h', grp, -, hg, h | h⟩
  · exact .inl (by rw [h])
  · rw [h]
    exact set h' grp hg
  · obtain ⟨sts, hr, -⟩ := reconsider_spec h' (s.setGroup h' (some (grp.addMass (s.geometry h') c dm w)))
    rw [h, hr]
    exact set h' grp hg

theorem handMass_stores_get (x : Index) (c : Nat) (dm : Int) (w : Named) (s : State) (y : Index) :
    (handMass x c dm w s).stores.get y = s.stores.get y
      ∨ (handMass x c dm w s).stores.get y = (s.stores.get y).map reconsiderStore := by
  rcases handMass_cases x c dm w s with h | ⟨g, grp, -, -, h | h⟩
  · exact .inl (by rw [h])
  · exact .inl (by rw [h]; rfl)
  · obtain ⟨sts, hr, hsts⟩ := reconsider_spec g (s.setGroup g (some (grp.addMass (s.geometry g) c dm w)))
    rw [h, hr]
    change sts.get y = _ ∨ sts.get y = _
    rw [hsts]
    split
    · exact .inr rfl
    · exact .inl rfl

theorem handMass_findLine (x : Index) (c : Nat) (dm : Int) (w : Named) (s : State) (id : Id32) (seq : Nat) :
    ((handMass x c dm w s).findLine id seq).isSome = (s.findLine id seq).isSome := by
  rcases handMass_cases x c dm w s with h | ⟨g, grp, -, -, h | h⟩
  · rw [h]
  · rw [h]; rfl
  · obtain ⟨sts, hr, -⟩ := reconsider_spec g (s.setGroup g (some (grp.addMass (s.geometry g) c dm w)))
    rw [h, hr]
    have hl := findLine_mapLines (reconsiderLine_seq (s.setGroup g (some (grp.addMass (s.geometry g) c dm w))) g) s id seq
    exact (congrArg Option.isSome hl).trans Option.isSome_map

@[simp] theorem handMass_link (x : Index) (c : Nat) (dm : Int) (w : Named) (s : State) :
    (handMass x c dm w s).link = s.link := by
  obtain ⟨gs, sts, os, h⟩ := handMass_record x c dm w s
  rw [h]

@[simp] theorem handMass_carousels (x : Index) (c : Nat) (dm : Int) (w : Named) (s : State) :
    (handMass x c dm w s).carousels = s.carousels := by
  obtain ⟨gs, sts, os, h⟩ := handMass_record x c dm w s
  rw [h]

@[simp] theorem handMass_channels (x : Index) (c : Nat) (dm : Int) (w : Named) (s : State) :
    (handMass x c dm w s).channels = s.channels := by
  obtain ⟨gs, sts, os, h⟩ := handMass_record x c dm w s
  rw [h]

@[simp] theorem handMass_station (x : Index) (c : Nat) (dm : Int) (w : Named) (s : State) :
    (handMass x c dm w s).station = s.station := by
  obtain ⟨gs, sts, os, h⟩ := handMass_record x c dm w s
  rw [h]

@[simp] theorem handMass_audit (x : Index) (c : Nat) (dm : Int) (w : Named) (s : State) :
    (handMass x c dm w s).audit = s.audit := by
  obtain ⟨gs, sts, os, h⟩ := handMass_record x c dm w s
  rw [h]

theorem handMass_groupOf (x : Index) (c : Nat) (dm : Int) (w : Named) (s : State) (y : Index) :
    (handMass x c dm w s).groupOf y = s.groupOf y :=
  groupOf_congr (fun g => by
    rcases handMass_groups_get x c dm w s g with h | ⟨grp, hg, h⟩
    · rw [h]
    · rw [h, hg]; rfl) y

theorem noteStart_of_group {p g : Index} {grp : Group} (hp : s.groupOf p = some g) (hg : s.groups.get g = some grp) :
    noteStart p s = s.setGroup g (some { grp with startedHere := grp.startedHere.set p true }) := by
  unfold noteStart
  rw [hp]
  exact modGroup_of_get hg _

end Sys2Proof.Machine

/-! SUPPORT. The ports (R75 to R90): a taken input, the starts of transfers, their completions and jams, and scans. -/

namespace Sys2Proof.Machine

open Sys2Proof

variable {s : State} {p : Index}

/-! ## A taken input (R75, R93) -/

/-- The port after an input is taken, field by field. -/
theorem take_eq (port : Port) (i : PortInput) (v : Bool) : port.take i v = { port with
    home := if i = .home then v else port.home
    extended := if i = .extended then v else port.extended
    load := if i = .load then v else port.load
    presence := match i with
      | .presence l => port.presence.set l.val v
      | _ => port.presence
    job := port.job.map fun j => { j with leftHome := j.leftHome || (i == .home && !v) } } := by
  have same : ∀ b : Bool, b = false → port.job.map (fun j => { j with leftHome := j.leftHome || b }) = port.job :=
    fun b hb => by
      subst hb
      cases port.job <;> simp
  unfold Port.take
  cases i with
  | home =>
    cases v with
    | false =>
      have : (fun j : Job => { j with leftHome := j.leftHome || (PortInput.home == .home && !false) }) =
          fun j => { j with leftHome := true } := by
        funext j
        simp
      rw [this]
      simp [Port.setInput]
    | true =>
      rw [same (PortInput.home == .home && !true) rfl]
      simp [Port.setInput]
  | extended => rw [same (PortInput.extended == .home && !v) rfl]; simp [Port.setInput]
  | load => rw [same (PortInput.load == .home && !v) rfl]; simp [Port.setInput]
  | presence l => rw [same (PortInput.presence l == .home && !v) rfl]; simp [Port.setInput]

/-- Without a RUN line that is high over a home that leaves, no INTERLOCK is taken. -/
theorem judgeInterlock_idle {i : PortInput} {v : Bool} (h : i ≠ .home ∨ v = true ∨ s.driving p = false) :
    judgeInterlock p i v s = s := by
  unfold judgeInterlock
  cases hg : s.groupOf p with
  | none => rfl
  | some g =>
    refine if_neg ?_
    rintro ⟨hi, hv, hr⟩
    have hd : s.driving p = true := by
      unfold State.driving
      rw [hg]
      exact hr
    rcases h with h | h | h
    · exact h hi
    · rw [hv] at h; cases h
    · rw [hd] at h; cases h

theorem judgeInterlock_taken {g : Index} (hg : s.groupOf p = some g) (hr : (s.channels.get g).run = true) :
    judgeInterlock p .home false s = groupFault g .interlock s := by
  unfold judgeInterlock
  rw [hg]
  exact if_pos ⟨rfl, rfl, hr⟩

/-- A group fault leaves a port as it is but for its scan. -/
theorem groupFault_port (g : Index) (cause : FaultCause) (s : State) (p : Index) :
    (groupFault g cause s).ports.get p = s.ports.get p
      ∨ (groupFault g cause s).ports.get p = { s.ports.get p with scan := none } := by
  by_cases h : ∀ grp, s.groups.get g = some grp → grp.state = .offline ∨ grp.state = .faulted
  · rw [groupFault_not_taken cause h]
    exact .inl rfl
  · simp only [not_forall, not_or] at h
    obtain ⟨grp, hg, ho, hf⟩ := h
    obtain ⟨ports, tasks, he, hp, -⟩ := groupFault_spec cause hg ho hf
    have : (groupFault g cause s).ports = ports := by rw [he]; split <;> rfl
    rw [this, hp]
    split
    · exact .inr rfl
    · exact .inl rfl

/-- A scan has no part in the completion of a transfer. -/
theorem done_withoutScan (port : Port) : ({ port with scan := none } : Port).insertionDone = port.insertionDone
    ∧ ({ port with scan := none } : Port).extractionDone = port.extractionDone := ⟨rfl, rfl⟩

/-- An input that completes nothing gives no turn of its own. -/
theorem inputTaken_of_not_done {i : PortInput} {v : Bool} {u : State}
    (hu : judgeInterlock p i v (s.setPort p ((s.ports.get p).take i v)) = u)
    (hi : (u.ports.get p).insertionDone = false) (he : (u.ports.get p).extractionDone = false) :
    inputTaken p i v s = giveTurns [] s u := by
  have ht : takeInput p i v s = (u, false) := by
    unfold takeInput State.modPort
    simp only [hu, hi, he, Bool.false_eq_true, if_false]
  unfold inputTaken
  rw [ht]
  rfl

theorem inputTaken_insertion {i : PortInput} {v : Bool} (hq : i ≠ .home ∨ v = true)
    (hi : ((s.ports.get p).take i v).insertionDone = true) :
    inputTaken p i v s = giveTurns (s.groupOf p).toList s (completeInsertion p (s.setPort p ((s.ports.get p).take i v))) := by
  have ht : takeInput p i v s = (completeInsertion p (s.setPort p ((s.ports.get p).take i v)), true) := by
    unfold takeInput State.modPort
    simp only [judgeInterlock_idle (hq.imp id .inl), setPort_ports, Quad.get_set_same, hi, if_true]
  unfold inputTaken
  rw [ht]
  rfl

theorem inputTaken_extraction {i : PortInput} {v : Bool} (hq : i ≠ .home ∨ v = true)
    (hi : ((s.ports.get p).take i v).insertionDone = false) (he : ((s.ports.get p).take i v).extractionDone = true) :
    inputTaken p i v s = giveTurns (s.groupOf p).toList s (completeExtraction p (s.setPort p ((s.ports.get p).take i v))) := by
  have ht : takeInput p i v s = (completeExtraction p (s.setPort p ((s.ports.get p).take i v)), true) := by
    unfold takeInput State.modPort
    simp only [judgeInterlock_idle (hq.imp id .inl), setPort_ports, Quad.get_set_same, hi, he, if_true, Bool.false_eq_true,
      if_false]
  unfold inputTaken
  rw [ht]
  rfl

theorem take_shuttle (port : Port) (i : PortInput) (v : Bool) : (port.take i v).shuttle = port.shuttle := by rw [take_eq]

theorem take_job_of_home {port : Port} {i : PortInput} {v : Bool} (hq : i ≠ .home ∨ v = true) :
    (port.take i v).job = port.job := by
  have : (i == .home && !v) = false := by
    rcases hq with h | h <;> simp [h]
  rw [take_eq, this]
  cases port.job <;> simp

theorem insertionDone_iff {port : Port} : port.insertionDone = true ↔ port.shuttle = .inserting ∧ ∃ j, port.job = some j
    ∧ j.leftHome = true ∧ port.home = true ∧ port.extended = false ∧ port.presence.getD j.level false = true := by
  unfold Port.insertionDone
  cases hs : port.shuttle <;> cases hj : port.job <;> simp [Port.backHome, and_assoc]

theorem extractionDone_iff {port : Port} : port.extractionDone = true ↔ port.shuttle = .extracting ∧ ∃ j, port.job = some j
    ∧ j.leftHome = true ∧ port.home = true ∧ port.extended = false ∧ port.presence.getD j.level false = false
    ∧ port.load = true := by
  unfold Port.extractionDone
  cases hs : port.shuttle <;> cases hj : port.job <;> simp [Port.backHome, and_assoc]

/-! ## Completions (R84, R86) -/

theorem completeInsertion_eq {j : Job} {r : StoreRecord} {sl : Slot} (hj : (s.ports.get p).job = some j)
    (hr : s.stores.get p = some r) (hsl : s.slot? p j.carrier j.level = some sl) : completeInsertion p s =
    raiseEvent .storeDone (((s.setSlot p j.carrier j.level (sl.filled r)).setStore p (some { r with state := .done })).setPort p
      { s.ports.get p with shuttle := .homeEmpty, insertOut := false, job := none, transferTimer := none }) := by
  unfold completeInsertion
  rw [hj, hr]
  dsimp only
  rw [modSlot_of_get hsl]
  rfl

theorem completeExtraction_eq {j : Job} {sl : Slot} {id : Id32} {seq : Nat} (hj : (s.ports.get p).job = some j)
    (hsl : s.slot? p j.carrier j.level = some sl) (hout : sl.outFor = some (id, seq)) : completeExtraction p s =
    judgeGate (((s.setSlot p j.carrier j.level sl.emptied).setPort p { s.ports.get p with
      shuttle := .homeLoaded, extractOut := false, job := none, transferTimer := none
      loadRec := some { tag := sl.tag, mass := sl.recorded, order := id, line := seq } }).setLine id seq .onShuttle) := by
  unfold completeExtraction
  rw [hj]
  dsimp only
  rw [hsl]
  dsimp only
  rw [hout]
  rfl

/-! ## Jams (R88 to R90) -/

theorem exec_transferTimerExpiry (h : (s.ports.get p).transferTimer ≠ none) :
    exec (.transferTimerExpiry p) s = .next (giveTurns (jamTurn s p) s (jam p s)) := by
  change execTransferTimerExpiry p s = _
  unfold execTransferTimerExpiry
  rw [if_pos (Option.isSome_iff_ne_none.mpr h)]

theorem jamInsertion_eq {j : Job} {r : StoreRecord} {sl : Slot} (hj : (s.ports.get p).job = some j)
    (hr : s.stores.get p = some r) (hsl : s.slot? p j.carrier j.level = some sl) : jamInsertion p s =
    raiseEvent .storeRejected (raiseEvent .portFault (((s.setSlot p j.carrier j.level
        { sl.filled r with condition := .blocked, finding := some .insertJam }).setStore p
          (some { r with state := .rejected .jam })).setPort p { s.ports.get p with
      shuttle := .faulted, insertOut := false, job := none, transferTimer := none
      fault := some (.insert p j.carrier j.level p) })) := by
  unfold jamInsertion
  rw [hj, hr]
  dsimp only
  rw [modSlot_of_get hsl]
  rfl

theorem jamExtraction_eq {j : Job} {sl : Slot} {id : Id32} {seq : Nat} (hj : (s.ports.get p).job = some j)
    (hsl : s.slot? p j.carrier j.level = some sl) (hout : sl.outFor = some (id, seq)) : jamExtraction p s =
    makeShort id seq .jam (raiseEvent .portFault ((s.setSlot p j.carrier j.level
        { sl with condition := .blocked, reservation := .none, finding := some .extractJam }).setPort p { s.ports.get p with
      shuttle := .faulted, extractOut := false, job := none, transferTimer := none
      fault := some (.extract j.carrier j.level id seq) })) := by
  unfold jamExtraction
  rw [hj]
  dsimp only
  rw [hsl]
  dsimp only
  rw [hout]
  rfl

theorem jamRelease_eq {lr : LoadRecord} (hl : (s.ports.get p).loadRec = some lr) : jamRelease p s =
    judgeGate (raiseEvent .portFault (((s.setPort p { s.ports.get p with
      shuttle := .faulted, releaseOut := false, transferTimer := none, fault := some .release }).setLine
        lr.order lr.line .onShuttle).setStation { s.station with releasePort := none })) := by
  unfold jamRelease
  rw [hl]
  rfl

/-! ## Starts (R83, R85) -/

theorem ready_iff {port : Port} : port.ready = true ↔ port.shuttle = .homeEmpty ∧ port.load = false ∧ port.scan = none := by
  unfold Port.ready
  simp [and_assoc]

/-- The carrier at a port is that of its IDLE group's offset, in NORMAL (R2, R81). -/
theorem carrierAt_iff {c : Nat} : s.carrierAt p = some c ↔ s.link.mode = .normal ∧ ∃ g grp k, s.groupOf p = some g
    ∧ s.groups.get g = some grp ∧ grp.state = .idle ∧ grp.k = some k ∧ c = (s.geometry g).atPort k := by
  unfold State.carrierAt
  cases hp : s.groupOf p with
  | none => simp
  | some g =>
    cases hg : s.groups.get g with
    | none => simp [hg]
    | some grp =>
      by_cases hi : grp.state = .idle ∧ s.link.mode = .normal
      · cases hk : grp.k with
        | none => simp [hg, hk]
        | some k => simp [hg, hk, hi.1, hi.2, eq_comm]
      · simp only [hg, if_neg hi, reduceCtorEq, false_iff]
        rintro ⟨hm, g', grp', k, hg', hgrp, hst, -, -⟩
        cases hg'
        rw [hg] at hgrp
        cases hgrp
        exact hi ⟨hst, hm⟩

theorem startedBeside_iff {g : Index} {grp : Group} (hg : s.groups.get g = some grp) :
    startedBeside s g p = true ↔ ∃ x ∈ grp.members, x ≠ p ∧ grp.startedHere.get x = true := by
  unfold startedBeside
  rw [hg]
  simp

theorem failGate_store {g : Index} {r : StoreRecord} (hr : s.stores.get p = some r) : failGate g p (.store p) s =
    if startedBeside s g p = true ∧ r.cond ≠ .reconsidered
      then raiseEvent .balanceWait (s.setStore p (some { r with cond := .reconsidered }))
      else raiseEvent .balanceWait (s.setStore p (some { r with cond := .balanceWait })) := by
  have hw : markWait (.store p) s = raiseEvent .balanceWait (s.setStore p (some { r with cond := .balanceWait })) := by
    simp only [markWait, modStore_of_get hr]
  have hrec : s.reconsidered (.store p) = (r.cond == .reconsidered) := by
    unfold State.reconsidered
    simp only [hr]
  unfold failGate
  rw [hw, hrec]
  by_cases hb : startedBeside s g p = true ∧ r.cond ≠ .reconsidered
  · rw [if_pos hb, if_pos (by simp [hb.1, hb.2])]
    simp only [reconsiderTask]
    rw [modStore_of_get (r := { r with cond := .balanceWait }) (by simp)]
    rw [State.setStore, raiseEvent_stores, setStore_stores, Quad.set_set]
    rfl
  · rw [if_neg hb, if_neg (by simpa using hb)]

theorem failGate_pick {g : Index} {id : Id32} {seq : Nat} : failGate g p (.pick id seq) s =
    if startedBeside s g p = true ∧ ∀ l, s.findLine id seq = some l → l.state ≠ .balanceWait true
      then raiseEvent .balanceWait ((s.setLine id seq (.balanceWait false)).setLine id seq (.balanceWait true))
      else raiseEvent .balanceWait (s.setLine id seq (.balanceWait false)) := by
  have hrec : s.reconsidered (.pick id seq) = false ↔ ∀ l, s.findLine id seq = some l → l.state ≠ .balanceWait true := by
    unfold State.reconsidered
    cases h : s.findLine id seq <;> simp [h]
  unfold failGate
  by_cases hb : startedBeside s g p = true ∧ ∀ l, s.findLine id seq = some l → l.state ≠ .balanceWait true
  · rw [if_pos hb, if_pos (by simp [hb.1, hrec.mpr hb.2])]
    rfl
  · rw [if_neg hb, if_neg]
    · rfl
    · simp only [Bool.and_eq_true, Bool.not_eq_true', hrec]
      exact hb

/-- A line set twice is as it was set last. -/
theorem setLine_setLine (id : Id32) (seq : Nat) (a b : LineState) (s : State) :
    (s.setLine id seq a).setLine id seq b = s.setLine id seq b := by
  have lines : ∀ l : Line, (if (if l.seq = seq then { l with state := a } else l).seq = seq
      then { (if l.seq = seq then { l with state := a } else l) with state := b }
      else if l.seq = seq then { l with state := a } else l) = if l.seq = seq then { l with state := b } else l := fun l => by
    by_cases h : l.seq = seq <;> simp [h]
  have orders : ∀ o : Order, (if (if o.id = id then o.modLine seq (fun l => { l with state := a }) else o).id = id
      then (if o.id = id then o.modLine seq (fun l => { l with state := a }) else o).modLine seq (fun l => { l with state := b })
      else if o.id = id then o.modLine seq (fun l => { l with state := a }) else o) =
      if o.id = id then o.modLine seq (fun l => { l with state := b }) else o := fun o => by
    by_cases h : o.id = id
    · have hid : (o.modLine seq fun l => { l with state := a }).id = id := h
      rw [if_pos h, if_pos hid, if_pos h]
      unfold Order.modLine
      simp only [List.map_map]
      congr 1
      exact List.map_congr_left fun l _ => lines l
    · simp [h]
  unfold State.setLine State.modLine State.modOrder State.mapOrders State.setSched
  simp only [List.map_map]
  congr 2
  refine List.map_congr_left fun e _ => ?_
  cases e with
  | none => rfl
  | some o => exact congrArg some (orders o)

end Sys2Proof.Machine

/-! SUPPORT. Transfers that start (R83, R85), the gates' arithmetic (R47 to R49), and scans (R81, R82). -/

namespace Sys2Proof.Machine

open Sys2Proof

variable {s : State} {p : Index}

/-! ## An insertion and an extraction asked for (R83, R85) -/

theorem insertionSlot_eq_some {r : StoreRecord} {c l m : Nat} {tag : Id32} {sl : Slot} (hready : (s.ports.get p).ready = true)
    (hr : s.stores.get p = some r) (hst : r.state = .placed) (hch : r.chosen = some (c, l)) (hc : s.carrierAt p = some c)
    (hsl : s.slot? p c l = some sl) (hres : sl.reservation = .inbound p tag m .planned) :
    insertionSlot s p = some (c, l, m) := by
  unfold insertionSlot
  simp only [if_pos hready, hr, hst, hch, if_pos hc, hsl, hres, if_true]

theorem insertionSlot_eq_none (h : (s.ports.get p).ready = false ∨ s.carrierAt p = none ∨ s.stores.get p = none
    ∨ ∃ r, s.stores.get p = some r ∧ (r.state ≠ .placed ∨ ∀ c l, r.chosen = some (c, l) → s.carrierAt p ≠ some c)) :
    insertionSlot s p = none := by
  unfold insertionSlot
  split
  · rename_i hready
    split
    · rename_i r hr
      split
      · rename_i c l hst hch
        refine if_neg fun hc => ?_
        rcases h with h | h | h | ⟨r', hr', h | h⟩
        · rw [hready] at h; cases h
        · rw [hc] at h; cases h
        · rw [hr] at h; cases h
        · rw [hr] at hr'; cases hr'; exact h hst
        · rw [hr] at hr'; cases hr'; exact h c l hch hc
      · rfl
    · rfl
  · rfl

theorem askInsertion_of_slot {g : Index} {c l m : Nat} (hslot : insertionSlot s p = some (c, l, m)) (hg : s.groupOf p = some g) :
    askInsertion p s =
      if gatePasses s g c m then (beginInsertion p c l m s, true) else (failGate g p (.store p) s, false) := by
  unfold askInsertion
  rw [hslot, hg]

theorem askInsertion_none (h : insertionSlot s p = none) : askInsertion p s = (s, false) := by
  unfold askInsertion
  rw [h]

theorem askExtraction_of_ready {g : Index} {id : Id32} {seq c l : Nat} {sl : Slot} (hg : s.groupOf p = some g)
    (hready : (s.ports.get p).ready = true) (hc : s.carrierAt p = some c) : askExtraction p id seq c l sl s =
      if gatePasses s g c (-(sl.recorded : Int)) then beginExtraction p id seq c l sl.recorded s
      else failGate g p (.pick id seq) s := by
  unfold askExtraction
  rw [hg]
  exact if_pos ⟨hready, hc⟩

theorem askExtraction_none {id : Id32} {seq c l : Nat} {sl : Slot}
    (h : (s.ports.get p).ready = false ∨ s.carrierAt p ≠ some c) : askExtraction p id seq c l sl s = s := by
  unfold askExtraction
  split
  · rfl
  · refine if_neg ?_
    rintro ⟨hready, hc⟩
    rcases h with h | h
    · rw [hready] at h; cases h
    · exact h hc

/-- The noted start after mass was handed: the group's record as handed, with the start noted. -/
theorem noteStart_handMass {g : Index} {grp : Group} {c : Nat} {dm : Int} (hp : s.groupOf p = some g)
    (hg : s.groups.get g = some grp) : ∃ grp', (handMass p c dm .effective s).groups.get g = some grp'
      ∧ noteStart p (handMass p c dm .effective s) = (handMass p c dm .effective s).setGroup g
          (some { grp' with startedHere := grp.startedHere.set p true }) := by
  have hof : (handMass p c dm .effective s).groupOf p = some g := (handMass_groupOf ..).trans hp
  rcases handMass_groups_get p c dm .effective s g with h | ⟨a, ha, h⟩
  · exact ⟨grp, h.trans hg, noteStart_of_group hof (h.trans hg)⟩
  · rw [hg] at ha
    cases ha
    exact ⟨_, h, noteStart_of_group hof h⟩

theorem handMass_slot? (x : Index) (c : Nat) (dm : Int) (w : Named) (s : State) (y : Index) (c' l' : Nat) :
    (handMass x c dm w s).slot? y c' l' = s.slot? y c' l' := by
  rw [slot?_eq, slot?_eq, handMass_carousels]

/-- An insertion begun, with the records that it changes at hand. -/
theorem beginInsertion_eq {c l m : Nat} {sl : Slot} {r : StoreRecord} {v : State}
    (hv : noteStart p (handMass p c m .effective s) = v) (hsl : v.slot? p c l = some sl) (hr : v.stores.get p = some r) :
    beginInsertion p c l m s = State.modPort (State.setSched ((v.setSlot p c l { sl with
        counted := m, reservation := match sl.reservation with
          | .inbound q t m' _ => .inbound q t m' .started
          | r => r }).setStore p (some { r with state := .inserting }))
      { v.sched with placedOrder := v.sched.placedOrder.filter (· != p) }) p fun port => { port with
        shuttle := .inserting, insertOut := true, job := some { carrier := c, level := l, leftHome := false }
        transferTimer := some v.station.settings.transferTimeout } := by
  unfold beginInsertion
  rw [hv]
  dsimp only
  rw [modSlot_of_get hsl, modStore_of_get (r := r) (by exact hr)]
  rfl

/-- An extraction begun, with the slot at hand. -/
theorem beginExtraction_eq {id : Id32} {seq c l m : Nat} {sl : Slot} {v : State}
    (hv : noteStart p (handMass p c (-(m : Int)) .effective s) = v) (hsl : v.slot? p c l = some sl) :
    beginExtraction p id seq c l m s = State.modPort ((v.setSlot p c l { sl with
        counted := 0, reservation := .outbound id seq .started }).setLine id seq .extracting) p fun port => { port with
        shuttle := .extracting, extractOut := true, job := some { carrier := c, level := l, leftHome := false }
        transferTimer := some v.station.settings.transferTimeout } := by
  unfold beginExtraction
  rw [hv]
  dsimp only
  rw [modSlot_of_get hsl]
  rfl

theorem beginInsertion_spec {g : Index} {grp : Group} {r : StoreRecord} {c l m : Nat} {tag : Id32} {sl : Slot}
    (hp : s.groupOf p = some g) (hg : s.groups.get g = some grp) (hr : s.stores.get p = some r)
    (hsl : s.slot? p c l = some sl) (hres : sl.reservation = .inbound p tag m .planned) :
    (beginInsertion p c l m s).slot? p c l = some { sl with counted := m, reservation := .inbound p tag m .started }
    ∧ (∃ grp', (handMass p c m .effective s).groups.get g = some grp'
        ∧ (beginInsertion p c l m s).groups = (handMass p c m .effective s).groups.set
            g (some { grp' with startedHere := grp.startedHere.set p true }))
    ∧ (beginInsertion p c l m s).ports = s.ports.set p { s.ports.get p with
        shuttle := .inserting, insertOut := true, job := some { carrier := c, level := l, leftHome := false }
        transferTimer := some s.station.settings.transferTimeout }
    ∧ (∃ r', (beginInsertion p c l m s).stores.get p = some r' ∧ r'.state = .inserting ∧ r'.tag = r.tag
        ∧ r'.chosen = r.chosen ∧ r'.measured = r.measured)
    ∧ (beginInsertion p c l m s).channels = s.channels ∧ (beginInsertion p c l m s).station = s.station
    ∧ (beginInsertion p c l m s).audit = s.audit ∧ (beginInsertion p c l m s).link = s.link := by
  obtain ⟨grp', hgrp', hn⟩ := noteStart_handMass (c := c) (dm := (m : Int)) hp hg
  have hsl' : State.slot? ((handMass p c m .effective s).setGroup g
      (some { grp' with startedHere := grp.startedHere.set p true })) p c l = some sl := (handMass_slot? ..).trans hsl
  have hstore : ∃ r', (handMass p c m .effective s).stores.get p = some r' ∧ r'.tag = r.tag ∧ r'.chosen = r.chosen
      ∧ r'.measured = r.measured := by
    rcases handMass_stores_get p c m .effective s p with h | h
    · exact ⟨r, h.trans hr, rfl, rfl, rfl⟩
    · refine ⟨reconsiderStore r, by rw [h, hr]; rfl, ?_⟩
      unfold reconsiderStore
      split <;> exact ⟨rfl, rfl, rfl⟩
  obtain ⟨r', hr', htag, hch, hme⟩ := hstore
  rw [beginInsertion_eq hn hsl' hr', hres]
  refine ⟨?_, ⟨grp', hgrp', rfl⟩, ?_, ⟨{ r' with state := .inserting }, ?_, rfl, htag, hch, hme⟩, ?_, ?_, ?_, ?_⟩
  · exact slot?_setSlot_same hsl' _
  · simp [State.modPort]
  · simp [State.modPort]
  · simp [State.modPort]
  · simp [State.modPort]
  · simp [State.modPort]
  · simp [State.modPort]

theorem beginExtraction_spec {g : Index} {grp : Group} {id : Id32} {seq c l : Nat} {sl : Slot}
    (hp : s.groupOf p = some g) (hg : s.groups.get g = some grp) (hsl : s.slot? p c l = some sl) :
    (beginExtraction p id seq c l sl.recorded s).slot? p c l =
      some { sl with counted := 0, reservation := .outbound id seq .started }
    ∧ (∃ grp', (handMass p c (-(sl.recorded : Int)) .effective s).groups.get g = some grp'
        ∧ (beginExtraction p id seq c l sl.recorded s).groups = (handMass p c (-(sl.recorded : Int)) .effective s).groups.set
            g (some { grp' with startedHere := grp.startedHere.set p true }))
    ∧ (beginExtraction p id seq c l sl.recorded s).ports = s.ports.set p { s.ports.get p with
        shuttle := .extracting, extractOut := true, job := some { carrier := c, level := l, leftHome := false }
        transferTimer := some s.station.settings.transferTimeout }
    ∧ (∀ ln, s.findLine id seq = some ln → ∃ ln', (beginExtraction p id seq c l sl.recorded s).findLine id seq = some ln'
        ∧ ln'.state = .extracting)
    ∧ (beginExtraction p id seq c l sl.recorded s).channels = s.channels
    ∧ (beginExtraction p id seq c l sl.recorded s).station = s.station
    ∧ (beginExtraction p id seq c l sl.recorded s).audit = s.audit
    ∧ (beginExtraction p id seq c l sl.recorded s).link = s.link := by
  obtain ⟨grp', hgrp', hn⟩ := noteStart_handMass (c := c) (dm := -(sl.recorded : Int)) hp hg
  have hsl' : State.slot? ((handMass p c (-(sl.recorded : Int)) .effective s).setGroup g
      (some { grp' with startedHere := grp.startedHere.set p true })) p c l = some sl := (handMass_slot? ..).trans hsl
  rw [beginExtraction_eq hn hsl']
  refine ⟨?_, ⟨grp', hgrp', rfl⟩, ?_, fun ln hln => ?_, ?_, ?_, ?_, ?_⟩
  · exact slot?_setSlot_same hsl' _
  · simp [State.modPort]
  · have hsome : ((handMass p c (-(sl.recorded : Int)) .effective s).findLine id seq).isSome = true := by
      rw [handMass_findLine, hln]; rfl
    obtain ⟨ln', hln'⟩ := Option.isSome_iff_exists.mp hsome
    refine ⟨{ ln' with state := .extracting }, ?_, rfl⟩
    exact (findLine_setLine_same _ id seq .extracting).trans (congrArg (Option.map _) hln')
  · simp [State.modPort]
  · simp [State.modPort]
  · simp [State.modPort]
  · simp [State.modPort]

/-! ## The gates (R47 to R49) -/

theorem trialPeak_le_iff {geo : Geometry} {e : List Int} (he : e.length = geo.carriers) (c : Nat) (dm : Int) (n : Nat) :
    trialPeak geo e c dm ≤ n ↔ ∀ k, k < geo.carriers →
      (e.getD k 0 + leverWeight geo.carriers geo.bend ((c + k) % geo.carriers) * dm).natAbs ≤ n := by
  have hl : e.length = (massProfile geo c dm).length := by rw [he, massProfile_length]
  have hlen : (addProfile e (massProfile geo c dm)).length = geo.carriers := (addProfile_length hl).trans he
  unfold trialPeak
  rw [peak_le_iff, List.forall_mem_iff_forall_getElem]
  have value : ∀ k (hk : k < geo.carriers), (addProfile e (massProfile geo c dm))[k]'(hlen ▸ hk) =
      e.getD k 0 + leverWeight geo.carriers geo.bend ((c + k) % geo.carriers) * dm := fun k hk => by
    rw [← massProfile_getD geo c dm hk, ← addProfile_getD hl, List.getD_eq_getElem _ _ (hlen ▸ hk)]
  exact ⟨fun h k hk => value k hk ▸ h k (hlen ▸ hk), fun h k hk => value k (hlen ▸ hk) ▸ h k (hlen ▸ hk)⟩

theorem gatePasses_iff {g : Index} {grp : Group} (hg : s.groups.get g = some grp) (c : Nat) (dm : Int) :
    gatePasses s g c dm = true ↔ trialPeak (s.geometry g) grp.effective c dm ≤ grp.params.ld := by
  unfold gatePasses
  rw [hg]
  simp

theorem placementQuery_eq {g x : Index} {cfg : CarouselConfig} {grp : Group} (hcfg : (s.carousels.get x).config = some cfg)
    (hg : s.groups.get g = some grp) (c l m : Nat) : placementQuery s g x c l m =
    if cfg.levelLimits.getD l 0 < m ∨ cfg.carrierLimit < carrierLoad (s.carrierSlots x c) + m then .limit
    else if trialPeak (s.geometry g) grp.planned c m ≤ grp.params.lp then .pass (trialPeak (s.geometry g) grp.planned c m)
    else .gate (trialPeak (s.geometry g) grp.planned c m) := by
  unfold placementQuery
  rw [hcfg, hg]
  dsimp only
  by_cases h1 : cfg.levelLimit l < m
  · rw [if_pos h1, if_pos (.inl (by exact h1))]
  · by_cases h2 : cfg.carrierLimit < carrierLoad (s.carrierSlots x c) + m
    · rw [if_neg h1, if_pos h2, if_pos (.inr h2)]
    · rw [if_neg h1, if_neg h2, if_neg (not_or.mpr ⟨by exact h1, h2⟩)]

/-! ## Scans (R81, R82) -/

/-- The report that an answer makes at a level, the presence line as it stands. -/
def faceReport (port : Port) (level : Nat) (answer : Option Id32) : LevelReport :=
  if port.presence.getD level false then answer.elim .noRead .tag else .absent

/-- A scan with a report taken at a level that had none. -/
def Scan.reported (sc : Scan) (level : Nat) (rep : LevelReport) : Scan :=
  { sc with levels := sc.levels.map fun e =>
      if e.level = level ∧ e.report.isNone then { e with report := some rep } else e }

theorem answerFaceTag_eq {sc : Scan} (hsc : (s.ports.get p).scan = some sc) (level : Nat) (answer : Option Id32) :
    answerFaceTag p level answer s =
      if (sc.reported level (faceReport (s.ports.get p) level answer)).complete
        then endScan p (s.setPort p { s.ports.get p with
          scan := some (sc.reported level (faceReport (s.ports.get p) level answer)) })
        else s.setPort p { s.ports.get p with
          scan := some (sc.reported level (faceReport (s.ports.get p) level answer)) } := by
  unfold answerFaceTag
  rw [hsc]
  cases answer <;> rfl

theorem complete_iff {sc : Scan} : sc.complete = true ↔ ∀ e ∈ sc.levels, e.report ≠ none := by
  unfold Scan.complete
  simp [Option.isSome_iff_ne_none]

theorem scanEnded_of {before after : State} {sc : Scan} (h : (before.ports.get p).scan = some sc) :
    scanEnded before after p = if (after.ports.get p).scan = none then (before.groupOf p).toList else [] := by
  unfold scanEnded portGroup
  rw [h]
  cases (after.ports.get p).scan <;> simp

theorem endScan_of {sc : Scan} (h : (s.ports.get p).scan = some sc) : endScan p s =
    match sc.user with
    | .audit => auditComparison p sc (s.setPort p { s.ports.get p with scan := none })
    | .withdrawn => s.setPort p { s.ports.get p with scan := none }
    | .faceCheck id seq => sc.levels.head?.elim (s.setPort p { s.ports.get p with scan := none }) fun e =>
        endFaceCheck p id seq sc.carrier e.level (e.report.getD .noReport) (s.setPort p { s.ports.get p with scan := none }) := by
  unfold endScan
  rw [h]
  dsimp only
  cases sc.user with
  | faceCheck id seq => cases sc.levels <;> rfl
  | audit => rfl
  | withdrawn => rfl

theorem endFaceCheck_of {id : Id32} {seq c l : Nat} {sl : Slot} {rep : LevelReport} (hsl : s.slot? p c l = some sl)
    (hres : sl.reservation = .outbound id seq .planned) : endFaceCheck p id seq c l rep s =
    (faceOutcome sl rep).elim (askExtraction p id seq c l sl s) fun e => makeShort id seq e.2
      (handMass p c (sl.recorded : Int) .planned
        (s.setSlot p c l { sl with condition := .suspect, reservation := .none, finding := some e.1 })) := by
  unfold endFaceCheck
  rw [hsl]
  dsimp only
  rw [if_pos hres]
  cases faceOutcome sl rep <;> rfl

theorem endFaceCheck_other {id : Id32} {seq c l : Nat} {sl : Slot} {rep : LevelReport} (hsl : s.slot? p c l = some sl)
    (hres : sl.reservation ≠ .outbound id seq .planned) : endFaceCheck p id seq c l rep s = s := by
  unfold endFaceCheck
  rw [hsl]
  exact if_neg hres

end Sys2Proof.Machine

namespace Sys2Proof.Certificates

open Sys2Proof Sys2Proof.Machine

/-- Settles O32: the judgement from the stable inputs, and a taken input whose completion conditions fail. -/
theorem portInputsTaken : Obligations.PortInputsTaken := by
  refine ⟨fun s p home extended load => ⟨fun h => ?waited, fun h => ?judged⟩, fun s p i v port hport hdone => ?input⟩
  case waited =>
    change execPortRestJudgement p home extended load s = _
    simp [execPortRestJudgement, h]
  case judged =>
    change execPortRestJudgement p home extended load s = _
    rw [execPortRestJudgement, if_pos h]
    cases home <;> cases extended <;> cases load <;> rfl
  case input =>
    have htake : (s.ports.get p).take i v = port := by
      refine ((take_eq _ _ _).trans ?_).trans hport.symm
      cases i <;> rfl
    have noInsertion : port.insertionDone = false := by
      refine Bool.eq_false_iff.mpr fun h => ?_
      obtain ⟨hst, j, hj, hleft, hhome, hext, hpres⟩ := insertionDone_iff.mp h
      rw [(hdone j hj hleft hhome hext).1 hst] at hpres
      cases hpres
    have noExtraction : port.extractionDone = false := by
      refine Bool.eq_false_iff.mpr fun h => ?_
      obtain ⟨hst, j, hj, hleft, hhome, hext, hpres, hload⟩ := extractionDone_iff.mp h
      rcases (hdone j hj hleft hhome hext).2 hst with h | h
      · rw [h] at hpres; cases hpres
      · rw [h] at hload; cases hload
    refine ⟨fun hq => ?_, fun g hi hv hg hr => ?_⟩
    · have hidle : judgeInterlock p i v (s.setPort p ((s.ports.get p).take i v)) = s.setPort p port := by
        rw [judgeInterlock_idle (by exact hq), htake]
      refine congrArg Host.Outcome.next (inputTaken_of_not_done hidle ?_ ?_)
      · rw [setPort_ports, Quad.get_set_same, noInsertion]
      · rw [setPort_ports, Quad.get_set_same, noExtraction]
    · subst hi hv
      have htaken : judgeInterlock p .home false (s.setPort p ((s.ports.get p).take .home false)) =
          groupFault g .interlock (s.setPort p port) := by
        rw [judgeInterlock_taken (by exact hg) (by exact hr), htake]
      have hsame := groupFault_port g .interlock (s.setPort p port) p
      rw [setPort_ports, Quad.get_set_same] at hsame
      obtain ⟨hi, he⟩ := done_withoutScan port
      refine congrArg Host.Outcome.next (inputTaken_of_not_done htaken ?_ ?_)
      · rcases hsame with h | h <;> rw [h]
        · exact noInsertion
        · exact hi.trans noInsertion
      · rcases hsame with h | h <;> rw [h]
        · exact noExtraction
        · exact he.trans noExtraction

/-- Settles O33: each start through `askInsertion` and `askExtraction`, and the gates' arithmetic. -/
theorem transfersStart : Obligations.TransfersStart := by
  refine ⟨fun s p g grp r c l m tag sl hsh hload hscan hr hst hch hc hsl hres hp hg => ?insertion,
    fun s p g grp id seq c l sl hsh hload hscan hc hsl hp hg => ?extraction, fun s p busy hbusy => ?nothing,
    fun s g x cfg grp c l m dm hcfg hg => ?gates⟩
  case insertion =>
    have ask := askInsertion_of_slot (insertionSlot_eq_some (ready_iff.mpr ⟨hsh, hload, hscan⟩) hr hst hch hc hsl hres) hp
    have beside := startedBeside_iff (p := p) hg
    refine ⟨fun hgate => ⟨fun hb hcond => ?_, fun hn => ?_⟩, fun hgate => ?_⟩
    · rw [ask, hgate, if_neg Bool.false_ne_true, failGate_store hr, if_pos ⟨beside.mpr hb, hcond⟩]
    · rw [ask, hgate, if_neg Bool.false_ne_true, failGate_store hr, if_neg]
      rintro ⟨hb, hcond⟩
      obtain ⟨x, hx, hne, ht⟩ := beside.mp hb
      rcases hn with hn | hn
      · rcases hn x hx with h | h
        · exact hne h
        · rw [h] at ht; cases ht
      · exact hcond hn
    · exact ⟨beginInsertion p c l m s, by rw [ask, if_pos hgate], beginInsertion_spec hp hg hr hsl hres⟩
  case extraction =>
    have ask := askExtraction_of_ready (id := id) (seq := seq) (l := l) (sl := sl) hp (ready_iff.mpr ⟨hsh, hload, hscan⟩) hc
    have beside := startedBeside_iff (p := p) hg
    refine ⟨fun hgate => ⟨fun hb hcond => ?_, fun hn => ?_⟩, fun hgate => ?_⟩
    · rw [ask, hgate, if_neg Bool.false_ne_true, failGate_pick, if_pos ⟨beside.mpr hb, hcond⟩, setLine_setLine]
    · rw [ask, hgate, if_neg Bool.false_ne_true, failGate_pick, if_neg]
      rintro ⟨hb, hcond⟩
      obtain ⟨x, hx, hne, ht⟩ := beside.mp hb
      rcases hn with hn | ⟨ln, hln, hw⟩
      · rcases hn x hx with h | h
        · exact hne h
        · rw [h] at ht; cases ht
      · exact hcond ln hln hw
    · exact ⟨beginExtraction p id seq c l sl.recorded s, by rw [ask, if_pos hgate], beginExtraction_spec hp hg hsl⟩
  case nothing =>
    have notReady : busy → (s.ports.get p).ready = false := fun h => Bool.eq_false_iff.mpr fun hr => by
      obtain ⟨hsh, hload, hscan⟩ := ready_iff.mp hr
      rcases hbusy.mp h with h | h | h
      · exact h hsh
      · rw [hload] at h; cases h
      · exact h hscan
    exact ⟨fun c => carrierAt_iff, fun h => askInsertion_none (insertionSlot_eq_none (h.imp notReady id)),
      fun id seq c l sl h => askExtraction_none (h.imp notReady fun h => h)⟩
  case gates =>
    exact ⟨fun h => (placementQuery_eq hcfg hg c l m).trans (if_pos h),
      fun h1 h2 => (placementQuery_eq hcfg hg c l m).trans (if_neg (not_or.mpr ⟨Nat.not_lt.mpr h1, Nat.not_lt.mpr h2⟩)),
      gatePasses_iff hg c dm, fun e n he => trialPeak_le_iff he c dm n⟩

/-- Settles O34: the completion condition of each transfer, reached through the input that makes it true. -/
theorem transfersComplete : Obligations.TransfersComplete := by
  refine ⟨fun s p i v j r sl tag m port hsh hj hr hsl hres hport hq hleft hhome hext hpres => ?insertion,
    fun s p i v j sl id seq port hsh hj hsl hres hport hq hleft hhome hext hpres hload => ?extraction⟩
  case insertion =>
    subst hport
    have hjob := (take_job_of_home (port := s.ports.get p) hq).trans hj
    have hdone := insertionDone_iff.mpr ⟨(take_shuttle (s.ports.get p) i v).trans hsh, j, hjob, hleft, hhome, hext, hpres⟩
    have hcomplete : completeInsertion p (s.setPort p ((s.ports.get p).take i v)) = _ :=
      completeInsertion_eq (j := j) (r := r) (sl := sl) (by rw [setPort_ports, Quad.get_set_same]; exact hjob) hr hsl
    have hrun := inputTaken_insertion hq hdone
    rw [hcomplete, setPort_ports, Quad.get_set_same, Slot.filled, hres] at hrun
    rw [State.setPort, setStore_ports, setSlot_ports, setPort_ports, Quad.set_set] at hrun
    exact ⟨_, rfl, congrArg Host.Outcome.next hrun, congrArg Host.Outcome.next hrun⟩
  case extraction =>
    subst hport
    have hjob := (take_job_of_home (port := s.ports.get p) hq).trans hj
    have hshuttle := (take_shuttle (s.ports.get p) i v).trans hsh
    have hno : ((s.ports.get p).take i v).insertionDone = false := Bool.eq_false_iff.mpr fun h => by
      have := (insertionDone_iff.mp h).1
      rw [hshuttle] at this
      cases this
    have hdone := extractionDone_iff.mpr ⟨hshuttle, j, hjob, hleft, hhome, hext, hpres, hload⟩
    have hout : sl.outFor = some (id, seq) := by
      unfold Slot.outFor
      rw [hres]
    have hcomplete : completeExtraction p (s.setPort p ((s.ports.get p).take i v)) = _ :=
      completeExtraction_eq (j := j) (sl := sl) (by rw [setPort_ports, Quad.get_set_same]; exact hjob) hsl hout
    have hrun := inputTaken_extraction hq hno hdone
    rw [hcomplete, setPort_ports, Quad.get_set_same] at hrun
    rw [State.setPort, setSlot_ports, setPort_ports, Quad.set_set] at hrun
    exact ⟨_, rfl, congrArg Host.Outcome.next hrun, congrArg Host.Outcome.next hrun⟩

/-- Settles O35: the jam of each transfer, and `makeShort` as its line's change with the order and the gate judged. -/
theorem transferJams : Obligations.TransferJams := by
  refine ⟨fun s p ht => ⟨fun j r sl tag m hsh hj hr hsl hres => ?_, fun j sl id seq hsh hj hsl hres => ?_, fun lr hsh hl => ?_⟩,
    fun s id seq l why hl => ?_⟩
  · have hturn : jamTurn s p = (s.groupOf p).toList := by unfold jamTurn; rw [hsh]; rfl
    have hjam : jam p s = jamInsertion p s := by unfold jam; rw [hsh]
    rw [exec_transferTimerExpiry ht, hturn, hjam, jamInsertion_eq hj hr hsl, Slot.filled, hres]
  · have hturn : jamTurn s p = (s.groupOf p).toList := by unfold jamTurn; rw [hsh]; rfl
    have hjam : jam p s = jamExtraction p s := by unfold jam; rw [hsh]
    have hout : sl.outFor = some (id, seq) := by
      unfold Slot.outFor
      rw [hres]
    rw [exec_transferTimerExpiry ht, hturn, hjam, jamExtraction_eq hj hsl hout]
  · have hturn : jamTurn s p = [] := by unfold jamTurn; rw [hsh]
    have hjam : jam p s = jamRelease p s := by unfold jam; rw [hsh]
    rw [exec_transferTimerExpiry ht, hturn, hjam, jamRelease_eq hl]
  · refine ⟨(raiseEvent .orderShort s).link.flags, (s.setLine id seq (.short why)).sched,
      raiseEvent .orderShort (s.setLine id seq (.short why)), rfl, rfl, ?_, fun id' seq' hne => ?_, fun hs => ?_, rfl⟩
    · have h := findLine_setLine_same s id seq (.short why)
      rw [hl] at h
      exact h
    · exact findLine_setLine_ne hne s (.short why)
    · rw [raiseEvent_link, hs]
      rfl

/-- Settles O36: an answer makes a report, a scan that ends goes to its user, and a face check by its outcome. -/
theorem scansAndFaceChecks : Obligations.ScansAndFaceChecks := by
  refine ⟨fun s p sc hsc => ⟨fun level answer sc' hsc' => ?answer, ⟨_, rfl, ?timeout⟩, fun hu => ?_, fun hu => ?_,
    fun id seq e es hu hl => ?_⟩, fun s p id seq c l sl rep hsl => ⟨fun hres => endFaceCheck_other hsl hres, fun hres =>
    ⟨fun hrep => ?_, fun f why hcase => ?_⟩⟩⟩
  case answer =>
    have hanswered : sc.reported level.val (faceReport (s.ports.get p) level.val answer) = sc' := by
      rw [hsc']
      unfold Scan.reported faceReport
      simp only [Option.isNone_iff_eq_none]
      cases (s.ports.get p).presence.getD level.val false <;> cases answer <;> rfl
    have hrun : exec (.faceTagAnswer p level answer) s =
        .next (giveTurns (scanEnded s (answerFaceTag p level.val answer s) p) s (answerFaceTag p level.val answer s)) := rfl
    rw [answerFaceTag_eq hsc, hanswered] at hrun
    refine ⟨fun hopen => ?_, fun hall => ⟨_, rfl, ?_⟩⟩
    · have hnot : ¬sc'.complete = true := fun h => by
        obtain ⟨e, he, hnone⟩ := hopen
        exact complete_iff.mp h e he hnone
      rw [hrun, if_neg hnot, scanEnded_of hsc, if_neg (by simp)]
    · rw [hrun, if_pos (complete_iff.mpr hall), scanEnded_of hsc]
  case timeout =>
    rw [← scanEnded_of hsc]
    rfl
  · rw [endScan_of hsc, hu]
  · rw [endScan_of hsc, hu]
  · rw [endScan_of hsc, hu, hl]
    rfl
  · rw [endFaceCheck_of hsl hres, hrep]
    simp [faceOutcome]
  · rw [endFaceCheck_of hsl hres]
    have hout : faceOutcome sl rep = some (f, why) := by
      rcases hcase with ⟨rfl, rfl, rfl⟩ | ⟨t, rfl, ht, rfl, rfl⟩ | ⟨rfl | rfl | rfl, rfl, rfl⟩
      · rfl
      · simp [faceOutcome, ht]
      · rfl
      · rfl
      · rfl
    rw [hout]
    rfl

end Sys2Proof.Certificates

/-! SUPPORT. A raised flag, the lowest key, the infeed work case by case, and what placement reads. -/

namespace Sys2Proof.Machine

open Sys2Proof

variable {s : State} {p : Index} {r : StoreRecord}

/-! ## Flags and keys -/

theorem eventBit_injective : Function.Injective eventBit := fun a b h => by
  cases a <;> cases b <;> simp [eventBit] at h ⊢

/-- After sampling an event sets its own flag and no other (R169). -/
theorem raiseEvent_flagSet (h : s.link.sampled = true) (e e' : Event) :
    (raiseEvent e s).flagSet e' = (s.flagSet e' || e' == e) := by
  unfold State.flagSet
  rw [raiseEvent_link, if_pos h]
  change (s.link.flags ||| BitVec.twoPow 13 (eventBit e)).getLsbD (eventBit e') = _
  have hb : (BitVec.twoPow 13 (eventBit e)).getLsbD (eventBit e') = (e' == e) := by
    rw [BitVec.getLsbD_twoPow]
    rcases eq_or_ne e' e with rfl | hne
    · simp [eventBit_lt]
    · have hbit : eventBit e ≠ eventBit e' := fun h => hne (eventBit_injective h).symm
      simp [hne, hbit]
  rw [BitVec.getLsbD_or, hb]

/-- The item whose key is below that of every other item of the list is the best one. -/
theorem bestBy_eq_some {α : Type} {key : α → List Nat} {as : List α} {c : α} (hc : c ∈ as)
    (h : ∀ d ∈ as, d = c ∨ lexLt (key c) (key d) = true) : bestBy key as = some c := by
  cases hb : bestBy key as with
  | none =>
    rw [bestBy_eq_none] at hb
    rw [hb] at hc
    cases hc
  | some b =>
    obtain ⟨hm, hl⟩ := bestBy_spec hb
    rcases h b hm with rfl | hlt
    · rfl
    · rw [hl c hc] at hlt
      cases hlt

/-! ## Infeed work (R78 to R80) -/

/-- A port whose infeed work is over. -/
def Port.infeedOver (q : Port) : Port := { q with infeed := none }

/-- A store rejected before its insertion, where the port has a record. -/
theorem rejectStore_eq (h : s.stores.get p = some r) (why : StoreReason) : rejectStore p why s = raiseEvent .storeRejected
    ((s.setPort p { s.ports.get p with infeed := none }).setStore p (some { r with state := .rejected why })) :=
  congrArg (raiseEvent .storeRejected) (modStore_of_get (s := s.setPort p (s.ports.get p).infeedOver) h _)

theorem takeInfeedTag_eq (hi : (s.ports.get p).infeed = some .awaitTag) (hr : s.stores.get p = some r) (a : Option Id32) :
    takeInfeedTag p a s = if a = some r.tag then s.setPort p { s.ports.get p with infeed := some (.weighing 0 0 0 1000) }
      else rejectStore p .tag s := by
  unfold takeInfeedTag
  rw [hi, hr]
  rfl

theorem takeSample_eq {n sum hi lo : Nat} (hinf : (s.ports.get p).infeed = some (.weighing n sum hi lo))
    (hr : s.stores.get p = some r) (reading : Int) : takeSample p reading s =
      if clampSample reading = 1000 then rejectStore p .mass (s.setStore p (some { r with weighings := r.weighings + 1 }))
      else if n + 1 = 32 then
        judgeWeighing p (r.weighings + 1) (sum + clampSample reading) (max hi (clampSample reading)) (min lo (clampSample reading))
          (s.setStore p (some { r with weighings := r.weighings + 1 }))
      else s.setPort p { s.ports.get p with
        infeed := some (.weighing (n + 1) (sum + clampSample reading) (max hi (clampSample reading)) (min lo (clampSample reading))) } := by
  unfold takeSample
  rw [hinf, hr, modStore_of_get hr]
  rfl

theorem natAbs_sub_lt_iff (t m d : Nat) : t < ((m : Int) - (d : Int)).natAbs ↔ t < m - d ∨ t < d - m := by omega

/-- A record with its measured mass and the mass-corrected indicator of a tolerance (R80). -/
def StoreRecord.weighed (r : StoreRecord) (tolerance m : Nat) : StoreRecord :=
  { r with measured := some m, corrected := decide (tolerance < m - r.declared ∨ tolerance < r.declared - m) }

theorem endWithMass_eq (h : s.stores.get p = some r) (m : Nat) : endWithMass p m s =
    runPlacement p (r.weighed s.station.settings.massTolerance m) m
      (s.setStore p (some (r.weighed s.station.settings.massTolerance m))) := by
  unfold endWithMass StoreRecord.weighed
  rw [h]
  simp only [natAbs_sub_lt_iff]

theorem judgeWeighing_spread {made sum largest smallest : Nat} (h : 4 < largest - smallest) : judgeWeighing p made sum largest smallest s =
    if 3 ≤ made then rejectStore p .unstable s
    else s.setPort p { s.ports.get p with infeed := some (.weighing 0 0 0 1000) } := by
  unfold judgeWeighing
  rw [if_pos h]
  rfl

theorem judgeWeighing_steady {made sum largest smallest : Nat} (h : largest - smallest ≤ 4) :
    judgeWeighing p made sum largest smallest s =
      if (sum + 16) / 32 = 0 ∨ s.largestLimit p < (sum + 16) / 32 then rejectStore p .mass s
      else endWithMass p ((sum + 16) / 32) s := by
  unfold judgeWeighing
  rw [if_neg (Nat.not_lt.mpr h)]

/-! ## What placement reads (R99 to R101) -/

/-- The smaller of the two ways round is the forward way or what it leaves of the loop. -/
theorem rotationDistance_eq {n ref t : Nat} (href : ref < n) (ht : t < n) :
    rotationDistance n ref t = min ((t + n - ref) % n) ((ref + n - t) % n) := by
  change min (subMod t ref n) (n - subMod t ref n) = _
  rw [subMod_of_le (Nat.zero_lt_of_lt ht) href.le]
  rcases Nat.lt_trichotomy t ref with h | rfl | h
  · have hf : (t + n - ref) % n = t + n - ref := Nat.mod_eq_of_lt (by omega)
    have hr : (ref + n - t) % n = ref - t := by
      rw [show ref + n - t = ref - t + n by omega, Nat.add_mod_right, Nat.mod_eq_of_lt (by omega)]
    omega
  · rw [Nat.add_sub_cancel_left, Nat.mod_self]
    omega
  · have hf : (t + n - ref) % n = t - ref := by
      rw [show t + n - ref = t - ref + n by omega, Nat.add_mod_right, Nat.mod_eq_of_lt (by omega)]
    have hr : (ref + n - t) % n = ref + n - t := Nat.mod_eq_of_lt (by omega)
    omega

theorem distanceTo_reference {grp : Group} {geo : Geometry} {c ref : Nat} (hr : grp.reference = some ref) (hc : c < geo.carriers)
    (href : ref < geo.carriers) : grp.distanceTo geo c =
      min (((geo.port + (geo.carriers - c)) % geo.carriers + geo.carriers - ref) % geo.carriers)
        ((ref + geo.carriers - (geo.port + (geo.carriers - c)) % geo.carriers) % geo.carriers) := by
  have hpos : 0 < geo.carriers := by omega
  have ht : geo.targetOf c = (geo.port + (geo.carriers - c)) % geo.carriers := by
    unfold Geometry.targetOf
    rw [subMod_of_le hpos hc.le, Nat.add_sub_assoc hc.le]
  have hlt : (geo.port + (geo.carriers - c)) % geo.carriers < geo.carriers := Nat.mod_lt _ hpos
  unfold Group.distanceTo
  rw [hr]
  change rotationDistance _ _ _ = _
  rw [ht]
  generalize (geo.port + (geo.carriers - c)) % geo.carriers = t at hlt ⊢
  exact rotationDistance_eq href hlt

theorem distanceTo_none {grp : Group} (h : grp.reference = none) (geo : Geometry) (c : Nat) : grp.distanceTo geo c = 0 := by
  unfold Group.distanceTo
  rw [h]

theorem reference_target {grp : Group} {m : Move} (hs : grp.state = .moving) (hm : grp.current = some m) :
    grp.reference = some m.target := by
  unfold Group.reference
  rw [hs, hm]

theorem reference_k {grp : Group} (h : grp.state ≠ .moving ∨ grp.current = none) : grp.reference = grp.k := by
  unfold Group.reference
  rcases h with h | h
  · cases hs : grp.state with
    | moving => exact absurd hs h
    | _ => rfl
  · rw [h]
    cases grp.state <;> rfl

theorem setOnCarrier_iff {g : Index} {grp : Group} (hg : s.groups.get g = some grp) (c : Nat) (setId : Id32) :
    setOnCarrier s g c setId = true ↔ ∃ x ∈ grp.members, ∃ sl ∈ s.carrierSlots x c,
      (sl.content = .held ∧ sl.setId = setId)
      ∨ ∃ (q : Index) (tag : Id32) (m : Nat) (ph : Phase) (rec : StoreRecord),
          sl.reservation = .inbound q tag m ph ∧ s.stores.get q = some rec ∧ rec.setId = setId := by
  unfold setOnCarrier
  rw [membersOf_some hg, List.any_eq_true]
  refine exists_congr fun x => and_congr_right fun _ => ?_
  rw [List.any_eq_true]
  refine exists_congr fun sl => and_congr_right fun _ => ?_
  rw [Bool.or_eq_true, Bool.and_eq_true, beq_iff_eq, beq_iff_eq]
  refine or_congr_right ?_
  cases hres : sl.reservation with
  | inbound q tag m ph =>
    cases hq : s.stores.get q with
    | none => simp [hq]
    | some rec =>
      simp only [beq_iff_eq, hq]
      exact ⟨fun h => ⟨q, tag, m, ph, rec, rfl, hq, h⟩, fun ⟨q', _, _, _, rec', hq', hrec, h⟩ => by cases hq'; cases hq.symm.trans hrec; exact h⟩
  | _ => simp

/-! ## The candidates (R99) -/

/-- The candidate that a slot makes. -/
def candidateAt (s : State) (g x : Index) (grp : Group) (r : StoreRecord) (m c l : Nat) : Candidate where
  carrier := c
  level := l
  answer := placementQuery s g x c l m
  key := [affinity s g r c, (placementQuery s g x c l m).passed.getD 0, grp.distanceTo (s.geometry g) c, c, l]

theorem slot?_iff_carriers {x : Index} {c l : Nat} {sl : Slot} : s.slot? x c l = some sl ↔
    ∃ ls, (s.carousels.get x).map.carriers[c]? = some ls ∧ ls[l]? = some sl := by
  unfold State.slot? State.carrierSlots
  cases h : (s.carousels.get x).map.carriers[c]? with
  | none => simp [List.getD_eq_getElem?_getD, h]
  | some ls => simp [List.getD_eq_getElem?_getD, h]

theorem isFree_iff {sl : Slot} : sl.isFree = true ↔ sl.content = .empty ∧ sl.condition = .clear ∧ sl.reservation = .none := by
  unfold Slot.isFree
  simp [and_assoc]

theorem mem_candidates {g x : Index} {grp : Group} {cfg : CarouselConfig} {m : Nat} {d : Candidate} :
    d ∈ candidates s g x grp cfg r m ↔ ∃ c l sl, s.slot? x c l = some sl ∧ sl.isFree = true ∧ m ≤ cfg.levelLimits.getD l 0
      ∧ d = candidateAt s g x grp r m c l := by
  unfold candidates
  rw [List.mem_flatMap]
  constructor
  · rintro ⟨⟨c, ls⟩, hc, hd⟩
    rw [List.mem_filterMap] at hd
    obtain ⟨⟨l, sl⟩, hl, hd⟩ := hd
    dsimp only at hd
    split at hd
    · rename_i hfree
      cases hd
      exact ⟨c, l, sl, slot?_iff_carriers.mpr ⟨ls, (mem_numbered.mp hc).2, (mem_numbered.mp hl).2⟩,
        hfree.1, hfree.2, rfl⟩
    · cases hd
  · rintro ⟨c, l, sl, hsl, hfree, hm, rfl⟩
    obtain ⟨ls, hc, hl⟩ := slot?_iff_carriers.mp hsl
    refine ⟨(c, ls), mem_numbered.mpr ⟨Nat.zero_le _, hc⟩, List.mem_filterMap.mpr
      ⟨(l, sl), mem_numbered.mpr ⟨Nat.zero_le _, hl⟩, ?_⟩⟩
    exact if_pos ⟨hfree, hm⟩

theorem runPlacement_eq {g : Index} {grp : Group} {cfg : CarouselConfig} (hp : s.groupOf p = some g)
    (hg : s.groups.get g = some grp) (hcfg : (s.carousels.get p).config = some cfg) (m : Nat) : runPlacement p r m s =
      ((bestBy Candidate.key ((candidates s g p grp cfg r m).filter fun c => c.answer.passed.isSome)).elim
        (rejectStore p (if (candidates s g p grp cfg r m).any fun c => c.answer.isGate then .balance else .noSlot) s)
        fun c => place p c (c.answer.passed.getD 0) m r s) := by
  unfold runPlacement
  rw [hp, hcfg]
  simp only [hg]
  cases bestBy Candidate.key ((candidates s g p grp cfg r m).filter fun c => c.answer.passed.isSome) <;> rfl

theorem passed_isSome_iff {a : PlacementAnswer} : a.passed.isSome = true ↔ ∃ t, a = .pass t := by
  cases a <;> simp [PlacementAnswer.passed]

theorem isGate_iff {a : PlacementAnswer} : a.isGate = true ↔ ∃ t, a = .gate t := by
  cases a <;> simp [PlacementAnswer.isGate]

/-- No candidate passes: the store is rejected. -/
theorem runPlacement_rejects {g : Index} {grp : Group} {cfg : CarouselConfig} {m : Nat} (hp : s.groupOf p = some g)
    (hg : s.groups.get g = some grp) (hcfg : (s.carousels.get p).config = some cfg)
    (h : ∀ c ∈ candidates s g p grp cfg r m, ∀ t, c.answer ≠ .pass t) : runPlacement p r m s =
      rejectStore p (if (candidates s g p grp cfg r m).any fun c => c.answer.isGate then .balance else .noSlot) s := by
  have hnil : ((candidates s g p grp cfg r m).filter fun c => c.answer.passed.isSome) = [] :=
    List.filter_eq_nil_iff.mpr fun c hc hpass => by
      obtain ⟨t, ht⟩ := passed_isSome_iff.mp hpass
      exact h c hc t ht
  rw [runPlacement_eq hp hg hcfg, hnil]
  rfl

/-- The slot chosen is reserved in, its mass planned and the record PLACED (R102). -/
theorem place_eq {c : Candidate} {sl : Slot} (hsl : s.slot? p c.carrier c.level = some sl) (t m : Nat) (r : StoreRecord) {u : State}
    (hu : u = handMass p c.carrier (m : Int) .planned
      (s.setSlot p c.carrier c.level { sl with reservation := .inbound p r.tag m .planned })) :
    place p c t m r s = ((u.setPort p { s.ports.get p with infeed := none }).setSched { u.sched with
      placedOrder := s.sched.placedOrder ++ [p] }).setStore p (some { r with
        state := .placed, chosen := some (c.carrier, c.level), trialPeak := some t, waited := some 0,
        promoted := false, cond := .pending }) := by
  have hports : u.ports = s.ports := by rw [hu, handMass_ports]; rfl
  have hplaced : u.sched.placedOrder = s.sched.placedOrder := by
    obtain ⟨gs, sts, os, h⟩ := handMass_record p c.carrier (m : Int) .planned
      (s.setSlot p c.carrier c.level { sl with reservation := .inbound p r.tag m .planned })
    rw [hu, h]
    rfl
  simp only [place, modSlot_of_get hsl]
  rw [← hu, ← hports, ← hplaced]
  rfl

end Sys2Proof.Machine

namespace Sys2Proof.Certificates

open Sys2Proof Sys2Proof.Machine

/-- Settles O37: the tag read by its answer, a sample by where the weighing stands, and a rejection's record and flag. -/
theorem infeedTagAndWeighing : Obligations.InfeedTagAndWeighing := by
  refine ⟨fun s p r hinf hr => ?tag, fun s p r n sum hi lo v reading hinf hr hv => ?sample, fun s p r why u hr hu => ?reject⟩
  case tag =>
    have read := takeInfeedTag_eq hinf hr
    have rejected : ∀ a : Option Id32, a ≠ some r.tag → takeInfeedTag p a s = raiseEvent .storeRejected
        ((s.setPort p { s.ports.get p with infeed := none }).setStore p (some { r with state := .rejected .tag })) :=
      fun a ha => by rw [read, if_neg ha, rejectStore_eq hr]
    exact ⟨congrArg Host.Outcome.next ((read _).trans (if_pos rfl)),
      fun a ha => congrArg Host.Outcome.next (rejected a ha), congrArg Host.Outcome.next (rejected none (by simp))⟩
  case sample =>
    have hclamp : clampSample reading = v := hv.symm
    have taken := takeSample_eq hinf hr reading
    rw [hclamp] at taken
    have settle : ∀ u, takeSample p reading s = u → exec (.weighingSample p reading) s = .next (giveTurns [] s u) :=
      fun u h => congrArg (fun u => Host.Outcome.next (giveTurns [] s u)) h
    refine ⟨fun h1000 => settle _ (taken.trans (if_pos h1000)),
      fun h1000 hn => settle _ ((taken.trans (if_neg h1000)).trans (if_neg (by omega))),
      fun h1000 hn s' mean hs' hmean => ?_⟩
    subst hs' hmean
    have judged := (taken.trans (if_neg h1000)).trans (if_pos (by omega))
    refine ⟨fun hspread hmade => settle _ ?_, fun hspread hmade => settle _ ?_, fun hspread hbad => settle _ ?_,
      fun hspread hmean hlimit => ⟨_, settle _ ?_, rfl⟩⟩
    · rw [judged, judgeWeighing_spread hspread, if_neg (by omega)]
      rfl
    · rw [judged, judgeWeighing_spread hspread, if_pos (by omega)]
    · rw [judged, judgeWeighing_steady hspread, if_pos (by exact hbad)]
    · rw [judged, judgeWeighing_steady hspread, if_neg (by exact fun h => h.elim hmean (Nat.not_lt.mpr hlimit)),
        endWithMass_eq (r := { r with weighings := r.weighings + 1 }) (by rw [setStore_stores, Quad.get_set_same])]
      change runPlacement p _ _ { s with stores := (s.stores.set p _).set p _ } = _
      rw [Quad.set_set]
      rfl
  case reject =>
    have hrej : rejectStore p why s = raiseEvent .storeRejected u := by rw [rejectStore_eq hr, hu]
    refine ⟨hrej, fun hs e => ?_⟩
    have hlink : u.link = s.link := by rw [hu]; rfl
    rw [hrej, raiseEvent_flagSet (by rw [hlink]; exact hs)]
    unfold State.flagSet
    rw [hlink]

/-- Settles O38: distances by the reference, the classes by what the carriers hold, and the best candidate by its key. -/
theorem placementChoosesSlot : Obligations.PlacementChoosesSlot := by
  refine ⟨fun grp geo c ref t hc href ht => ⟨fun h => ?distance, fun hs hk => ?none⟩,
    fun s g grp r c shared hg hshared => ?affinity, fun s p g grp cfg r m cands hp hg hcfg hcands => ?placement⟩
  case distance =>
    subst ht
    refine distanceTo_reference ?_ hc href
    rcases h with ⟨m, hs, hm, rfl⟩ | ⟨hs, hk⟩
    · exact reference_target hs hm
    · exact (reference_k hs).trans hk
  case none => exact distanceTo_none ((reference_k hs).trans hk) geo c
  case affinity =>
    have hon : (r.setId ≠ 0#32 ∧ setOnCarrier s g c r.setId = true) ↔ shared := by
      rw [setOnCarrier_iff hg, hshared]
    unfold affinity
    exact ⟨fun h => if_pos (hon.mpr h), fun h hh => (if_neg (mt hon.mp h)).trans (if_pos hh),
      fun h hh => (if_neg (mt hon.mp h)).trans (if_neg hh)⟩
  case placement =>
    subst hcands
    have rejects := runPlacement_rejects (r := r) (m := m) hp hg hcfg
    refine ⟨fun c hc => ?slot, fun c l sl hsl hcont hcond hres hm => ?free, fun c t hc ha hbest => ?best,
      fun hno hgate => ?gate, fun hlim => ?noSlot⟩
    case slot =>
      obtain ⟨c, l, sl, hsl, hfree, hm, rfl⟩ := mem_candidates.mp hc
      obtain ⟨hcont, hcond, hres⟩ := isFree_iff.mp hfree
      exact ⟨sl, hsl, hcont, hcond, hres, hm, rfl, rfl⟩
    case free =>
      exact ⟨_, mem_candidates.mpr ⟨c, l, sl, hsl, isFree_iff.mpr ⟨hcont, hcond, hres⟩, hm, rfl⟩, rfl, rfl⟩
    case best =>
      obtain ⟨c', l, sl, hsl, -, -, rfl⟩ := mem_candidates.mp hc
      refine ⟨sl, hsl, _, rfl, ?_⟩
      have hmem : ∀ d ∈ (candidates s g p grp cfg r m).filter fun c => c.answer.passed.isSome,
          d = candidateAt s g p grp r m c' l ∨ lexLt (candidateAt s g p grp r m c' l).key d.key = true := fun d hd => by
        obtain ⟨hd, hpass⟩ := List.mem_filter.mp hd
        exact hbest d hd (passed_isSome_iff.mp hpass)
      rw [runPlacement_eq hp hg hcfg,
        bestBy_eq_some (List.mem_filter.mpr ⟨hc, passed_isSome_iff.mpr ⟨t, ha⟩⟩) hmem, Option.elim_some, ha]
      exact place_eq hsl t m r rfl
    case gate =>
      obtain ⟨c, hc, hg'⟩ := hgate
      rw [rejects hno, if_pos (List.any_eq_true.mpr ⟨c, hc, isGate_iff.mpr hg'⟩)]
    case noSlot =>
      have hno : ∀ c ∈ candidates s g p grp cfg r m, ∀ t, c.answer ≠ .pass t := fun c hc t ht => by
        rw [hlim c hc] at ht
        cases ht
      have hgate : ¬ ((candidates s g p grp cfg r m).any fun c => c.answer.isGate) = true := fun hany => by
        obtain ⟨c, hc, hgate⟩ := List.any_eq_true.mp hany
        rw [hlim c hc] at hgate
        cases hgate
      rw [rejects hno, if_neg hgate]

end Sys2Proof.Certificates

/-! SUPPORT. STORE, STORE_WITHDRAW and STORE_QUERY past their index, and a second of waiting. -/

namespace Sys2Proof.Machine

open Sys2Proof

variable {s : State} {p : Index} {r : StoreRecord}

/-! ## STORE (R96, R97) -/

theorem exec_store (h : s.Listens) {q : List Byte} (hq : q.length = 13) :
    exec (.store q) s = .next (answer 0x30#8 (runStore q s.heard)) :=
  exec_request (p := q) storeRequest h rfl (by omega) (by simp [storeRequest, plainRequest, lenIs, hq]) rfl

/-- The fields of a STORE past its port, as R96 wants them. -/
def StoreRequest.FieldsOk (r : StoreRequest) : Prop :=
  r.tag ≠ 0#32 ∧ (1 ≤ r.declared ∧ r.declared ≤ 1000) ∧ r.member ≤ 4 ∧ (r.member = 0 ∨ r.setId ≠ 0#32)

theorem storeRangeChecks_pass {r : StoreRequest} (hp : r.port = p.val) (h : r.FieldsOk) :
    firstFailure (storeRangeChecks r) = none := by
  obtain ⟨htag, hdecl, hm, hset⟩ := h
  refine firstFailure_none_iff.mpr fun c hc => ?_
  simp only [storeRangeChecks, List.mem_cons, List.not_mem_nil, or_false] at hc
  rcases hc with rfl | rfl | rfl | rfl
  · simp [hp]
  · simpa using htag
  · simpa using hdecl
  · simpa [hm] using hset

theorem runStore_fields {q : List Byte} {field : Nat} (h : firstFailure (storeRangeChecks (readStore q)) = some (.nak .range field)) :
    runStore q s = refuse s .range field := checked_fail _ h _

theorem runStore_at {q : List Byte} (hp : (readStore q).port = p.val) (h : (readStore q).FieldsOk) : runStore q s =
    checked s (storeStateChecks s p (readStore q)) (accept (openStore p (readStore q) s)) := by
  unfold runStore
  dsimp only
  rw [checked_pass (firstFailure_none_iff.mp (storeRangeChecks_pass hp h)), hp, indexOf_val]

theorem hintOk_iff {r : StoreRequest} : hintOk s p r = true ↔ r.hint = 0xFF ∨ r.hint < s.carriersOf p := by
  unfold hintOk StoreRequest.hintCarrier absentByte
  by_cases h : r.hint = 0xFF
  · simp [h]
  · simp [h]

theorem storeFree_iff : storeFree s p = true ↔ ∀ rec, s.stores.get p = some rec → rec.state = .done := by
  unfold storeFree
  cases s.stores.get p <;> simp

theorem groupStateOf_of {g : Index} {grp : Group} (hp : s.groupOf p = some g) (hg : s.groups.get g = some grp) :
    s.groupStateOf p = some grp.state := by
  unfold State.groupStateOf
  rw [hp]
  simp [hg]

/-! ## STORE_WITHDRAW and STORE_QUERY (R105, R106) -/

theorem exec_storeWithdraw (h : s.Listens) (b : Byte) :
    exec (.storeWithdraw [b]) s = .next (answer 0x31#8 (runStoreWithdraw [b] s.heard)) :=
  exec_request (p := [b]) storeWithdrawRequest h rfl (by simp) rfl rfl

theorem exec_storeQuery (h : s.Listens) (b : Byte) :
    exec (.storeQuery [b]) s = .next (answer 0x32#8 (runStoreQuery [b] s.heard)) :=
  exec_request (p := [b]) storeQueryRequest h rfl (by simp) rfl rfl

theorem runStoreWithdraw_none (h : s.stores.get p = none) :
    runStoreWithdraw [BitVec.ofNat 8 p.val] s = refuse s .notFound 0xFF := by
  unfold runStoreWithdraw
  rw [byteAt_ofNat_index, indexOf_val]
  simp only [h]

theorem runStoreWithdraw_some (h : s.stores.get p = some r) : runStoreWithdraw [BitVec.ofNat 8 p.val] s =
    if r.fixed then refuse s .state 0xFF
    else (giveTurns [] s (withdrawStore p r s), .ack (u8 r.state.code ++ u8 r.state.reason)) := by
  unfold runStoreWithdraw
  rw [byteAt_ofNat_index, indexOf_val]
  simp only [h]

theorem releaseInbound_eq {c l m : Nat} {tag : Id32} {sl : Slot} (hsl : s.slot? p c l = some sl)
    (hres : sl.reservation = .inbound p tag m .planned) : releaseInbound p c l s =
      handMass p c (-(m : Int)) .planned (s.setSlot p c l { sl with reservation := .none }) := by
  unfold releaseInbound
  rw [hsl]
  simp only [hres]

theorem withdrawStore_placed {c l m : Nat} {tag : Id32} {sl : Slot} (hst : r.state = .placed) (hch : r.chosen = some (c, l))
    (hsl : s.slot? p c l = some sl) (hres : sl.reservation = .inbound p tag m .planned) {u : State}
    (hu : u = handMass p c (-(m : Int)) .planned (s.setSlot p c l { sl with reservation := .none })) :
    withdrawStore p r s = (u.setSched { u.sched with placedOrder := s.sched.placedOrder.filter (· != p) }).setStore p
      (some { r with state := .rejected .withdrawn }) := by
  have hplaced : u.sched.placedOrder = s.sched.placedOrder := by
    obtain ⟨gs, sts, os, h⟩ := handMass_record p c (-(m : Int)) .planned (s.setSlot p c l { sl with reservation := .none })
    rw [hu, h]
    rfl
  unfold withdrawStore
  rw [hst, hch, ← hplaced]
  simp only [releaseInbound_eq hsl hres]
  rw [← hu]

/-! ## A second of waiting (R103) -/

/-- The store table after a second for the ports named. -/
def waitedStores (s : State) (ports : BitVec 4) : Quad (Option StoreRecord) :=
  (allIndices.foldl (fun s p =>
    if ports.getLsbD p.val then s.modStore p fun r => r.aged.judged s.station.settings.storePatience else s) s).stores

/-- A second of waiting changes the store table only. -/
theorem foldl_waited_eq (ports : BitVec 4) (ps : List Index) (s : State) : ∃ sts, ps.foldl (fun s p =>
    if ports.getLsbD p.val then s.modStore p fun r => r.aged.judged s.station.settings.storePatience else s) s
      = { s with stores := sts } := by
  induction ps generalizing s with
  | nil => exact ⟨s.stores, rfl⟩
  | cons p ps ih =>
    rw [List.foldl_cons]
    split
    · obtain ⟨sts, h⟩ := ih (s.modStore p fun r => r.aged.judged s.station.settings.storePatience)
      refine ⟨sts, h.trans ?_⟩
      unfold State.modStore
      cases s.stores.get p <;> rfl
    · exact ih s

theorem modStore_get_same (s : State) (p : Index) (f : StoreRecord → StoreRecord) :
    (s.modStore p f).stores.get p = (s.stores.get p).map f := by
  rw [modStore_stores, Quad.get_set_same]

theorem modStore_get_ne (s : State) {p q : Index} (h : q ≠ p) (f : StoreRecord → StoreRecord) :
    (s.modStore p f).stores.get q = s.stores.get q := by
  rw [modStore_stores, Quad.get_set_ne _ _ h]

/-- What a second does to a port's record and the patience it is judged by. -/
def waitedPort (ports : BitVec 4) (p : Index) (e : Option StoreRecord × Nat) : Option StoreRecord × Nat :=
  (if ports.getLsbD p.val then e.1.map fun r => r.aged.judged e.2 else e.1, e.2)

/-- The record of a port in the store table after a second. -/
theorem waitedStores_get (s : State) (ports : BitVec 4) (p : Index) : (waitedStores s ports).get p =
    if ports.getLsbD p.val then (s.stores.get p).map fun r => r.aged.judged s.station.settings.storePatience
    else s.stores.get p := by
  refine congrArg Prod.fst (foldl_allIndices (fun s p => (s.stores.get p, s.station.settings.storePatience)) _
    (waitedPort ports) (fun s p => ?_) (fun s p q hq => ?_) s p)
  · unfold waitedPort
    by_cases h : ports.getLsbD p.val = true
    · simp only [h, if_true, modStore_get_same, modStore_station]
    · simp only [h]
      rfl
  · by_cases h : ports.getLsbD p.val = true
    · simp only [h, if_true, modStore_get_ne s hq, modStore_station]
    · simp only [h]
      rfl

theorem aged_judged_of_not_placed (h : r.state ≠ .placed) (n : Nat) : r.aged.judged n = r := by
  unfold StoreRecord.aged StoreRecord.judged
  rw [if_neg h, if_neg fun hh => h hh.1]

/-- A PLACED record has waited a second more, and is promoted past the patience. -/
theorem aged_judged_of_placed (h : r.state = .placed) (n : Nat) : r.aged.judged n = { r with
    waited := some (min (r.waited.getD 0 + 1) 65535)
    promoted := r.promoted || decide (n ≤ min (r.waited.getD 0 + 1) 65535) } := by
  unfold StoreRecord.aged StoreRecord.judged
  rw [if_pos h]
  simp only [h, true_and, Option.getD_some]
  split
  · rename_i hn
    rw [decide_eq_true hn, Bool.or_true]
  · rename_i hn
    rw [decide_eq_false hn, Bool.or_false]

end Sys2Proof.Machine

namespace Sys2Proof.Certificates

open Sys2Proof Sys2Proof.Machine

/-- Settles O39: the checks of R96 in order, then the record that R97 opens. -/
theorem storeOpensRecord : Obligations.StoreOpensRecord := by
  intro s q r hs hq hr
  subst hr
  rw [exec_store hs hq]
  have refused : ∀ {why : Reason} {detail : Nat}, runStore q s.heard = refuse s.heard why detail →
      Host.Outcome.next (φ := Fault) (ρ := Refusal) (answer 0x30#8 (runStore q s.heard)) =
        .next (s.heard.refusing 0x30#8 why detail) := fun h => by rw [h, answer_refuse]
  refine ⟨fun hp => refused (runStore_fields ?_), fun p hp => ⟨fun htag => refused (runStore_fields ?_),
    fun htag hdecl => refused (runStore_fields ?_), fun htag h1 h2 hmem => refused (runStore_fields ?_),
    fun htag h1 h2 hm hset => ?state⟩⟩
  · simp only [storeRangeChecks, decide_eq_false (Nat.not_lt.mpr hp), firstFailure_cons_false]
  · simp only [storeRangeChecks, decide_eq_true (hp ▸ p.isLt), htag, bne_self_eq_false, firstFailure_cons_true,
      firstFailure_cons_false]
  · have hd : decide (1 ≤ (readStore q).declared ∧ (readStore q).declared ≤ 1000) = false := decide_eq_false (by omega)
    simp only [storeRangeChecks, decide_eq_true (hp ▸ p.isLt), bne_iff_ne.mpr htag, hd, firstFailure_cons_true,
      firstFailure_cons_false]
  · have hd : decide (1 ≤ (readStore q).declared ∧ (readStore q).declared ≤ 1000) = true := decide_eq_true ⟨h1, h2⟩
    have hbad : (decide ((readStore q).member ≤ 4) && ((readStore q).member == 0 || (readStore q).setId != 0#32)) = false := by
      rcases hmem with h | ⟨h, h'⟩
      · simp [h]
      · simp [h, h']
    simp only [storeRangeChecks, decide_eq_true (hp ▸ p.isLt), bne_iff_ne.mpr htag, hd, hbad, firstFailure_cons_true,
      firstFailure_cons_false]
  have past := runStore_at (s := s.heard) hp ⟨htag, ⟨h1, h2⟩, hm, hset⟩
  have failing : ∀ {why : Reason} {detail : Nat}, firstFailure (storeStateChecks s.heard p (readStore q)) = some (.nak why detail) →
      Host.Outcome.next (φ := Fault) (ρ := Refusal) (answer 0x30#8 (runStore q s.heard)) =
        .next (s.heard.refusing 0x30#8 why detail) := fun h => refused (past.trans (checked_fail _ h _))
  refine ⟨fun hout => failing ?_, fun g grp hcfg hg hgrp => ?_⟩
  · have hb : (((s.heard.carousels.get p).config).isSome && (s.heard.groupOf p).isSome) = false := by
      rcases hout with h | h
      · have hc : (s.heard.carousels.get p).config = none := h
        rw [hc]
        rfl
      · have hg : s.heard.groupOf p = none := h
        rw [hg, Option.isSome_none, Bool.and_false]
    simp only [storeStateChecks, hb, firstFailure_cons_false]
  have hserved : (((s.heard.carousels.get p).config).isSome && (s.heard.groupOf p).isSome) = true := by
    rw [Bool.and_eq_true, Option.isSome_iff_ne_none]
    exact ⟨hcfg, Option.isSome_iff_exists.mpr ⟨g, hg⟩⟩
  have hstate : s.heard.groupStateOf p = some grp.state := groupStateOf_of hg hgrp
  refine ⟨fun hi hm' => failing ?_, fun hst => ?_⟩
  · have hb : (some grp.state == some GroupState.idle || some grp.state == some GroupState.moving) = false := by simp [hi, hm']
    simp only [storeStateChecks, hserved, hstate, hb, firstFailure_cons_true, firstFailure_cons_false]
  have hready : (some grp.state == some GroupState.idle || some grp.state == some GroupState.moving) = true := by
    rcases hst with h | h <;> simp [h]
  refine ⟨fun hff hhint => failing ?_, fun hhint => ?_⟩
  · have hb : hintOk s.heard p (readStore q) = false :=
      Bool.eq_false_iff.mpr fun h => (hintOk_iff.mp h).elim hff (Nat.not_lt.mpr hhint)
    simp only [storeStateChecks, hserved, hstate, hready, hb, firstFailure_cons_true, firstFailure_cons_false]
  have hhint : hintOk s.heard p (readStore q) = true := hintOk_iff.mpr hhint
  refine ⟨fun rec hrec hdone => failing ?_, fun hfree => ?_⟩
  · have hb : storeFree s.heard p = false := Bool.eq_false_iff.mpr fun h => hdone (storeFree_iff.mp h rec hrec)
    simp only [storeStateChecks, hserved, hstate, hready, hhint, hb, firstFailure_cons_true, firstFailure_cons_false]
  have hfree : storeFree s.heard p = true := storeFree_iff.mpr hfree
  refine ⟨fun pl hpl => failing ?_, fun hpl => ?_⟩
  · have hb : tagPlace s.heard (readStore q).tag = some pl := hpl
    simp only [storeStateChecks, hserved, hstate, hready, hhint, hfree, hb, Option.isNone_some, Option.map_some, Option.getD_some,
      firstFailure_cons_true, firstFailure_cons_false]
  · have hb : tagPlace s.heard (readStore q).tag = none := hpl
    have hpass : firstFailure (storeStateChecks s.heard p (readStore q)) = none := by
      simp only [storeStateChecks, hserved, hstate, hready, hhint, hfree, hb, Option.isNone_none, firstFailure_cons_true]
      rfl
    rw [past, checked_pass (firstFailure_none_iff.mp hpass)]
    rfl

/-- Settles O40: the withdrawal by the record's state, the query, and a second of waiting port by port. -/
theorem storeEndsAndWaits : Obligations.StoreEndsAndWaits := by
  refine ⟨fun s b hs hb => ?range, fun s p b hs hb => ⟨fun hp => ?free, fun r hr => ?record⟩, fun s ports => ?second⟩
  case range =>
    have hx : indexOf (byteAt [b] 0) = none := indexOf_of_le hb
    rw [exec_storeWithdraw hs, exec_storeQuery hs]
    unfold runStoreWithdraw runStoreQuery
    rw [hx]
    exact ⟨rfl, rfl⟩
  case free =>
    subst hb
    rw [exec_storeWithdraw hs, exec_storeQuery hs, runStoreWithdraw_none (by exact hp)]
    refine ⟨rfl, ?_⟩
    have hget : s.heard.stores.get p = none := hp
    unfold runStoreQuery queryStore
    rw [byteAt_ofNat_index, indexOf_val]
    simp only [hget]
    rfl
  case record =>
    subst hb
    have hget : s.heard.stores.get p = some r := hr
    rw [exec_storeWithdraw hs, exec_storeQuery hs, runStoreWithdraw_some hget]
    have taken : r.fixed = false → ∀ {u : State} {reply : List Byte}, withdrawStore p r s.heard = u →
        u8 r.state.code ++ u8 r.state.reason = reply → Host.Outcome.next (φ := Fault) (ρ := Refusal) (answer 0x31#8
          (if r.fixed = true then refuse s.heard .state 0xFF
            else (giveTurns [] s.heard (withdrawStore p r s.heard), .ack (u8 r.state.code ++ u8 r.state.reason)))) =
          .next ((giveTurns [] s.heard u).replying 0x31#8 reply) := fun hf u reply hu hreply => by
      rw [if_neg (by simp [hf]), hu, hreply]
      rfl
    refine ⟨fun hst => ?fixed, fun hst => taken (by simp [StoreRecord.fixed, hst]) ?weighing (by rw [hst]; rfl),
      fun c l m tag sl hst hch hsl hres => ⟨_, rfl, taken (by simp [StoreRecord.fixed, hst])
        (withdrawStore_placed (s := s.heard) hst hch hsl hres rfl) (by rw [hst]; rfl)⟩,
      fun why hst => taken (by simp [StoreRecord.fixed, hst]) ?rejected (by rw [hst]; rfl), ?query⟩
    case fixed =>
      rw [if_pos (by rcases hst with h | h <;> simp [StoreRecord.fixed, h])]
      rfl
    case weighing =>
      unfold withdrawStore
      rw [hst]
      rfl
    case rejected =>
      unfold withdrawStore
      rw [hst]
    case query =>
      unfold runStoreQuery queryStore
      rw [byteAt_ofNat_index, indexOf_val]
      simp only [hget]
      rfl
  case second =>
    obtain ⟨sts, h⟩ := foldl_waited_eq ports allIndices s
    have hsts : sts = waitedStores s ports := by
      unfold waitedStores
      rw [h]
    refine ⟨sts, congrArg (fun u => Host.Outcome.next (giveTurns [] s u)) h, fun p => ⟨fun hnot => ?_, fun r hr hst hbit => ?_⟩⟩
    · rw [hsts, waitedStores_get]
      rcases hnot with hbit | hnot
      · rw [hbit]
        rfl
      · cases hr : s.stores.get p with
        | none => simp
        | some r => rw [Option.map_some, aged_judged_of_not_placed (hnot r hr), ite_self]
    · rw [hsts, waitedStores_get, if_pos hbit, hr, Option.map_some, aged_judged_of_placed hst]

end Sys2Proof.Certificates

/-! SUPPORT. Activation and its repetition, the judgement of an order, and a cancel's effect on slots, checks and lines. -/

namespace Sys2Proof.Machine

open Sys2Proof

variable {s : State} {id : Id32}

/-! ## Activation (R112) -/

theorem judgeGate_lanes (s : State) : (judgeGate s).station.lanes = s.station.lanes := by
  unfold judgeGate
  split <;> rfl

theorem judgeGate_settings (s : State) : (judgeGate s).station.settings = s.station.settings := by
  unfold judgeGate
  split <;> rfl

theorem freeLane_eq_none : freeLane s = none ↔
    ∀ i : Index, i.val < s.station.settings.laneCount → (s.station.lanes.get i).state ≠ .free := by
  unfold freeLane
  rw [List.find?_eq_none]
  constructor
  · intro h i hi hf
    exact h i (mem_allIndices i) (by rw [decide_eq_true hi, hf]; rfl)
  · intro h i _ hb
    rw [Bool.and_eq_true, decide_eq_true_eq, beq_iff_eq] at hb
    exact h i hb.1 hb.2

/-- The lanes are tried in rising index. -/
theorem find?_allIndices {p : Index → Bool} {i : Index} (hi : p i = true) (hlow : ∀ h : Index, h.val < i.val → p h = false) :
    allIndices.find? p = some i := by
  change List.find? p [0, 1, 2, 3] = some i
  have hbelow : ∀ h : Index, h < i → p h = false := hlow
  fin_cases i
  · simp only [List.find?_cons, show p 0 = true from hi]
    rfl
  · simp only [List.find?_cons, hbelow 0 (by decide), show p 1 = true from hi]
    rfl
  · simp only [List.find?_cons, hbelow 0 (by decide), hbelow 1 (by decide), show p 2 = true from hi]
    rfl
  · simp only [List.find?_cons, hbelow 0 (by decide), hbelow 1 (by decide), hbelow 2 (by decide), show p 3 = true from hi]
    rfl

theorem freeLane_eq_some {i : Index} (hi : i.val < s.station.settings.laneCount) (hf : (s.station.lanes.get i).state = .free)
    (hlow : ∀ h : Index, h.val < i.val → (s.station.lanes.get h).state ≠ .free) : freeLane s = some i := by
  refine find?_allIndices ?_ fun h hh => ?_
  · rw [decide_eq_true hi, hf]
    rfl
  · rw [beq_eq_false_iff_ne.mpr (hlow h hh), Bool.and_false]

theorem freeLane_spec {i : Index} (h : freeLane s = some i) :
    i.val < s.station.settings.laneCount ∧ (s.station.lanes.get i).state = .free := by
  have := List.find?_some h
  rwa [Bool.and_eq_true, decide_eq_true_eq, beq_iff_eq] at this

/-- The orders that wait for activation, with their indices. -/
def queuedOrders (s : State) : List (Nat × Order) :=
  (numbered 0 s.sched.orders).filterMap fun (i, e) =>
    match e with
    | some o => if o.state = .queued then some (i, o) else none
    | none => none

theorem mem_queuedOrders {e : Nat × Order} :
    e ∈ queuedOrders s ↔ s.sched.orders[e.1]? = some (some e.2) ∧ e.2.state = .queued := by
  obtain ⟨i, o⟩ := e
  unfold queuedOrders
  rw [List.mem_filterMap]
  constructor
  · rintro ⟨⟨j, eo⟩, hm, he⟩
    cases eo with
    | none => cases he
    | some o' =>
      dsimp only at he
      split at he
      · rename_i hq
        cases he
        exact ⟨(mem_numbered.mp hm).2, hq⟩
      · cases he
  · rintro ⟨ho, hq⟩
    exact ⟨(i, some o), mem_numbered.mpr ⟨Nat.zero_le _, ho⟩, if_pos hq⟩

theorem nextQueued_eq_none : nextQueued s = none ↔ ∀ o, some o ∈ s.sched.orders → o.state ≠ .queued := by
  have hnil : nextQueued s = none ↔ queuedOrders s = [] := bestBy_eq_none _ _
  rw [hnil, List.eq_nil_iff_forall_not_mem]
  constructor
  · intro h o ho hq
    obtain ⟨i, hi⟩ := List.mem_iff_getElem?.mp ho
    exact h (i, o) (mem_queuedOrders.mpr ⟨hi, hq⟩)
  · intro h e he
    obtain ⟨he, hq⟩ := mem_queuedOrders.mp he
    exact h _ (List.mem_of_getElem? he) hq

/-- Two numbers and an index, compared one after another. -/
theorem lexLt_three {a b c a' b' c' : Nat} : lexLt [a, b, c] [a', b', c'] = true ↔
    a < a' ∨ (a = a' ∧ (b < b' ∨ (b = b' ∧ c < c'))) := by
  simp only [lexLt]
  grind

theorem nextQueued_eq_some {j : Nat} {o : Order} (ho : s.sched.orders[j]? = some (some o)) (hq : o.state = .queued)
    (hbest : ∀ j' o', s.sched.orders[j']? = some (some o') → o'.state = .queued →
      j' = j ∨ o.priority < o'.priority ∨ (o.priority = o'.priority ∧ (o.openSeq < o'.openSeq
        ∨ (o.openSeq = o'.openSeq ∧ j < j')))) : nextQueued s = some (j, o) := by
  refine bestBy_eq_some (as := queuedOrders s) (mem_queuedOrders.mpr ⟨ho, hq⟩) fun e he => ?_
  obtain ⟨he, hqe⟩ := mem_queuedOrders.mp he
  rcases hbest e.1 e.2 he hqe with h | h
  · refine .inl (Prod.ext h ?_)
    rw [h, ho] at he
    exact (Option.some.inj (Option.some.inj he)).symm
  · exact .inr (lexLt_three.mpr h)

theorem activateOne_blocked (h : freeLane s = none ∨ nextQueued s = none) : activateOne s = s := by
  unfold activateOne
  rcases h with h | h
  · rw [h]
  · rw [h]
    cases freeLane s <;> rfl

/-- The state before the gate is judged in an activation. -/
def activated (i : Index) (o : Order) (s : State) : State :=
  ((s.setSched { s.sched with activationCounter := countUp s.sched.activationCounter }).modOrder o.id fun p =>
    { p with state := .active, actSeq := some (countUp s.sched.activationCounter), lane := some i }).setStation { s.station with
      lanes := s.station.lanes.set i { state := .filling, order := some o.id, stack := [] } }

theorem activateOne_eq {i : Index} {j : Nat} {o : Order} (hi : freeLane s = some i) (ho : nextQueued s = some (j, o)) :
    activateOne s = judgeGate (activated i o s) := by
  unfold activateOne
  rw [hi, ho]
  rfl

/-! ### Activation repeated -/

/-- A lane within the lane count that is FREE. -/
def State.laneOpen (s : State) (i : Index) : Bool :=
  decide (i.val < s.station.settings.laneCount) && (s.station.lanes.get i).state == .free

/-- The number of lanes that an activation can take. -/
def State.openLanes (s : State) : Nat := allIndices.countP s.laneOpen

/-- No activation can take place. -/
def State.activationOver (s : State) : Prop := freeLane s = none ∨ nextQueued s = none

theorem activationOver_of_openLanes (h : s.openLanes = 0) : s.activationOver := by
  refine .inl (List.find?_eq_none.mpr fun i hi hb => ?_)
  exact (List.countP_eq_zero.mp h) i hi hb

theorem countP_lt {as : List Index} {p q : Index → Bool} {i : Index} (hi : i ∈ as) (hp : p i = true) (hq : q i = false)
    (hle : ∀ j, q j = true → p j = true) : as.countP q < as.countP p := by
  induction as with
  | nil => cases hi
  | cons a as ih =>
    have hmono := List.countP_mono_left (l := as) fun j _ => hle j
    rw [List.countP_cons, List.countP_cons]
    rcases List.mem_cons.mp hi with rfl | hi
    · rw [hp, hq, if_pos rfl, if_neg Bool.false_ne_true]
      omega
    · have := ih hi
      by_cases ha : q a = true
      · rw [if_pos ha, if_pos (hle a ha)]
        omega
      · rw [if_neg ha]
        omega

/-- Each activation is the last, or takes an open lane. -/
theorem activateOne_openLanes (s : State) : s.activationOver ∨ (activateOne s).openLanes < s.openLanes := by
  cases hi : freeLane s with
  | none => exact .inl (.inl hi)
  | some i =>
    cases ho : nextQueued s with
    | none => exact .inl (.inr ho)
    | some e =>
      obtain ⟨j, o⟩ := e
      right
      obtain ⟨hcount, hfree⟩ := freeLane_spec hi
      have hlanes : (activateOne s).station.lanes = s.station.lanes.set i { state := .filling, order := some o.id, stack := [] } := by
        rw [activateOne_eq hi ho, judgeGate_lanes]
        rfl
      have hset : (activateOne s).station.settings = s.station.settings := by
        rw [activateOne_eq hi ho, judgeGate_settings]
        rfl
      refine countP_lt (mem_allIndices i) ?_ ?_ fun k hk => ?_
      · unfold State.laneOpen
        rw [decide_eq_true hcount, hfree]
        rfl
      · unfold State.laneOpen
        rw [hlanes, Quad.get_set_same]
        exact Bool.and_false _
      · unfold State.laneOpen at hk ⊢
        rw [hset, hlanes] at hk
        by_cases hki : k = i
        · subst hki
          rw [Quad.get_set_same] at hk
          rw [Bool.and_eq_true] at hk
          cases hk.2
        · rwa [Quad.get_set_ne _ _ hki] at hk

theorem activateOne_step {s t : State} {n : Nat} (h : t.activationOver ∨ t.openLanes + n ≤ s.openLanes) :
    (activateOne t).activationOver ∨ (activateOne t).openLanes + (n + 1) ≤ s.openLanes := by
  rcases h with h | h
  · rw [activateOne_blocked h]
    exact .inl h
  · rcases activateOne_openLanes t with ht | ht
    · rw [activateOne_blocked ht]
      exact .inl ht
    · exact .inr (by omega)

/-- After activation is judged none can take place. -/
theorem judgeActivation_over (s : State) : (judgeActivation s).activationOver := by
  have h := activateOne_step (activateOne_step (activateOne_step (activateOne_step (s := s) (t := s) (n := 0) (.inr le_rfl))))
  have hle : s.openLanes ≤ 4 := List.countP_le_length
  rcases h with h | h
  · exact h
  · exact activationOver_of_openLanes (by change (judgeActivation s).openLanes + _ ≤ _ at h; omega)

/-! ## The judgement of an order (R113, R122) -/

theorem finished_iff {st : LineState} : st.finished = true ↔ st = .arrived ∨ ∃ why, st = .short why := by
  cases st <;> simp [LineState.finished]

theorem inFlight_iff {st : LineState} : st.inFlight = true ↔
    st = .extracting ∨ st = .onShuttle ∨ st = .releasing ∨ st = .inTransit := by
  cases st <;> simp [LineState.inFlight]

theorem inSlot_iff {st : LineState} : st.inSlot = true ↔ st = .reserved ∨ st = .balanceWait false ∨ st = .balanceWait true := by
  cases st with
  | balanceWait b => cases b <;> simp [LineState.inSlot]
  | _ => simp [LineState.inSlot]

theorem judgeOrder_active {j : Nat} {o : Order} (h : s.findOrder id = some (j, o)) (hst : o.state = .active) :
    judgeOrder id s = if o.lines.all fun l => l.state.finished then completeOrder o s else s := by
  unfold judgeOrder
  rw [h]
  simp only [hst]

theorem judgeOrder_cancelling {j : Nat} {o : Order} (h : s.findOrder id = some (j, o)) (hst : o.state = .cancelling) :
    judgeOrder id s = if o.lines.any fun l => l.state.inFlight then s else cancelOrder o s := by
  unfold judgeOrder
  rw [h]
  simp only [hst]

theorem judgeOrder_other {j : Nat} {o : Order} (h : s.findOrder id = some (j, o)) (ha : o.state ≠ .active)
    (hc : o.state ≠ .cancelling) : judgeOrder id s = s := by
  unfold judgeOrder
  rw [h]
  cases hst : o.state with
  | active => exact absurd hst ha
  | cancelling => exact absurd hst hc
  | _ => simp only [hst]

theorem completeOrder_lane {o : Order} {i : Index} (h : o.lane = some i) : completeOrder o s = raiseEvent .orderComplete
    ((s.modOrder o.id fun p => { p with state := .complete, short := some (p.lines.any fun l => l.state.isShort) }).setLaneState i
      .complete) := by
  unfold completeOrder
  rw [h]

theorem cancelOrder_none {o : Order} (h : o.lane = none) : cancelOrder o s = s.freeOrder o.id := by
  unfold cancelOrder
  rw [h]

theorem cancelOrder_lane {o : Order} {i : Index} (h : o.lane = some i) : cancelOrder o s =
    if o.lines.any fun l => l.state == .arrived then
      (s.modOrder o.id fun p => { p with state := .cancelled }).setLaneState i .heldCancelled
    else judgeActivation ((s.freeOrder o.id).freeLaneRecord i) := by
  unfold cancelOrder
  rw [h]

/-! ## Cancelling an order (R121, R132) -/

theorem exec_orderCancel (h : s.Listens) {q : List Byte} (hq : q.length = 4) :
    exec (.orderCancel q) s = .next (answer 0x39#8 (runOrderCancel q s.heard)) :=
  exec_request (p := q) orderCancelRequest h rfl (by omega) (by simp [orderCancelRequest, plainRequest, lenIs, hq]) rfl

theorem runOrderCancel_none {q : List Byte} (h : s.findOrder (idAt q 0) = none) : runOrderCancel q s = refuse s .notFound 0xFF := by
  unfold runOrderCancel
  rw [h]

theorem runOrderCancel_some {q : List Byte} {j : Nat} {o : Order} (h : s.findOrder (idAt q 0) = some (j, o)) :
    runOrderCancel q s = if o.state = .queued ∨ o.state = .active then
        (giveTurns [] s (cancelLines o s), .ack (u8 (stateAfterCancel (cancelLines o s) o.id).code
          ++ u8 (o.lines.filter fun l => l.state.inSlot).length))
      else refuse s .state 0xFF := by
  unfold runOrderCancel
  rw [h]

theorem redirect_eq {i : Index} {e : CollectorItem} {es : List CollectorItem} (hd : s.station.diverter = .diverting (.order i))
    (hc : s.station.collector = e :: es) : redirect s = if s.entryRejectBound e then
      s.setStation { s.station with diverter := .diverting .reject, position := .reject } else s := by
  unfold redirect
  rw [hd, hc]

theorem redirect_of_not_lane (h : ∀ i, s.station.diverter ≠ .diverting (.order i)) : redirect s = s := by
  unfold redirect
  split
  · rename_i i _ _ hd _
    exact absurd hd (h i)
  · rfl

theorem redirect_of_empty (h : s.station.collector = []) : redirect s = s := by
  unfold redirect
  split
  · rename_i hc
    rw [h] at hc
    cases hc
  · rfl

theorem entryRejectBound_iff {e : CollectorItem} : s.entryRejectBound e = true ↔
    ∃ l, s.findLine e.order e.line = some l ∧ l.rejectBound = true := by
  unfold State.entryRejectBound
  cases s.findLine e.order e.line <;> simp

/-- The checks of withdrawn lines, one line after another: the ports change and nothing else. -/
theorem foldl_loseCheck_eq (id : Id32) (ls : List Line) (s : State) : ∃ ports, ls.foldl (loseCheck id) s = { s with ports := ports } := by
  induction ls generalizing s with
  | nil => exact ⟨s.ports, rfl⟩
  | cons l ls ih =>
    rw [List.foldl_cons]
    obtain ⟨ports, h⟩ := ih (loseCheck id s l)
    refine ⟨ports, h.trans ?_⟩
    unfold loseCheck
    split <;> rfl

/-- A port whose face check is for none of the lines withdrawn keeps its record. -/
theorem foldl_loseCheck_keeps (id : Id32) (p : Index) (ls : List Line) (s : State)
    (h : ∀ sc, (s.ports.get p).scan = some sc → ∀ l ∈ ls, l.carousel = p → l.state.inSlot = true → sc.user ≠ .faceCheck id l.seq) :
    (ls.foldl (loseCheck id) s).ports.get p = s.ports.get p := by
  induction ls generalizing s with
  | nil => rfl
  | cons l ls ih =>
    have hl : (loseCheck id s l).ports.get p = s.ports.get p := by
      unfold loseCheck
      split
      · rename_i hin
        by_cases hp : p = l.carousel
        · rw [modPort_ports, ← hp, Quad.get_set_same]
          cases hsc : (s.ports.get p).scan with
          | none => rw [Option.map_none, ← hsc]
          | some sc =>
            rw [Option.map_some, Scan.withdraw, if_neg (h sc hsc l List.mem_cons_self hp.symm hin), ← hsc]
        · rw [modPort_ports, Quad.get_set_ne _ _ hp]
      · rfl
    rw [List.foldl_cons, ih, hl]
    intro sc hsc l' hl'
    rw [hl] at hsc
    exact h sc hsc l' (List.mem_cons_of_mem _ hl')

/-- A face check for a line withdrawn loses it. -/
theorem foldl_loseCheck_loses (id : Id32) (p : Index) (ls : List Line) (s : State) {sc : Scan} (hsc : (s.ports.get p).scan = some sc)
    {l : Line} (hl : l ∈ ls) (hp : l.carousel = p) (hin : l.state.inSlot = true) (hu : sc.user = .faceCheck id l.seq) :
    (ls.foldl (loseCheck id) s).ports.get p = { s.ports.get p with scan := some { sc with user := .withdrawn } } := by
  induction ls generalizing s with
  | nil => cases hl
  | cons a ls ih =>
    rw [List.foldl_cons]
    by_cases ha : a.carousel = p ∧ a.state.inSlot = true ∧ sc.user = .faceCheck id a.seq
    · obtain ⟨hap, hain, hau⟩ := ha
      have hlost : (loseCheck id s a).ports.get p = { s.ports.get p with scan := some { sc with user := .withdrawn } } := by
        unfold loseCheck
        rw [if_pos hain, modPort_ports, hap, Quad.get_set_same, hsc, Option.map_some, Scan.withdraw, if_pos hau]
      rw [foldl_loseCheck_keeps id p ls _ fun sc' hsc' l' _ _ _ => ?_, hlost]
      rw [hlost] at hsc'
      cases hsc'
      simp
    · have hkeep : (loseCheck id s a).ports.get p = s.ports.get p :=
        foldl_loseCheck_keeps id p [a] s fun sc' hsc' l' hl' hp' hin' => by
          rw [hsc] at hsc'
          cases hsc'
          rw [List.mem_singleton.mp hl'] at hp' hin' ⊢
          exact fun h => ha ⟨hp', hin', h⟩
      rcases List.mem_cons.mp hl with rfl | hl
      · exact absurd ⟨hp, hin, hu⟩ ha
      · rw [ih (loseCheck id s a) (by rw [hkeep]; exact hsc) hl, hkeep]

theorem foldl_releaseOut_ports (id : Id32) (ls : List Line) (s : State) : (ls.foldl (releaseOut id) s).ports = s.ports := by
  induction ls generalizing s with
  | nil => rfl
  | cons l ls ih =>
    rw [List.foldl_cons, ih]
    unfold releaseOut
    split
    · split
      · split
        · rw [handMass_ports]
          rfl
        · rfl
      · rfl
    · rfl

end Sys2Proof.Machine

namespace Sys2Proof.Certificates

open Sys2Proof Sys2Proof.Machine

/-- Settles O42: one activation by its lane and its order, four in a row as the end of activation, and an order by its state. -/
theorem ordersActivateAndComplete : Obligations.OrdersActivateAndComplete := by
  refine ⟨fun s => ⟨fun h => activateOne_blocked (.inl (freeLane_eq_none.mpr h)),
    fun h => activateOne_blocked (.inr (nextQueued_eq_none.mpr h)),
    fun i j n o hi hf hlow ho hq hbest hn => ?activate⟩, fun s u hu => ⟨⟨4, hu.symm⟩, ?ended⟩, fun s j o ho => ?judge⟩
  case activate =>
    rw [activateOne_eq (freeLane_eq_some hi hf hlow) (nextQueued_eq_some ho hq hbest), hn, ← countUp_eq]
    rfl
  case ended =>
    subst hu
    rcases judgeActivation_over s with h | h
    · exact .inl (freeLane_eq_none.mp h)
    · exact .inr (nextQueued_eq_none.mp h)
  case judge =>
    have allFinished : (∀ l ∈ o.lines, l.state = .arrived ∨ ∃ why, l.state = .short why) →
        (o.lines.all fun l => l.state.finished) = true := fun h =>
      List.all_eq_true.mpr fun l hl => finished_iff.mpr (h l hl)
    have anyInFlight : (o.lines.any fun l => l.state.inFlight) = true ↔ ∃ l ∈ o.lines,
        l.state = .extracting ∨ l.state = .onShuttle ∨ l.state = .releasing ∨ l.state = .inTransit := by
      simp only [List.any_eq_true, inFlight_iff]
    have anyArrived : (o.lines.any fun l => l.state == .arrived) = true ↔ ∃ l ∈ o.lines, l.state = .arrived := by
      simp only [List.any_eq_true, beq_iff_eq]
    refine ⟨fun hst ⟨l, hl, hna, hns⟩ => ?_, fun ha hc => judgeOrder_other ho ha hc, fun i hst hlane hall => ?_,
      fun hst hfl => ?_, fun hst hno => ?_⟩
    · rw [judgeOrder_active ho hst, if_neg]
      intro hall
      exact (finished_iff.mp (List.all_eq_true.mp hall l hl)).elim hna fun ⟨why, h⟩ => hns why h
    · rw [judgeOrder_active ho hst, if_pos (allFinished hall), completeOrder_lane hlane]
    · rw [judgeOrder_cancelling ho hst, if_pos (anyInFlight.mpr hfl)]
    · have hjudged : judgeOrder o.id s = cancelOrder o s := by
        rw [judgeOrder_cancelling ho hst, if_neg]
        intro h
        obtain ⟨l, hl, hin⟩ := anyInFlight.mp h
        obtain ⟨h1, h2, h3, h4⟩ := hno l hl
        exact hin.elim h1 fun h => h.elim h2 fun h => h.elim h3 h4
      rw [hjudged]
      refine ⟨fun hlane => cancelOrder_none hlane, fun i hlane harr => ?_, fun i hlane harr => ?_⟩
      · rw [cancelOrder_lane hlane, if_neg fun h => ?_]
        obtain ⟨l, hl, h⟩ := anyArrived.mp h
        exact harr l hl h
      · rw [cancelOrder_lane hlane, if_pos (anyArrived.mpr harr)]

/-- Settles O43: a cancel by its order's state, the checks lost port by port, and the diversion redirected. -/
theorem orderCancelled : Obligations.OrderCancelled := by
  refine ⟨fun w => ⟨fun i e es l hd hc hl hr => ?redirect, fun h => ?stays⟩, fun s q hs hq => ⟨fun hnone => ?none,
    fun j o ho => ⟨fun hnq hna => ?refused, fun hst => ?cancel⟩⟩⟩
  case redirect => rw [redirect_eq hd hc, if_pos (entryRejectBound_iff.mpr ⟨l, hl, hr⟩)]
  case stays =>
    rcases h with h | h | ⟨e, es, hc, hl⟩
    · exact redirect_of_not_lane h
    · exact redirect_of_empty h
    · by_cases hd : ∃ i, w.station.diverter = .diverting (.order i)
      · obtain ⟨i, hd⟩ := hd
        rw [redirect_eq hd hc, if_neg]
        intro h
        obtain ⟨l, hfl, hr⟩ := entryRejectBound_iff.mp h
        rw [hl l hfl] at hr
        cases hr
      · exact redirect_of_not_lane fun i hi => hd ⟨i, hi⟩
  case none =>
    rw [exec_orderCancel hs hq, runOrderCancel_none (by exact hnone), answer_refuse]
  case refused =>
    rw [exec_orderCancel hs hq, runOrderCancel_some (by exact ho), if_neg (not_or.mpr ⟨hnq, hna⟩), answer_refuse]
  case cancel =>
    have hid : o.id = idAt q 0 := findOrder_id ho
    obtain ⟨ports, hports⟩ := foldl_loseCheck_eq o.id o.lines (o.lines.foldl (releaseOut o.id) s.heard)
    have hkeep : ∀ p, (o.lines.foldl (releaseOut o.id) s.heard).ports.get p = s.ports.get p := fun p =>
      congrArg (fun q : Quad Port => q.get p) (foldl_releaseOut_ports o.id o.lines s.heard)
    have hget : ∀ p, ports.get p = ((o.lines.foldl (loseCheck o.id) (o.lines.foldl (releaseOut o.id) s.heard)).ports).get p :=
      fun p => by rw [hports]
    refine ⟨o.lines.foldl (releaseOut o.id) s.heard, cancelLines o s.heard, ports,
      stateAfterCancel (cancelLines o s.heard) o.id, ?released, fun p => ⟨fun hsc => ?_, fun sc hsc =>
        ⟨fun ⟨l, hl, hp, hin, hu⟩ => ?_, fun hne => ?_⟩⟩, ?judged, fun i o' h => ?_, fun h => ?_, ?reply⟩
    · refine congrArg (fun f => List.foldl f s.heard o.lines) (funext fun w => funext fun l => ?_)
      unfold releaseOut
      exact if_congr inSlot_iff rfl rfl
    · refine ((hget p).trans (foldl_loseCheck_keeps o.id p o.lines _ fun sc hsc' => ?_)).trans (hkeep p)
      rw [hkeep] at hsc'
      cases hsc.symm.trans hsc'
    · rw [hget, foldl_loseCheck_loses o.id p o.lines _ ((congrArg Port.scan (hkeep p)).trans hsc) hl hp hin hu, hkeep]
    · refine ((hget p).trans (foldl_loseCheck_keeps o.id p o.lines _ fun sc' hsc' l hl hp hin => ?_)).trans (hkeep p)
      rw [hkeep] at hsc'
      cases hsc.symm.trans hsc'
      exact hne l hl hp hin
    case judged =>
      unfold cancelLines
      dsimp only
      rw [hports]
      refine congrArg (fun f => judgeGate (judgeOrder o.id (redirect (State.modOrder _ o.id f)))) (funext fun p => ?_)
      refine congrArg (fun ls => ({ p with state := .cancelling, lines := ls } : Order)) (List.map_congr_left fun l _ => ?_)
      unfold cancelLine
      cases hst : l.state <;> rfl
    · unfold stateAfterCancel
      rw [h]
    · unfold stateAfterCancel
      rw [h]
    case reply =>
      rw [exec_orderCancel hs hq, runOrderCancel_some (s := s.heard) (j := j) (o := o) (by exact ho), if_pos hst]
      rfl

end Sys2Proof.Certificates

/-! SUPPORT. The merge gate's claims, the collector's entry, a diversion's test and arrival, lane release and the settings. -/

namespace Sys2Proof.Machine

open Sys2Proof

variable {s : State} {p : Index}

/-! ## The merge gate (R125, R126) -/

theorem gateChoice_closed (h : s.station.releasePort ≠ none ∨ s.station.fault ≠ none ∨ s.station.paused = true) :
    gateChoice s = none := by
  unfold gateChoice
  refine if_neg fun hb => ?_
  rw [Bool.and_eq_true, Bool.and_eq_true, Option.isNone_iff_eq_none, Option.isNone_iff_eq_none, Bool.not_eq_true'] at hb
  obtain ⟨⟨hr, hf⟩, hp⟩ := hb
  rcases h with h | h | h
  · exact h hr
  · exact h hf
  · rw [hp] at h
    cases h

theorem gateChoice_open (hr : s.station.releasePort = none) (hf : s.station.fault = none) (hp : s.station.paused = false) :
    gateChoice s = bestBy Claim.key (allIndices.filterMap (claimAt s)) := by
  unfold gateChoice
  rw [hr, hf, hp]
  rfl

theorem gateChoice_noClaim (h : ∀ p, claimAt s p = none) : gateChoice s = none := by
  unfold gateChoice
  split
  · rw [bestBy_eq_none, List.filterMap_eq_nil_iff]
    exact fun p _ => h p
  · rfl

theorem judgeGate_none (h : gateChoice s = none) : judgeGate s = s := by
  unfold judgeGate
  rw [h]

theorem judgeGate_some {c : Claim} (h : gateChoice s = some c) : judgeGate s = grant c s := by
  unfold judgeGate
  rw [h]

theorem claimAt_none (h : (s.ports.get p).shuttle ≠ .homeLoaded ∨ (s.ports.get p).loadRec = none) : claimAt s p = none := by
  unfold claimAt
  split
  · rename_i hsh hlr
    rcases h with h | h
    · exact absurd hsh h
    · rw [h] at hlr
      cases hlr
  · rfl

theorem claimAt_eq {lr : LoadRecord} {i : Nat} {o : Order} {l : Line} (hsh : (s.ports.get p).shuttle = .homeLoaded)
    (hlr : (s.ports.get p).loadRec = some lr) (ho : s.findOrder lr.order = some (i, o)) (hl : o.line? lr.line = some l) :
    claimAt s p = if sequenceRule o l || rejectRule s l then
      some { port := p, load := lr, key := [o.priority, o.actSeq.getD 0, i, l.seq, p.val] } else none := by
  unfold claimAt
  rw [hsh, hlr]
  simp only [ho, hl]

theorem unreleased_iff {st : LineState} : st.unreleased = true ↔
    st = .onShuttle ∨ st = .reserved ∨ st = .extracting ∨ ∃ b, st = .balanceWait b := by
  cases st <;> simp [LineState.unreleased]

theorem sequenceRule_iff {o : Order} {l : Line} : sequenceRule o l = true ↔ o.state = .active ∧ l.rejectBound = false
    ∧ l.state.unreleased = true ∧ ∀ l' ∈ o.lines, l'.seq < l.seq → l'.state.unreleased = false := by
  unfold sequenceRule
  simp [and_assoc]

theorem rejectRule_iff {l : Line} : rejectRule s l = true ↔
    l.rejectBound = true ∧ s.station.reject.length + (s.station.collector.filter s.entryRejectBound).length < 8 := by
  unfold rejectRule
  rw [Bool.and_eq_true, decide_eq_true_eq]
  rfl

/-! ## The collector (R127, R129) -/

theorem judgeHigh_paused (h : s.station.settings.high ≤ s.station.collector.length) :
    judgeHigh s = s.setStation { s.station with paused := true } := by
  unfold judgeHigh
  rw [if_pos h]

theorem judgeHigh_below (h : s.station.collector.length < s.station.settings.high) : judgeHigh s = s := by
  unfold judgeHigh
  rw [if_neg (Nat.not_le.mpr h)]

theorem judgeLow_runs (hp : s.station.paused = true) (h : s.station.collector.length ≤ s.station.settings.low) :
    judgeLow s = judgeGate (s.setStation { s.station with paused := false }) := by
  unfold judgeLow
  rw [if_pos]
  rw [hp, decide_eq_true h]
  rfl

theorem judgeLow_stays (h : s.station.paused = false ∨ s.station.settings.low < s.station.collector.length) : judgeLow s = s := by
  unfold judgeLow
  rw [if_neg]
  rw [Bool.and_eq_true, decide_eq_true_eq]
  rintro ⟨hp, hl⟩
  rcases h with h | h
  · rw [hp] at h
    cases h
  · omega

theorem judgeHigh_paused_eq (s : State) :
    (judgeHigh s).station.paused = (s.station.paused || decide (s.station.settings.high ≤ s.station.collector.length)) := by
  by_cases h : s.station.settings.high ≤ s.station.collector.length
  · rw [judgeHigh_paused h, decide_eq_true h, Bool.or_true]
    rfl
  · rw [judgeHigh_below (by omega), decide_eq_false h, Bool.or_false]

/-- The load of a deck joins the tail of the collector. -/
def enteredCollector (p : Index) (lr : LoadRecord) (s : State) : State :=
  judgeHigh (((s.setPort p { s.ports.get p with
      shuttle := .homeEmpty, releaseOut := false, transferTimer := none, loadRec := none }).setLine
        lr.order lr.line .inTransit).setStation
    { s.station with
      releasePort := none
      collector := s.station.collector ++ [{ tag := lr.tag, order := lr.order, line := lr.line }] })

theorem completeRelease_eq {lr : LoadRecord} (h : (s.ports.get p).loadRec = some lr) : completeRelease p s =
    judgeGate (if s.station.collector = [] then testDiversion (enteredCollector p lr s) else enteredCollector p lr s) := by
  have completed : completeRelease p s = judgeGate (if s.station.collector.isEmpty then testDiversion (enteredCollector p lr s)
      else enteredCollector p lr s) := by
    unfold completeRelease
    rw [h]
    rfl
  rw [completed, if_congr List.isEmpty_iff rfl rfl]

/-! ## The diverter (R130, R131) and station faults (R133) -/

theorem stationFault_again (kind : StationFaultKind) (h : s.station.fault ≠ none) : stationFault kind s = s := by
  obtain ⟨f, hf⟩ := Option.ne_none_iff_exists'.mp h
  unfold stationFault
  rw [hf]

theorem stationFault_eq (kind : StationFaultKind) (h : s.station.fault = none) : stationFault kind s =
    raiseEvent .stationFault (s.setStation { s.station with
      fault := some { kind := kind, diversion := s.diversionInFlight, lateArrival := none, strayCount := 0 }
      drive := false
      send := false
      diversionTimer := none }) := by
  unfold stationFault
  rw [h]

theorem diversionInFlight_none (h : ∀ l, s.station.diverter ≠ .diverting l) : s.diversionInFlight = none := by
  unfold State.diversionInFlight
  split
  · rename_i hd _
    exact absurd hd (h _)
  · rfl

theorem diversionInFlight_some {l : Lane} {e : CollectorItem} {es : List CollectorItem} (hd : s.station.diverter = .diverting l)
    (hc : s.station.collector = e :: es) :
    s.diversionInFlight = some { tag := e.tag, order := e.order, line := e.line, dest := l } := by
  unfold State.diversionInFlight
  rw [hd, hc]

theorem testDiversion_diverting {d : Lane} (h : s.station.diverter = .diverting d) : testDiversion s = s := by
  unfold testDiversion
  rw [h]

theorem testDiversion_empty (hd : ∀ d, s.station.diverter ≠ .diverting d) (hc : s.station.collector = []) :
    testDiversion s = s.setStation { s.station with diverter := .idle } := by
  unfold testDiversion
  rw [hc]
  cases h : s.station.diverter with
  | diverting d => exact absurd h (hd d)
  | _ => rfl

theorem testDiversion_head {e : CollectorItem} {es : List CollectorItem} (hd : ∀ d, s.station.diverter ≠ .diverting d)
    (hc : s.station.collector = e :: es) : testDiversion s =
      if 8 ≤ s.station.reject.length then s.setStation { s.station with diverter := .waitingRoom }
      else if s.station.fault.isSome then s else beginDiversion e s := by
  unfold testDiversion
  rw [hc]
  cases h : s.station.diverter with
  | diverting d => exact absurd h (hd d)
  | _ => rfl

theorem takeLaneEntry_fault {f : StationFault} (h : s.station.fault = some f) (lane : Lane) :
    takeLaneEntry lane s = s.setStation { s.station with fault := some (f.lateEntry lane) } := by
  unfold takeLaneEntry
  rw [h]

theorem takeLaneEntry_arrives {lane : Lane} (hf : s.station.fault = none) (hd : s.station.diverter = .diverting lane) :
    takeLaneEntry lane s = afterDelivery (deliverHead lane (endDiversion s)) := by
  unfold takeLaneEntry
  rw [hf, hd]
  exact if_pos rfl

theorem takeLaneEntry_misroute {lane : Lane} (hf : s.station.fault = none) (hd : s.station.diverter ≠ .diverting lane) :
    takeLaneEntry lane s = stationFault (.misroute lane) s := by
  unfold takeLaneEntry
  rw [hf]
  cases h : s.station.diverter with
  | diverting d => exact if_neg fun hl : lane = d => hd (h.trans (congrArg Diverter.diverting hl.symm))
  | _ => rfl

/-! ## Lanes (R136) and settings (R137) -/

theorem exec_laneRelease (h : s.Listens) (b : Byte) :
    exec (.laneRelease [b]) s = .next (answer 0x40#8 (runLaneRelease [b] s.heard)) :=
  exec_request (p := [b]) laneReleaseRequest h rfl (by simp) rfl rfl

theorem laneOf_out {n : Nat} (h : n = 0 ∨ 5 < n) : laneOf n = none := by
  unfold laneOf
  rw [if_neg (by omega)]
  split
  · rfl
  · rw [indexOf_of_le (by omega)]
    rfl

theorem laneOf_succ (i : Index) : laneOf (i.val + 1) = some (.order i) := by
  unfold laneOf
  rw [if_neg (by omega), if_neg (by omega), Nat.add_sub_cancel, indexOf_val]
  rfl

theorem byteAt_lane (i : Index) : byteAt [BitVec.ofNat 8 (i.val + 1)] 0 = i.val + 1 := byteAt_ofNat (by omega) []

theorem runLaneRelease_eq {q : List Byte} {lane : Lane} (h : laneOf (byteAt q 0) = some lane) : runLaneRelease q s =
    (releaseBar s lane).elim (giveTurns [] s (releaseLane lane s), .ack (u8 (laneCountOf s lane))) (refuse s .state) := by
  unfold runLaneRelease
  rw [h]
  cases hb : releaseBar s lane <;> simp only [hb] <;> rfl

theorem exec_laneButton (s : State) (lane : Lane) :
    exec (.laneButton lane) s = .next ((releaseBar s lane).elim (giveTurns [] s (releaseLane lane s)) fun _ => s) := by
  change execLaneButton lane s = _
  unfold execLaneButton
  cases releaseBar s lane <;> rfl

theorem releaseBar_order (s : State) (i : Index) : releaseBar s (.order i) =
    if (s.station.lanes.get i).state = .filling then some 0xFF
    else if (s.station.lanes.get i).state = .free then some 0xFE else none := by
  unfold releaseBar
  cases h : (s.station.lanes.get i).state <;> simp only [h] <;> rfl

theorem releaseLane_order {i : Index} {id : Id32} (h : (s.station.lanes.get i).order = some id) : releaseLane (.order i) s =
    judgeActivation ((s.freeOrder id).freeLaneRecord i) := by
  unfold releaseLane
  simp only [h]

theorem exec_setStation (h : s.Listens) {q : List Byte} (hq : q.length = 7) :
    exec (.setStation q) s = .next (answer 0x41#8 (runSetStation q s.heard)) :=
  exec_request (p := q) setStationRequest h rfl (by omega) (by simp [setStationRequest, plainRequest, lenIs, hq]) rfl

theorem judged_eq (r : StoreRecord) (n : Nat) :
    r.judged n = { r with promoted := r.promoted || (r.state == .placed && decide (n ≤ r.waited.getD 0)) } := by
  unfold StoreRecord.judged
  split
  · rename_i h
    rw [h.1, decide_eq_true h.2]
    simp
  · rename_i h
    have hb : (r.state == StoreState.placed && decide (n ≤ r.waited.getD 0)) = false := by
      refine Bool.eq_false_iff.mpr fun hb => h ?_
      rwa [Bool.and_eq_true, beq_iff_eq, decide_eq_true_eq] at hb
    rw [hb, Bool.or_false]

/-- Promotion judged changes the store table only. -/
theorem judgePromotions_eq (s : State) : ∃ sts, judgePromotions s = { s with stores := sts } := by
  have fold : ∀ (ps : List Index) (s : State), ∃ sts, ps.foldl (fun s p => s.modStore p fun r =>
      r.judged s.station.settings.storePatience) s = { s with stores := sts } := fun ps => by
    induction ps with
    | nil => exact fun s => ⟨s.stores, rfl⟩
    | cons p ps ih =>
      intro s
      rw [List.foldl_cons]
      obtain ⟨sts, h⟩ := ih (s.modStore p fun r => r.judged s.station.settings.storePatience)
      refine ⟨sts, h.trans ?_⟩
      unfold State.modStore
      cases s.stores.get p <;> rfl
  exact fold allIndices s

/-- What a judgement does to a port's record and the patience it is judged by. -/
def judgedPort (e : Option StoreRecord × Nat) : Option StoreRecord × Nat := (e.1.map fun r => r.judged e.2, e.2)

theorem judgePromotions_get (s : State) (p : Index) :
    (judgePromotions s).stores.get p = (s.stores.get p).map fun r => r.judged s.station.settings.storePatience := by
  refine congrArg Prod.fst (foldl_allIndices (fun s p => (s.stores.get p, s.station.settings.storePatience)) _
    (fun _ => judgedPort) (fun s p => ?_) (fun s p q hq => ?_) s p)
  · simp only [modStore_get_same, modStore_station, judgedPort]
  · simp only [modStore_get_ne s hq, modStore_station]

/-- The settings' effect in its three judgements. -/
theorem replaceSettings_eq {r : Settings} {u v : State} (hu : judgePromotions (s.setStation { s.station with settings := r }) = u)
    (hv : v = if s.station.settings.laneCount = r.laneCount then u else judgeActivation u) : replaceSettings r s =
      if s.station.settings.high = r.high ∧ s.station.settings.low = r.low then v else judgeLow (judgeHigh v) := by
  subst hu hv
  rfl

end Sys2Proof.Machine

namespace Sys2Proof.Certificates

open Sys2Proof Sys2Proof.Machine

/-- Settles O46: the gate closed, the claim of lowest key granted, and what makes a claim. -/
theorem mergeGateGrants : Obligations.MergeGateGrants := by
  refine ⟨fun s h => judgeGate_none ?closed, fun s c hr hf hp hc hbest => ?granted, fun s p h => claimAt_none h,
    fun s p lr i o l hsh hlr ho hl => ?claim⟩
  case closed =>
    rcases h with h | h | h | h
    · exact gateChoice_closed (.inl h)
    · exact gateChoice_closed (.inr (.inl h))
    · exact gateChoice_closed (.inr (.inr h))
    · exact gateChoice_noClaim h
  case granted =>
    have hbest : bestBy Claim.key (allIndices.filterMap (claimAt s)) = some c := by
      refine bestBy_eq_some (List.mem_filterMap.mpr ⟨c.port, mem_allIndices _, hc⟩) fun d hd => ?_
      obtain ⟨p, -, hd⟩ := List.mem_filterMap.mp hd
      rcases hbest p d hd with rfl | h
      · exact .inl (Option.some.inj (hd.symm.trans hc))
      · exact .inr h
    rw [judgeGate_some ((gateChoice_open hr hf hp).trans hbest)]
    rfl
  case claim =>
    have hclaim := claimAt_eq hsh hlr ho hl
    have hsome : claimAt s p ≠ none ↔ sequenceRule o l = true ∨ rejectRule s l = true := by
      rw [hclaim, ← Bool.or_eq_true]
      split
      · rename_i h
        exact ⟨fun _ => h, fun _ => Option.some_ne_none _⟩
      · rename_i h
        exact ⟨fun h => absurd rfl h, fun h' => absurd h' h⟩
    have hwaits : ∀ l' : Line, l'.state.unreleased = false ↔ l'.state ≠ .reserved ∧ (∀ b, l'.state ≠ .balanceWait b)
        ∧ l'.state ≠ .extracting ∧ l'.state ≠ .onShuttle := fun l' => by
      cases l'.state <;> simp [LineState.unreleased]
    refine ⟨?_, fun c hc => ?_⟩
    · rw [hsome, sequenceRule_iff, rejectRule_iff, unreleased_iff]
      simp only [hwaits]
    · rw [hclaim] at hc
      split at hc
      · cases hc
        exact ⟨rfl, rfl, rfl⟩
      · cases hc

/-- Settles O47: the collector's count, the entry that completes a release or strays, and the fault record. -/
theorem collectorEntriesAndFaults : Obligations.CollectorEntriesAndFaults := by
  refine ⟨fun s => ⟨judgeHigh_paused, judgeHigh_below, judgeLow_runs, judgeLow_stays⟩,
    fun s => ⟨fun p lr hp hlr => ⟨enteredCollector p lr s, rfl, ?paused, ?entered⟩, fun hp hf => ?stray, fun f hp hf => ?counted⟩,
    fun s kind => ⟨stationFault_again kind, fun hf => ⟨s.diversionInFlight, stationFault_eq kind hf, diversionInFlight_none,
      fun l e es hd hc => diversionInFlight_some hd hc⟩⟩⟩
  case paused =>
    unfold enteredCollector
    rw [judgeHigh_paused_eq, setStation_station, List.length_append]
    rfl
  case entered =>
    change execCollectorEntry s = _
    unfold execCollectorEntry
    rw [hp]
    simp only [completeRelease_eq hlr]
    rfl
  case stray =>
    change execCollectorEntry s = _
    unfold execCollectorEntry strayEntry
    rw [hp, hf]
  case counted =>
    change execCollectorEntry s = _
    unfold execCollectorEntry strayEntry
    rw [hp, hf]

/-- Settles O48: the diverter's test by collector, room and fault, and a lane entry by the diversion in flight. -/
theorem diversionsAndLaneEntries : Obligations.DiversionsAndLaneEntries := by
  refine ⟨fun s => ⟨fun d => testDiversion_diverting, fun hd => ⟨testDiversion_empty hd, fun hc hfull => ?full,
      fun hc hroom hf => ?faulted, fun e es j o l d hc hroom hf ho hl hdest => ?begins⟩⟩,
    fun s lane => ⟨fun e es hf hd hc => ?arrives, fun hf hd => ?misroute, fun f hf => ?late, fun ht => ?timeout⟩⟩
  case full =>
    obtain ⟨e, es, hc⟩ := List.exists_cons_of_ne_nil hc
    rw [testDiversion_head hd hc, if_pos hfull]
  case faulted =>
    obtain ⟨e, es, hc⟩ := List.exists_cons_of_ne_nil hc
    rw [testDiversion_head hd hc, if_neg (Nat.not_le.mpr hroom), if_pos (Option.isSome_iff_ne_none.mpr hf)]
  case begins =>
    have hdestination : destination s e = d := by
      rw [destination_of ho hl]
      rcases hdest with ⟨hr, rfl⟩ | ⟨hr, i, hlane, rfl⟩
      · rw [hr]
        rfl
      · rw [hr, hlane]
        rfl
    rw [testDiversion_head hd hc, if_neg (Nat.not_le.mpr hroom), hf, ← hdestination]
    rfl
  case arrives =>
    have taken : exec (.laneEntry lane) s = .next (giveTurns [] s (takeLaneEntry lane s)) := rfl
    rw [taken, takeLaneEntry_arrives hf hd, deliverHead_cons (s := endDiversion s) hc]
    refine ⟨_, ?_, ?_, rfl⟩
    · rintro i rfl
      rfl
    · rintro rfl
      rfl
  case misroute => exact congrArg (fun u => Host.Outcome.next (giveTurns [] s u)) (takeLaneEntry_misroute hf hd)
  case late => exact congrArg (fun u => Host.Outcome.next (giveTurns [] s u)) (takeLaneEntry_fault hf lane)
  case timeout =>
    obtain ⟨n, hn⟩ := Option.ne_none_iff_exists'.mp ht
    change execDiversionTimeout s = _
    unfold execDiversionTimeout
    rw [hn]

/-- Settles O49: a release by the lane's state, the button beside it, and the settings' fields and effects. -/
theorem lanesAndSettings : Obligations.LanesAndSettings := by
  refine ⟨fun s hs => ⟨fun b hb => ?range, ⟨_, rfl, ?rejectButton, ?rejectRelease⟩,
    fun i => ⟨fun hst => ?filling, fun hst => ?free, fun id hst hid => ?released⟩⟩, fun s q r hs hq hr => ?settings⟩
  case range =>
    have hn : laneOf (byteAt [b] 0) = none := laneOf_out (by
      rcases hb with rfl | h
      · exact .inl rfl
      · exact .inr h)
    rw [exec_laneRelease hs]
    unfold runLaneRelease
    rw [hn]
    rfl
  case rejectButton => exact exec_laneButton s .reject
  case rejectRelease =>
    rw [exec_laneRelease hs, runLaneRelease_eq (lane := .reject) rfl]
    rfl
  case filling =>
    have hbar : ∀ t : State, t.station = s.station → releaseBar t (.order i) = some 0xFF := fun t ht => by
      rw [releaseBar_order, ht, if_pos hst]
    rw [exec_laneRelease hs, runLaneRelease_eq ((congrArg laneOf (byteAt_lane i)).trans (laneOf_succ i)), hbar s.heard rfl,
      exec_laneButton, hbar s rfl]
    exact ⟨rfl, rfl⟩
  case free =>
    have hbar : ∀ t : State, t.station = s.station → releaseBar t (.order i) = some 0xFE := fun t ht => by
      rw [releaseBar_order, ht, hst]
      rfl
    rw [exec_laneRelease hs, runLaneRelease_eq ((congrArg laneOf (byteAt_lane i)).trans (laneOf_succ i)), hbar s.heard rfl,
      exec_laneButton, hbar s rfl]
    exact ⟨rfl, rfl⟩
  case released =>
    have hbar : ∀ t : State, t.station = s.station → releaseBar t (.order i) = none := fun t ht => by
      rw [releaseBar_order, ht]
      rcases hst with h | h <;> rw [h] <;> rfl
    rw [exec_laneRelease hs, runLaneRelease_eq ((congrArg laneOf (byteAt_lane i)).trans (laneOf_succ i)), hbar s.heard rfl,
      exec_laneButton, hbar s rfl, Option.elim_none, Option.elim_none, releaseLane_order hid,
      releaseLane_order (s := s.heard) hid, answer_ack]
    exact ⟨rfl, rfl⟩
  case settings =>
    subst hr
    rw [exec_setStation hs hq]
    have refused : ∀ {detail : Nat}, firstFailure (settingsChecks (readSettings q)) = some (.nak .range detail) →
        Host.Outcome.next (φ := Fault) (ρ := Refusal) (answer 0x41#8 (runSetStation q s.heard)) =
          .next (s.heard.refusing 0x41#8 .range detail) := fun h => by
      unfold runSetStation
      rw [checked_fail _ h, answer_refuse]
    generalize hread : readSettings q = r at *
    refine ⟨fun h0 => refused ?_, fun h0 h0' => ⟨fun h1 => refused ?_, fun h1 => ⟨fun h2 => refused ?_, fun h2 h2' =>
      ⟨fun h3 => refused ?_, fun h3 h3' => ⟨fun h4 => refused ?_, fun h4 h4' => ⟨fun h5 => refused ?_, fun h5 => ?_⟩⟩⟩⟩⟩⟩
    · have d0 : decide (2 ≤ r.transferTimeout ∧ r.transferTimeout ≤ 30) = false := decide_eq_false (by omega)
      simp only [settingsChecks, d0, firstFailure_cons_false]
    all_goals have d0 : decide (2 ≤ r.transferTimeout ∧ r.transferTimeout ≤ 30) = true := decide_eq_true ⟨h0, h0'⟩
    · have d1 : decide (r.massTolerance ≤ 100) = false := decide_eq_false (by omega)
      simp only [settingsChecks, d0, d1, firstFailure_cons_true, firstFailure_cons_false]
    all_goals have d1 : decide (r.massTolerance ≤ 100) = true := decide_eq_true h1
    · have d2 : decide (10 ≤ r.storePatience ∧ r.storePatience ≤ 300) = false := decide_eq_false (by omega)
      simp only [settingsChecks, d0, d1, d2, firstFailure_cons_true, firstFailure_cons_false]
    all_goals have d2 : decide (10 ≤ r.storePatience ∧ r.storePatience ≤ 300) = true := decide_eq_true ⟨h2, h2'⟩
    · have d3 : decide (1 ≤ r.laneCount ∧ r.laneCount ≤ 4) = false := decide_eq_false (by omega)
      simp only [settingsChecks, d0, d1, d2, d3, firstFailure_cons_true, firstFailure_cons_false]
    all_goals have d3 : decide (1 ≤ r.laneCount ∧ r.laneCount ≤ 4) = true := decide_eq_true ⟨h3, h3'⟩
    · have d4 : decide (2 ≤ r.high ∧ r.high ≤ 12) = false := decide_eq_false (by omega)
      simp only [settingsChecks, d0, d1, d2, d3, d4, firstFailure_cons_true, firstFailure_cons_false]
    all_goals have d4 : decide (2 ≤ r.high ∧ r.high ≤ 12) = true := decide_eq_true ⟨h4, h4'⟩
    · have d5 : decide (r.low < r.high) = false := decide_eq_false (by omega)
      simp only [settingsChecks, d0, d1, d2, d3, d4, d5, firstFailure_cons_true, firstFailure_cons_false]
    · have hpass : firstFailure (settingsChecks r) = none := by
        simp only [settingsChecks, d0, d1, d2, d3, d4, decide_eq_true h5, firstFailure_cons_true]
        rfl
      obtain ⟨sts, hsts⟩ := judgePromotions_eq (s.heard.setStation { s.station with settings := r })
      have hrun : runSetStation q s.heard = accept (giveTurns [] s.heard (replaceSettings r s.heard)) := by
        unfold runSetStation
        rw [hread, checked_pass (firstFailure_none_iff.mp hpass)]
      refine ⟨sts, _, _, rfl, fun p => ?_, rfl, ?_⟩
      · have hget := judgePromotions_get (s.heard.setStation { s.station with settings := r }) p
        rw [hsts] at hget
        refine hget.trans ?_
        simp only [judged_eq]
        rfl
      · rw [hrun, replaceSettings_eq (s := s.heard) hsts rfl]
        rfl

end Sys2Proof.Certificates

/-! SUPPORT. The oldest carriers of a map, AUDIT_START and AUDIT_STOP past their checks, and the end of an auto task. -/

namespace Sys2Proof.Machine

open Sys2Proof

variable {s : State} {x : Index}

/-! ## The oldest carriers (R140) -/

theorem numbered_map_fst {α : Type} (as : List α) : (numbered 0 as).map Prod.fst = List.range as.length := by
  refine List.ext_getElem? fun i => ?_
  rw [List.getElem?_map, numbered_getElem?]
  by_cases h : i < as.length
  · rw [List.getElem?_eq_getElem h, List.getElem?_range h]
    simp
  · rw [List.getElem?_eq_none (by omega), List.getElem?_eq_none (by simpa using h)]
    rfl

/-- The carriers below a number with their slots. -/
def numberedSlots (f : Nat → List Slot) (n : Nat) : List (Nat × List Slot) := numbered 0 ((List.range n).map f)

theorem mem_numberedSlots {f : Nat → List Slot} {n : Nat} {e : Nat × List Slot} :
    e ∈ numberedSlots f n ↔ e.1 < n ∧ e.2 = f e.1 := by
  obtain ⟨c, ls⟩ := e
  unfold numberedSlots
  rw [mem_numbered, Nat.sub_zero, List.getElem?_map]
  constructor
  · rintro ⟨-, h⟩
    obtain ⟨d, hd, rfl⟩ := Option.map_eq_some_iff.mp h
    obtain ⟨hlt, hget⟩ := List.getElem?_eq_some_iff.mp hd
    rw [List.getElem_range] at hget
    rw [List.length_range] at hlt
    exact ⟨hlt, by rw [← hget]⟩
  · rintro ⟨hlt, hls⟩
    exact ⟨Nat.zero_le _, by rw [List.getElem?_range hlt]; exact congrArg some hls.symm⟩

/-- Lower stamp first, and the lower index first among equals. -/
def OlderThan (f : Nat → List Slot) (c d : Nat) : Prop :=
  lowestStamp (f c) < lowestStamp (f d) ∨ (lowestStamp (f c) = lowestStamp (f d) ∧ c < d)

/-- The carriers in rising order of their age. -/
def byAge (f : Nat → List Slot) (n : Nat) : List Nat :=
  (rank (fun (c, ls) => [lowestStamp ls, c]) (numberedSlots f n)).map Prod.fst

theorem oldestList_eq (f : Nat → List Slot) (n count : Nat) : oldestList ((List.range n).map f) count = (byAge f n).take count := by
  unfold oldestList byAge
  rw [List.map_take]
  rfl

theorem byAge_perm (f : Nat → List Slot) (n : Nat) : (byAge f n).Perm (List.range n) := by
  have h := (rank_perm (fun (c, ls) => [lowestStamp ls, c]) (numberedSlots f n)).map Prod.fst
  have hr : (numberedSlots f n).map Prod.fst = List.range n := by
    unfold numberedSlots
    rw [numbered_map_fst, List.length_map, List.length_range]
  rwa [hr] at h

theorem byAge_sorted (f : Nat → List Slot) (n : Nat) : (byAge f n).Pairwise (OlderThan f) := by
  have hn : (byAge f n).Nodup := (byAge_perm f n).nodup_iff.mpr List.nodup_range
  unfold byAge at hn ⊢
  have hmem : ∀ e ∈ rank (fun (c, ls) => [lowestStamp ls, c]) (numberedSlots f n), e.2 = f e.1 := fun e he =>
    (mem_numberedSlots.mp ((rank_perm _ _).mem_iff.mp he)).2
  have hs := rank_sorted (fun (c, ls) => [lowestStamp ls, c]) (numberedSlots f n)
  rw [List.Nodup, List.pairwise_map] at hn
  rw [List.pairwise_map]
  refine (hs.and hn).imp_of_mem fun {a b} ha hb ⟨hle, hne⟩ => ?_
  obtain ⟨c, ls⟩ := a
  obtain ⟨d, ls'⟩ := b
  have hc : ls = f c := hmem _ ha
  have hd : ls' = f d := hmem _ hb
  subst hc hd
  dsimp only at hle hne
  simp only [lexLt] at hle
  unfold OlderThan
  grind

/-- The first carriers of the age order: as many as asked, each once, and older than those left out. -/
theorem oldestList_spec (f : Nat → List Slot) (n count : Nat) :
    (oldestList ((List.range n).map f) count).length = min count n ∧ (oldestList ((List.range n).map f) count).Nodup
    ∧ (∀ c ∈ oldestList ((List.range n).map f) count, c < n)
    ∧ (oldestList ((List.range n).map f) count).Pairwise (OlderThan f)
    ∧ ∀ c ∈ oldestList ((List.range n).map f) count, ∀ d, d < n → d ∉ oldestList ((List.range n).map f) count → OlderThan f c d := by
  rw [oldestList_eq]
  have hp := byAge_perm f n
  have hs := byAge_sorted f n
  have hsub := List.take_sublist count (byAge f n)
  refine ⟨?_, hsub.nodup (hp.nodup_iff.mpr List.nodup_range), fun c hc => ?_, hs.sublist hsub, fun c hc d hd hnot => ?_⟩
  · rw [List.length_take, hp.length_eq, List.length_range]
  · exact List.mem_range.mp (hp.mem_iff.mp (hsub.subset hc))
  · have hmem : d ∈ (byAge f n).take count ++ (byAge f n).drop count := by
      rw [List.take_append_drop]
      exact hp.mem_iff.mpr (List.mem_range.mpr hd)
    rw [← List.take_append_drop count (byAge f n), List.pairwise_append] at hs
    obtain ⟨-, -, hcross⟩ := hs
    rcases List.mem_append.mp hmem with h | h
    · exact absurd h hnot
    · exact hcross c hc d h

/-! ## AUDIT_START (R140) -/

theorem exec_auditStart (h : s.Listens) {q : List Byte} (hq : q.length = 5) :
    exec (.auditStart q) s = .next (answer 0x48#8 (runAuditStart q s.heard)) :=
  exec_request (p := q) auditStartRequest h rfl (by omega) (by simp [auditStartRequest, plainRequest, lenIs, hq]) rfl

theorem runAuditStart_at {q : List Byte} (hx : (readAudit q).carousel = x.val) : runAuditStart q s =
    checked s (auditChecks s x (readAudit q))
      (giveTurns [] s (startTask x .host (readAudit q).kind (readAudit q).sel (selectionList s x (readAudit q).sel) s),
        .ack (u32 (startTask x .host (readAudit q).kind (readAudit q).sel (selectionList s x (readAudit q).sel) s).audit.generation
          ++ u8 (selectionList s x (readAudit q).sel).length)) := by
  unfold runAuditStart
  dsimp only
  rw [hx, withCarousel_val]

/-- The first carrier is checked for a SPAN only. -/
theorem spanFirst_ok {selection first carriers : Nat} (hs : selection ≤ 1) (h : selection = 0 → first < carriers) :
    (selection == 1 || decide (first < carriers)) = true := by
  rw [Bool.or_eq_true, beq_iff_eq, decide_eq_true_eq]
  by_cases h0 : selection = 0
  · exact .inr (h h0)
  · exact .inl (by omega)

/-- The record that AUDIT_START opens. -/
def startedTask (s : State) (x : Index) (r : AuditRequest) : AuditTask :=
  { state := .running, origin := .host, check := r.kind, selection := r.sel, generation := countUp s.audit.generation,
    list := selectionList s x r.sel, findings := 0, scan := none }

/-! ## AUDIT_STOP (R148) -/

theorem exec_auditStop (h : s.Listens) {q : List Byte} (hq : q.length = 1) :
    exec (.auditStop q) s = .next (answer 0x49#8 (runAuditStop q s.heard)) :=
  exec_request (p := q) auditStopRequest h rfl (by omega) (by simp [auditStopRequest, plainRequest, lenIs, hq]) rfl

theorem runAuditStop_none (h : s.audit.tasks.get x = none) : runAuditStop [BitVec.ofNat 8 x.val] s = refuse s .notFound 0xFF := by
  unfold runAuditStop
  rw [byteAt_ofNat_index, withCarousel_val]
  simp only [h]

theorem runAuditStop_some {t : AuditTask} (h : s.audit.tasks.get x = some t) : runAuditStop [BitVec.ofNat 8 x.val] s =
    if t.isOpen then (giveTurns [] s (stopTask x t s), .ack (u8 t.list.length)) else refuse s .state 0xFF := by
  unfold runAuditStop
  rw [byteAt_ofNat_index, withCarousel_val]
  simp only [h]

theorem isOpen_iff {t : AuditTask} : t.isOpen = true ↔ t.state = .running ∨ t.state = .heldLog := by
  unfold AuditTask.isOpen
  rw [Bool.or_eq_true, beq_iff_eq, beq_iff_eq]

theorem modTask_of_get {t : AuditTask} (h : s.audit.tasks.get x = some t) (f : AuditTask → AuditTask) :
    s.modTask x f = s.setTask x (some (f t)) := by
  rw [modTask_tasks, h]
  rfl

theorem stopTask_idle {t : AuditTask} (h : s.audit.tasks.get x = some t) (hsc : t.scan = none) : stopTask x t s =
    if t.origin = .auto then reportAutoEnd x false (s.setTask x (some { t with state := .stopped }))
    else s.setTask x (some { t with state := .stopped }) := by
  have ht : ({ t with state := .stopped, scan := none } : AuditTask) = { t with state := .stopped } := by rw [← hsc]
  unfold stopTask
  rw [hsc]
  simp only [modTask_of_get h, ht]

theorem stopTask_scanning {t : AuditTask} {c : Nat} {sc : Scan} (h : s.audit.tasks.get x = some t) (hsc : t.scan = some c)
    (hp : (s.ports.get x).scan = some sc) (hu : sc.user = .audit) {u : State}
    (hu' : u = (s.setPort x { s.ports.get x with scan := none }).setTask x (some { t with state := .stopped, scan := none })) :
    stopTask x t s = if t.origin = .auto then reportAutoEnd x false u else u := by
  have hd : discardScan x s = (s.setPort x { s.ports.get x with scan := none }).setTask x (some { t with scan := none }) := by
    rw [discardScan_eq, discardedTask_audit hp hu, h]
    rfl
  have hmod : (discardScan x s).modTask x (fun t => { t with state := .stopped, scan := none }) = u := by
    rw [hd, modTask_tasks, setTask_audit, Quad.get_set_same, Quad.set_set, hu']
    rfl
  unfold stopTask
  rw [hsc]
  simp only [hmod]

/-! ## The end of an auto task (R157) -/

theorem reportAutoEnd_none (h : s.groupOf x = none) (clean : Bool) : reportAutoEnd x clean s = s := by
  unfold reportAutoEnd
  rw [h]

theorem reportAutoEnd_eq {g : Index} {grp : Group} (h : s.groupOf x = some g) (hg : s.groups.get g = some grp) (clean : Bool) :
    reportAutoEnd x clean s = s.setGroup g (some (grp.leaveWatch x clean)) := by
  unfold reportAutoEnd
  rw [h]
  exact modGroup_of_get hg _

theorem leaveWatch_none {grp : Group} (h : grp.watch = none) (clean : Bool) : grp.leaveWatch x clean = grp := by
  unfold Group.leaveWatch
  rw [h]

theorem leaveWatch_outside {grp : Group} {w : Watch} (h : grp.watch = some w) (hx : x ∉ w.carousels) (clean : Bool) :
    grp.leaveWatch x clean = grp := by
  unfold Group.leaveWatch
  rw [h]
  exact if_neg fun hc => hx (List.contains_iff_mem.mp hc)

theorem leaveWatch_inside {grp : Group} {w : Watch} (h : grp.watch = some w) (hx : x ∈ w.carousels) (clean : Bool) :
    grp.leaveWatch x clean = if w.carousels.filter (· != x) = [] then
        if (w.spoiled || !clean) = true then { grp with watch := none }
        else { grp with watch := none, suspect := false, deviant := 0 }
      else { grp with watch := some { carousels := w.carousels.filter (· != x), spoiled := w.spoiled || !clean } } := by
  unfold Group.leaveWatch
  rw [h]
  refine (if_pos (List.contains_iff_mem.mpr hx)).trans (if_congr List.isEmpty_iff rfl rfl)

end Sys2Proof.Machine

/-! SUPPORT. A scan's judgements taken one level after another: the slots, the log entries and what stays. -/

namespace Sys2Proof.Machine

open Sys2Proof

variable {s w : State} {x : Index}

/-! ## One level (R144, R145) -/

theorem judgeLevel_skipped {check : Check} {sl : Slot} {r : LevelReport} (h : sl.reservation ≠ .none ∨ sl.condition = .blocked) :
    judgeLevel check sl r = .skipped := by
  unfold judgeLevel
  exact if_pos h

/-- The judgement of a level by its slot record. -/
def levelVerdict (s : State) (x : Index) (check : Check) (c : Nat) (e : LevelEntry) : Verdict :=
  ((s.slot? x c e.level).map fun sl => judgeLevel check sl (e.report.getD .noReport)).getD .skipped

/-- A level as judged. -/
def judgedLevel (s : State) (x : Index) (check : Check) (c : Nat) (e : LevelEntry) : Judged where
  level := e.level
  report := e.report.getD .noReport
  verdict := levelVerdict s x check c e

theorem judgeScan_eq (s : State) (x : Index) (check : Check) (sc : Scan) :
    judgeScan s x check sc = sc.levels.map (judgedLevel s x check sc.carrier) := by
  unfold judgeScan
  refine List.map_congr_left fun e _ => ?_
  unfold judgedLevel levelVerdict
  cases s.slot? x sc.carrier e.level <;> rfl

/-- The kind of a mismatch. -/
def Verdict.kind? : Verdict → Option Finding
  | .mismatch kind => some kind
  | _ => none

/-- A mismatch with its slot record and kind. -/
def levelMismatch (s : State) (x : Index) (check : Check) (c : Nat) (e : LevelEntry) : Option (LevelEntry × Slot × Finding) :=
  (s.slot? x c e.level).bind fun sl => (judgeLevel check sl (e.report.getD .noReport)).kind?.map fun kind => (e, sl, kind)

theorem isMismatch_judgedLevel (s : State) (x : Index) (check : Check) (c : Nat) (e : LevelEntry) :
    (judgedLevel s x check c e).isMismatch = (levelMismatch s x check c e).isSome := by
  unfold Judged.isMismatch judgedLevel levelVerdict levelMismatch
  cases s.slot? x c e.level with
  | none => rfl
  | some sl =>
    rw [Option.map_some, Option.getD_some, Option.bind_some, Option.isSome_map]
    cases judgeLevel check sl (e.report.getD .noReport) <;> rfl

theorem mismatches_length (s : State) (x : Index) (check : Check) (sc : Scan) :
    ((judgeScan s x check sc).filter Judged.isMismatch).length =
      (sc.levels.filterMap (levelMismatch s x check sc.carrier)).length := by
  rw [judgeScan_eq, List.filter_map, List.length_map]
  generalize sc.levels = es
  induction es with
  | nil => rfl
  | cons e es ih =>
    have h := isMismatch_judgedLevel s x check sc.carrier e
    rw [List.filter_cons, List.filterMap_cons]
    change ((judgedLevel s x check sc.carrier e).isMismatch = _) at h
    cases hm : levelMismatch s x check sc.carrier e with
    | none =>
      rw [hm] at h
      simp only [Function.comp_apply, h]
      exact ih
    | some m =>
      rw [hm] at h
      simp only [Function.comp_apply, h]
      exact congrArg (· + 1) ih

/-- The entry of the log that a mismatch makes, the `i`th of its scan (R146). -/
def mismatchEntry (x : Index) (c gen counter : Nat) (check : Check) (i : Nat) (m : LevelEntry × Slot × Finding) : LogEntry :=
  { number := min (counter + i + 1) 4294967295, carousel := x, carrier := c, level := m.1.level, kind := m.2.2,
    recordedTag := if m.2.1.content = .held then some m.2.1.tag else none,
    readTag := readTagOf check (m.1.report.getD .noReport), generation := gen }

/-- A slot after its judgement (R145). -/
def Slot.judged (sl : Slot) (gen : Nat) : Verdict → Slot
  | .skipped => sl
  | .matching => { sl with condition := .clear, stamp := gen }
  | .mismatch kind => { sl with condition := .suspect, finding := some kind }

/-- A judgement taken changes the carousels and the log. -/
theorem takeJudgement_record (x : Index) (c gen : Nat) (check : Check) (s : State) (j : Judged) : ∃ cs log n,
    takeJudgement x c gen check s j = { s with carousels := cs, audit := { s.audit with log := log, entryCounter := n } } := by
  unfold takeJudgement
  split
  · exact ⟨s.carousels, s.audit.log, s.audit.entryCounter, rfl⟩
  · unfold State.modSlot
    split
    · exact ⟨_, s.audit.log, s.audit.entryCounter, rfl⟩
    · exact ⟨s.carousels, s.audit.log, s.audit.entryCounter, rfl⟩
  · split
    · exact ⟨s.carousels, s.audit.log, s.audit.entryCounter, rfl⟩
    · exact ⟨_, _, _, rfl⟩

theorem slot?_setSlot (s : State) (x : Index) (c l : Nat) (sl : Slot) (y : Index) (c' l' : Nat) :
    (s.setSlot x c l sl).slot? y c' l' =
      if y = x ∧ c' = c ∧ l' = l then (s.slot? x c l).map fun _ => sl else s.slot? y c' l' := by
  by_cases hy : y = x
  · subst hy
    rw [slot?_eq, setSlot_carousels, Quad.get_set_same]
    change ((s.carousels.get y).map.setSlot c l sl).slot? c' l' = _
    rw [setSlot_slot?]
    by_cases hcl : c' = c ∧ l' = l
    · obtain ⟨rfl, rfl⟩ := hcl
      simp [slot?_eq]
    · have hne : ¬ (c = c' ∧ l = l') := fun h => hcl ⟨h.1.symm, h.2.symm⟩
      simp only [hne, hcl, and_false, if_false, slot?_eq]
      exact Option.map_id'
  · rw [if_neg fun h => hy h.1, slot?_eq, slot?_eq, setSlot_carousels, Quad.get_set_ne _ _ hy]

theorem takeJudgement_slot? (x : Index) (c gen : Nat) (check : Check) (s : State) (j : Judged) (y : Index) (c' l' : Nat) :
    (takeJudgement x c gen check s j).slot? y c' l' = if y = x ∧ c' = c ∧ l' = j.level then
      (s.slot? x c j.level).map fun sl => sl.judged s.audit.generation j.verdict else s.slot? y c' l' := by
  have same : ∀ sl, s.slot? x c j.level = some sl → ∀ sl' : Slot, (s.setSlot x c j.level sl').slot? y c' l' =
      if y = x ∧ c' = c ∧ l' = j.level then some sl' else s.slot? y c' l' := fun sl h sl' => by
    rw [slot?_setSlot, h]
    rfl
  unfold takeJudgement
  cases hs : s.slot? x c j.level with
  | none =>
    have hnone : s.slot? y c' l' = if y = x ∧ c' = c ∧ l' = j.level then none else s.slot? y c' l' := by
      split
      · rename_i h
        obtain ⟨rfl, rfl, rfl⟩ := h
        exact hs
      · rfl
    cases j.verdict with
    | matching =>
      change (s.modSlot x c j.level _).slot? y c' l' = _
      unfold State.modSlot
      rw [hs]
      exact hnone
    | _ => exact hnone
  | some sl =>
    rw [Option.map_some]
    cases j.verdict with
    | skipped =>
      change s.slot? y c' l' = if _ then some sl else _
      split
      · rename_i h
        obtain ⟨rfl, rfl, rfl⟩ := h
        exact hs
      · rfl
    | matching =>
      change (s.modSlot x c j.level _).slot? y c' l' = _
      rw [modSlot_of_get hs]
      exact same sl hs _
    | mismatch kind => exact same sl hs _

theorem takeJudgement_audit_same {c gen : Nat} {check : Check} {j : Judged} (h : j.verdict.kind? = none) (w : State) :
    (takeJudgement x c gen check w j).audit = w.audit := by
  unfold takeJudgement
  cases hv : j.verdict with
  | skipped => rfl
  | matching =>
    change (w.modSlot x c j.level _).audit = _
    unfold State.modSlot
    cases w.slot? x c j.level <;> rfl
  | mismatch kind =>
    rw [hv] at h
    cases h

theorem takeJudgement_audit_mismatch {c gen : Nat} {check : Check} {j : Judged} {kind : Finding} {sl : Slot}
    (hv : j.verdict = .mismatch kind) (hs : w.slot? x c j.level = some sl) :
    (takeJudgement x c gen check w j).audit = { w.audit with
      log := w.audit.log ++ [{
        number := countUp w.audit.entryCounter, carousel := x, carrier := c, level := j.level, kind := kind
        recordedTag := if sl.content = .held then some sl.tag else none
        readTag := readTagOf check j.report, generation := gen }]
      entryCounter := countUp w.audit.entryCounter } := by
  unfold takeJudgement
  rw [hv]
  simp only [hs]
  rfl

theorem levelMismatch_none {check : Check} {c : Nat} {e : LevelEntry} (h : levelMismatch s x check c e = none) :
    (levelVerdict s x check c e).kind? = none := by
  unfold levelMismatch at h
  unfold levelVerdict
  cases hs : s.slot? x c e.level with
  | none => rfl
  | some sl =>
    rw [hs, Option.bind_some, Option.map_eq_none_iff] at h
    exact h

theorem levelMismatch_some {check : Check} {c : Nat} {e : LevelEntry} {m : LevelEntry × Slot × Finding}
    (h : levelMismatch s x check c e = some m) :
    m.1 = e ∧ s.slot? x c e.level = some m.2.1 ∧ levelVerdict s x check c e = .mismatch m.2.2 := by
  unfold levelMismatch at h
  unfold levelVerdict
  cases hs : s.slot? x c e.level with
  | none =>
    rw [hs] at h
    cases h
  | some sl =>
    rw [hs, Option.bind_some, Option.map_eq_some_iff] at h
    obtain ⟨kind, hk, rfl⟩ := h
    refine ⟨rfl, rfl, ?_⟩
    rw [Option.map_some, Option.getD_some]
    cases hj : judgeLevel check sl (e.report.getD .noReport) with
    | mismatch k =>
      rw [hj] at hk
      cases hk
      rfl
    | _ =>
      rw [hj] at hk
      cases hk

/-! ## All levels (R145) -/

/-- The judgements of levels, as the records stood before, taken one after another. -/
def takeLevels (x : Index) (c gen : Nat) (check : Check) (s : State) (es : List LevelEntry) (w : State) : State :=
  es.foldl (fun w e => takeJudgement x c gen check w (judgedLevel s x check c e)) w

theorem takeLevels_judgeScan (x : Index) (gen : Nat) (check : Check) (sc : Scan) (s : State) :
    (judgeScan s x check sc).foldl (takeJudgement x sc.carrier gen check) s = takeLevels x sc.carrier gen check s sc.levels s := by
  rw [judgeScan_eq, List.foldl_map]
  rfl

theorem takeLevels_cons (x : Index) (c gen : Nat) (check : Check) (s : State) (e : LevelEntry) (es : List LevelEntry) (w : State) :
    takeLevels x c gen check s (e :: es) w =
      takeLevels x c gen check s es (takeJudgement x c gen check w (judgedLevel s x check c e)) := rfl

theorem takeLevels_record (x : Index) (c gen : Nat) (check : Check) (s : State) (es : List LevelEntry) (w : State) : ∃ cs log n,
    takeLevels x c gen check s es w = { w with carousels := cs, audit := { w.audit with log := log, entryCounter := n } } := by
  induction es generalizing w with
  | nil => exact ⟨w.carousels, w.audit.log, w.audit.entryCounter, rfl⟩
  | cons e es ih =>
    obtain ⟨cs, log, n, h⟩ := ih (takeJudgement x c gen check w (judgedLevel s x check c e))
    obtain ⟨cs', log', n', h'⟩ := takeJudgement_record x c gen check w (judgedLevel s x check c e)
    refine ⟨cs, log, n, ?_⟩
    rw [takeLevels_cons, h, h']

/-- A slot that no level of the scan names keeps its record. -/
theorem takeLevels_slot?_ne {c gen : Nat} {check : Check} {es : List LevelEntry} {y : Index} {c' l' : Nat}
    (h : y ≠ x ∨ c' ≠ c ∨ l' ∉ es.map LevelEntry.level) (w : State) :
    (takeLevels x c gen check s es w).slot? y c' l' = w.slot? y c' l' := by
  induction es generalizing w with
  | nil => rfl
  | cons e es ih =>
    have hrest : y ≠ x ∨ c' ≠ c ∨ l' ∉ es.map LevelEntry.level :=
      h.imp_right fun h => h.imp_right fun h hm => h (List.mem_cons_of_mem _ hm)
    rw [takeLevels_cons, ih hrest, takeJudgement_slot?, if_neg]
    rintro ⟨hy, hc, hl⟩
    rcases h with h | h | h
    · exact h hy
    · exact h hc
    · exact h (by rw [hl]; exact List.mem_cons_self)

theorem takeJudgement_generation (x : Index) (c gen : Nat) (check : Check) (s : State) (j : Judged) :
    (takeJudgement x c gen check s j).audit.generation = s.audit.generation := by
  obtain ⟨cs, log, n, h⟩ := takeJudgement_record x c gen check s j
  rw [h]

/-- After a level is taken the records of the levels that follow stand. -/
theorem takeJudgement_keeps_rest {c gen : Nat} {check : Check} {e : LevelEntry} {es : List LevelEntry}
    (hn : ((e :: es).map LevelEntry.level).Nodup) (w : State) (e' : LevelEntry) (he : e' ∈ es) :
    (takeJudgement x c gen check w (judgedLevel s x check c e)).slot? x c e'.level = w.slot? x c e'.level := by
  rw [takeJudgement_slot?, if_neg]
  rintro ⟨-, -, hl⟩
  rw [List.map_cons, List.nodup_cons] at hn
  refine hn.1 ?_
  change e'.level = e.level at hl
  rw [← hl]
  exact List.mem_map_of_mem he

/-- A level's slot has its own judgement. -/
theorem takeLevels_slot?_mem {c gen : Nat} {check : Check} {es : List LevelEntry} (hn : (es.map LevelEntry.level).Nodup)
    {e : LevelEntry} (he : e ∈ es) {sl : Slot} (w : State) (hw : w.slot? x c e.level = some sl) :
    (takeLevels x c gen check s es w).slot? x c e.level = some (sl.judged w.audit.generation (levelVerdict s x check c e)) := by
  induction es generalizing w with
  | nil => cases he
  | cons e' es ih =>
    rw [takeLevels_cons]
    have hrest := (List.nodup_cons.mp hn)
    rcases List.mem_cons.mp he with rfl | he
    · rw [takeLevels_slot?_ne (.inr (.inr hrest.1)), takeJudgement_slot?, if_pos ⟨rfl, rfl, rfl⟩]
      change (w.slot? x c e.level).map _ = _
      rw [hw]
      rfl
    · rw [ih hrest.2 he _ ((takeJudgement_keeps_rest hn w e he).trans hw), takeJudgement_generation]

/-- One counted and then `n`, up to the greatest value. -/
theorem counted_again (e n : Nat) : (if n = 0 then min (e + 1) 4294967295 else min (min (e + 1) 4294967295 + n) 4294967295) =
    if n + 1 = 0 then e else min (e + (n + 1)) 4294967295 := by
  rw [if_neg (Nat.succ_ne_zero n)]
  split <;> omega

/-- The log gains one entry for each mismatch, in level order, and the entry counter counts them. -/
theorem takeLevels_log {c gen : Nat} {check : Check} {es : List LevelEntry} (hn : (es.map LevelEntry.level).Nodup) (w : State)
    (hw : ∀ e ∈ es, w.slot? x c e.level = s.slot? x c e.level) :
    (takeLevels x c gen check s es w).audit.log = w.audit.log
        ++ (es.filterMap (levelMismatch s x check c)).mapIdx (mismatchEntry x c gen w.audit.entryCounter check)
    ∧ (takeLevels x c gen check s es w).audit.entryCounter =
        if (es.filterMap (levelMismatch s x check c)).length = 0 then w.audit.entryCounter
        else min (w.audit.entryCounter + (es.filterMap (levelMismatch s x check c)).length) 4294967295 := by
  induction es generalizing w with
  | nil => exact ⟨(List.append_nil _).symm, rfl⟩
  | cons e es ih =>
    have hrest := takeJudgement_keeps_rest (s := s) (gen := gen) (check := check) (c := c) (x := x) hn w
    obtain ⟨hlog, hcount⟩ := ih (List.nodup_cons.mp hn).2 (takeJudgement x c gen check w (judgedLevel s x check c e))
      fun e' he' => (hrest e' he').trans (hw e' (List.mem_cons_of_mem _ he'))
    rw [takeLevels_cons, hlog, hcount, List.filterMap_cons]
    cases hm : levelMismatch s x check c e with
    | none =>
      rw [takeJudgement_audit_same (j := judgedLevel s x check c e) (levelMismatch_none hm)]
      exact ⟨rfl, rfl⟩
    | some m =>
      obtain ⟨rfl, hs, hv⟩ := levelMismatch_some hm
      rw [takeJudgement_audit_mismatch (j := judgedLevel s x check c m.1) hv ((hw m.1 List.mem_cons_self).trans hs), countUp_eq]
      refine ⟨?_, ?_⟩
      · rw [List.append_assoc]
        refine congrArg (w.audit.log ++ ·) ?_
        change _ = List.mapIdx _ (m :: _)
        rw [List.mapIdx_cons]
        refine congrArg₂ List.cons rfl (congrArg (fun f => List.mapIdx f _) (funext fun i => funext fun m' => ?_))
        have hnum : min (min (w.audit.entryCounter + 1) 4294967295 + i + 1) 4294967295 =
            min (w.audit.entryCounter + (i + 1) + 1) 4294967295 := by omega
        unfold mismatchEntry
        rw [hnum]
      · exact counted_again _ _

end Sys2Proof.Machine

/-! SUPPORT. The end of a comparison, field by field. -/

namespace Sys2Proof.Machine

open Sys2Proof

variable {s : State} {x : Index}

/-- An auto task's end changes the groups only. -/
theorem reportAutoEnd_record (x : Index) (clean : Bool) (s : State) :
    reportAutoEnd x clean s = { s with groups := (reportAutoEnd x clean s).groups } := by
  unfold reportAutoEnd
  cases s.groupOf x with
  | none => rfl
  | some g =>
    dsimp only
    rw [modGroup_eq]

/-- An auto task's end changes the groups by the groups alone. -/
theorem reportAutoEnd_groups_congr {t : State} (h : t.groups = s.groups) (clean : Bool) :
    (reportAutoEnd x clean t).groups = (reportAutoEnd x clean s).groups := by
  have hgroup : t.groupOf x = s.groupOf x := groupOf_congr (fun g => by rw [h]) x
  unfold reportAutoEnd
  rw [hgroup]
  cases s.groupOf x with
  | none => exact h
  | some g =>
    dsimp only
    rw [modGroup_eq, modGroup_eq, h]

/-- What follows the judgements of a scan: the task's record, the events and the report of an auto task's end. -/
def endComparison (x : Index) (t : AuditTask) (n : Nat) (w : State) : State :=
  let w := w.setTask x (some t)
  let w := if n = 0 then w else raiseEvent .discrepancy w
  if t.state = .done then
    let w := raiseEvent .auditDone w
    if t.origin = .auto then reportAutoEnd x (t.findings == 0) w else w
  else w

theorem auditComparison_held {sc : Scan} {t : AuditTask} (ht : s.audit.tasks.get x = some t)
    (h : 32 - s.audit.log.length < ((judgeScan s x t.check sc).filter Judged.isMismatch).length) :
    auditComparison x sc s = s.setTask x (some { t with scan := none, state := .heldLog }) := by
  unfold auditComparison
  rw [ht]
  refine (if_pos (by exact h)).trans (modTask_of_get ht _)

theorem auditComparison_taken {sc : Scan} {t : AuditTask} {n : Nat} (ht : s.audit.tasks.get x = some t)
    (hn : n = ((judgeScan s x t.check sc).filter Judged.isMismatch).length) (h : n ≤ 32 - s.audit.log.length) :
    auditComparison x sc s = endComparison x (t.compared sc.carrier n) n
      (takeLevels x sc.carrier t.generation t.check s sc.levels s) := by
  subst hn
  unfold auditComparison
  rw [ht]
  refine (if_neg (by exact Nat.not_lt.mpr h)).trans ?_
  rw [takeLevels_judgeScan]
  rfl

/-- The end of a comparison changes the flags, the groups and the task. -/
theorem endComparison_record (x : Index) (t : AuditTask) (n : Nat) (w : State) : ∃ flags,
    endComparison x t n w = { w with
      link := { w.link with flags := flags }
      groups := if t.state = .done ∧ t.origin = .auto then (reportAutoEnd x (t.findings == 0) w).groups else w.groups
      audit := { w.audit with tasks := w.audit.tasks.set x (some t) } }
    ∧ (w.link.sampled = true → ∀ e : Event, flags.getLsbD (eventBit e) =
        (w.flagSet e || (e == .discrepancy && n != 0) || (e == .auditDone && t.state == .done))) := by
  have raised : ∀ (w : State) (n : Nat), ∃ flags, (if n = 0 then w else raiseEvent .discrepancy w) =
      { w with link := { w.link with flags := flags } }
      ∧ (w.link.sampled = true → ∀ e : Event, flags.getLsbD (eventBit e) = (w.flagSet e || (e == .discrepancy && n != 0))) :=
    fun w n => by
      by_cases hn : n = 0
      · subst hn
        exact ⟨w.link.flags, rfl, fun _ e => by rw [bne_self_eq_false, Bool.and_false, Bool.or_false]; rfl⟩
      · refine ⟨(raiseEvent .discrepancy w).link.flags, if_neg hn, fun hs e => ?_⟩
        rw [bne_iff_ne.mpr hn, Bool.and_true]
        exact raiseEvent_flagSet hs .discrepancy e
  obtain ⟨flags, hr, hf⟩ := raised (w.setTask x (some t)) n
  unfold endComparison
  dsimp only
  rw [hr]
  by_cases hd : t.state = .done
  · have hflag : ∀ e, w.link.sampled = true →
        (raiseEvent .auditDone ({ w.setTask x (some t) with link := { w.link with flags := flags } } : State)).flagSet e =
        (w.flagSet e || (e == .discrepancy && n != 0) || (e == .auditDone && t.state == .done)) := fun e hs => by
      rw [raiseEvent_flagSet (by exact hs), hd, beq_self_eq_true, Bool.and_true]
      exact congrArg (· || _) (hf hs e)
    rw [if_pos hd]
    refine ⟨_, ?_, fun hs e => hflag e hs⟩
    by_cases ho : t.origin = .auto
    · rw [if_pos ho, if_pos ⟨hd, ho⟩, reportAutoEnd_record]
      have hg := reportAutoEnd_groups_congr (s := w) (x := x) (t := raiseEvent .auditDone
        ({ w.setTask x (some t) with link := { w.link with flags := flags } } : State)) rfl (t.findings == 0)
      refine (congrArg (fun gs => ({ raiseEvent .auditDone
        ({ w.setTask x (some t) with link := { w.link with flags := flags } } : State) with groups := gs } : State)) hg).trans rfl
    · rw [if_neg ho, if_neg fun h => ho h.2]
      rfl
  · rw [if_neg hd, if_neg fun h => hd h.1]
    refine ⟨flags, rfl, fun hs e => ?_⟩
    rw [beq_eq_false_iff_ne.mpr hd, Bool.and_false, Bool.or_false]
    exact hf hs e

end Sys2Proof.Machine

namespace Sys2Proof.Certificates

open Sys2Proof Sys2Proof.Machine

/-- Settles O50: the checks in order, the list by span or by age, and the task stopped. -/
theorem auditTasksStartAndStop : Obligations.AuditTasksStartAndStop := by
  refine ⟨fun s q hs hx => ⟨fun hq => ?startRange, fun hq => ?stopRange⟩, fun s q r x hs hq hr hx => ?start,
    fun s x b hs hb => ⟨fun hn => ?noTask, fun t ht => ⟨fun hst => ?ended, fun hst hsc => ⟨_, rfl, ?idle⟩,
      fun c sc hst hsc hp hu => ⟨_, rfl, ?scanning⟩⟩⟩⟩
  case startRange =>
    have hc : 4 ≤ (readAudit q).carousel := hx
    rw [exec_auditStart hs hq]
    unfold runAuditStart
    dsimp only
    rw [withCarousel_of_le hc, answer_refuse]
  case stopRange =>
    rw [exec_auditStop hs hq]
    unfold runAuditStop
    rw [withCarousel_of_le hx, answer_refuse]
  case noTask =>
    subst hb
    rw [exec_auditStop hs rfl, runAuditStop_none (s := s.heard) hn, answer_refuse]
  case ended =>
    subst hb
    have hclosed : ¬ t.isOpen = true := fun h => by
      rcases isOpen_iff.mp h with h | h <;> rw [h] at hst <;> simp at hst
    rw [exec_auditStop hs rfl, runAuditStop_some (s := s.heard) ht, if_neg hclosed, answer_refuse]
  case idle =>
    subst hb
    rw [exec_auditStop hs rfl, runAuditStop_some (s := s.heard) ht, if_pos (isOpen_iff.mpr hst),
      stopTask_idle (s := s.heard) ht hsc, answer_ack]
    exact ⟨fun ho => by rw [if_neg (by rw [ho]; decide)]; rfl, fun ho => by rw [if_pos ho]; rfl⟩
  case scanning =>
    subst hb
    rw [exec_auditStop hs rfl, runAuditStop_some (s := s.heard) ht, if_pos (isOpen_iff.mpr (.inl hst)),
      stopTask_scanning (s := s.heard) ht hsc hp hu rfl, answer_ack]
    exact ⟨fun ho => by rw [if_neg (by rw [ho]; decide)]; rfl, fun ho => by rw [if_pos ho]; rfl⟩
  case start =>
    subst hr
    rw [exec_auditStart hs hq, runAuditStart_at (s := s.heard) hx]
    generalize readAudit q = r at *
    have refused : ∀ {why : Reason} {detail : Nat} (b : State × Answer),
        firstFailure (auditChecks s.heard x r) = some (.nak why detail) →
        Host.Outcome.next (φ := Fault) (ρ := Refusal) (answer 0x48#8 (checked s.heard (auditChecks s.heard x r) b)) =
          .next (s.heard.refusing 0x48#8 why detail) := fun b h => by rw [checked_fail _ h, answer_refuse]
    refine ⟨fun h1 => refused _ ?_, fun h1 => ⟨fun h2 => refused _ ?_, fun h2 => ⟨fun h3 => refused _ ?_, fun h3 =>
      ⟨fun h4 => refused _ ?_, fun h4 => ⟨fun h5 h5' => refused _ ?_, fun h5 => ⟨fun h6 => refused _ ?_, fun h6 => ?_⟩⟩⟩⟩⟩⟩
    · have c1 : decide (r.selection ≤ 1) = false := decide_eq_false (by omega)
      simp only [auditChecks, c1, firstFailure_cons_false]
    all_goals have c1 : decide (r.selection ≤ 1) = true := decide_eq_true h1
    · have c2 : decide (1 ≤ r.count) = false := decide_eq_false (by omega)
      simp only [auditChecks, c1, c2, firstFailure_cons_true, firstFailure_cons_false]
    all_goals have c2 : decide (1 ≤ r.count) = true := decide_eq_true h2
    · have c3 : decide (r.check ≤ 1) = false := decide_eq_false (by omega)
      simp only [auditChecks, c1, c2, c3, firstFailure_cons_true, firstFailure_cons_false]
    all_goals have c3 : decide (r.check ≤ 1) = true := decide_eq_true h3
    · have c4 : (s.heard.serviceGroup x).isSome = false := Option.isSome_eq_false_iff.mpr (Option.isNone_iff_eq_none.mpr h4)
      simp only [auditChecks, c1, c2, c3, c4, firstFailure_cons_true, firstFailure_cons_false]
    all_goals have c4 : (s.heard.serviceGroup x).isSome = true := Option.isSome_iff_ne_none.mpr h4
    · have c5 : (r.selection == 1 || decide (r.first < s.heard.carriersOf x)) = false := by
        have hout : ¬ r.first < s.heard.carriersOf x := Nat.not_lt.mpr h5'
        rw [h5, decide_eq_false hout]
        rfl
      simp only [auditChecks, c1, c2, c3, c4, c5, firstFailure_cons_true, firstFailure_cons_false]
    all_goals have c5 : (r.selection == 1 || decide (r.first < s.heard.carriersOf x)) = true := spanFirst_ok h1 h5
    · have c6 : (!s.heard.taskOpen x) = false := by
        rw [show s.heard.taskOpen x = true from h6]
        rfl
      simp only [auditChecks, c1, c2, c3, c4, c5, c6, firstFailure_cons_true, firstFailure_cons_false]
    · have hpass : firstFailure (auditChecks s.heard x r) = none := by
        have c6 : (!s.heard.taskOpen x) = true := by
          rw [show s.heard.taskOpen x = false from h6]
          rfl
        simp only [auditChecks, c1, c2, c3, c4, c5, c6, firstFailure_cons_true]
        rfl
      have hsel : ∀ h : r.selection = 1, (startedTask s.heard x r).list =
          oldestList ((List.range (s.carriersOf x)).map (s.carrierSlots x)) r.count := fun h => by
        unfold startedTask AuditRequest.sel
        rw [if_neg (by omega)]
        rfl
      refine ⟨_, startedTask s.heard x r, _, rfl, rfl, rfl, countUp_eq _, rfl, rfl, rfl, rfl, fun h => ?_, fun h before hb => ?_,
        rfl, ?_⟩
      · unfold startedTask AuditRequest.sel
        rw [if_pos h]
        rfl
      · have hbefore : before = OlderThan (s.carrierSlots x) := funext fun c => funext fun d => propext (hb c d)
        rw [hbefore, hsel h]
        exact oldestList_spec _ _ _
      · rw [checked_pass (firstFailure_none_iff.mp hpass), answer_ack, ← countUp_eq]
        rfl

/-- Settles O52: one level, then all of a scan with its log entries and flags, and the watch that an auto task leaves. -/
theorem scanComparedWithRecords : Obligations.ScanComparedWithRecords := by
  refine ⟨fun check sl r => ?level, fun s x sc t n ht hn => ⟨fun hroom => auditComparison_held ht (hn ▸ hroom),
    fun hroom hnodup => ?scan⟩, fun s x clean => ⟨fun h => reportAutoEnd_none h clean, fun g grp hx hg => ?watch⟩⟩
  case level =>
    by_cases hskip : sl.reservation ≠ .none ∨ sl.condition = .blocked
    · rw [judgeLevel_skipped hskip, if_pos hskip]
    · unfold judgeLevel
      rw [if_neg hskip, if_neg hskip]
      cases hc : sl.content with
      | empty => cases r <;> rfl
      | held =>
        cases check with
        | presence => cases r <;> rfl
        | tag =>
          cases r with
          | tag tg =>
            by_cases htag : tg = sl.tag
            · simp [htag]
            · simp [htag]
          | _ => rfl
  case scan =>
    obtain ⟨cs, log, counter, hrec⟩ := takeLevels_record x sc.carrier t.generation t.check s sc.levels s
    obtain ⟨hlog, hcount⟩ := takeLevels_log (s := s) (x := x) (c := sc.carrier) (gen := t.generation) (check := t.check)
      hnodup s fun e _ => rfl
    obtain ⟨flags, hend, hflags⟩ := endComparison_record x (t.compared sc.carrier n) n
      (takeLevels x sc.carrier t.generation t.check s sc.levels s)
    have hlen : n = (sc.levels.filterMap (levelMismatch s x t.check sc.carrier)).length := hn.trans (mismatches_length s x t.check sc)
    have hslot : ∀ y c l, (endComparison x (t.compared sc.carrier n) n
        (takeLevels x sc.carrier t.generation t.check s sc.levels s)).slot? y c l =
        (takeLevels x sc.carrier t.generation t.check s sc.levels s).slot? y c l := fun y c l => by
      rw [hend]
      rfl
    refine ⟨endComparison x (t.compared sc.carrier n) n (takeLevels x sc.carrier t.generation t.check s sc.levels s),
      t.compared sc.carrier n, (sc.levels.filterMap (levelMismatch s x t.check sc.carrier)).mapIdx
        (mismatchEntry x sc.carrier t.generation s.audit.entryCounter t.check),
      auditComparison_taken ht hn hroom, ?record, ?audit, ?length, fun i e sl kind hi => ?entry, fun e he sl hsl => ?named,
      fun y c l hne => (hslot y c l).trans (takeLevels_slot?_ne hne s), fun hs e => ?flag, ?groups, ?_, ?_, ?_, ?_, ?_⟩
    case record =>
      unfold AuditTask.compared
      dsimp only
      rw [if_congr List.isEmpty_iff rfl rfl]
    case audit =>
      rw [hend, ← hlog, hlen, ← hcount, hrec]
    case length => rw [List.length_mapIdx, hlen]
    case entry =>
      have hsame : (sc.levels.filterMap (levelMismatch s x t.check sc.carrier))[i]? = some (e, sl, kind) := by
        rw [← hi]
        refine congrArg (fun f => (sc.levels.filterMap f)[i]?) (funext fun e => ?_)
        unfold levelMismatch
        cases s.slot? x sc.carrier e.level with
        | none => rfl
        | some sl =>
          dsimp only [Option.bind_some]
          cases judgeLevel t.check sl (e.report.getD .noReport) <;> rfl
      rw [List.getElem?_mapIdx, hsame, Option.map_some]
      unfold mismatchEntry readTagOf
      cases t.check with
      | presence => rfl
      | tag =>
        cases hrep : e.report with
        | none => simp only [hrep, Option.getD_none]
        | some rep => cases rep <;> simp only [hrep, Option.getD_some]
    case named =>
      rw [hslot, takeLevels_slot?_mem hnodup he s hsl]
      unfold levelVerdict
      rw [hsl, Option.map_some, Option.getD_some]
      cases judgeLevel t.check sl (e.report.getD .noReport) <;> rfl
    case flag =>
      have hlink : (takeLevels x sc.carrier t.generation t.check s sc.levels s).link = s.link := by rw [hrec]
      have hflag := hflags (by rw [hlink]; exact hs) e
      unfold State.flagSet at hflag ⊢
      rw [hlink] at hflag
      rw [hend]
      exact hflag
    case groups =>
      have hgroups : (takeLevels x sc.carrier t.generation t.check s sc.levels s).groups = s.groups := by rw [hrec]
      rw [hend, hgroups, ← reportAutoEnd_groups_congr hgroups]
      rfl
    all_goals rw [hend, hrec]
  case watch =>
    refine ⟨fun hw => ?_, fun w rest hw hrest => ⟨fun hx' => ?_, fun hx' => ?_⟩⟩
    · rw [reportAutoEnd_eq hx hg, leaveWatch_none hw, setGroup_self _ hg]
    · rw [reportAutoEnd_eq hx hg, leaveWatch_outside hw hx', setGroup_self _ hg]
    · subst hrest
      rw [reportAutoEnd_eq hx hg, leaveWatch_inside hw hx']
      refine ⟨fun h => by rw [if_neg h], fun h hsp hcl => ?_, fun h hsp => ?_⟩
      · rw [if_pos h, hsp, hcl]
        rfl
      · rw [if_pos h, if_pos]
        rcases hsp with h | h <;> simp [h]

end Sys2Proof.Certificates

/-! SUPPORT. Fields read back from the bytes they were written to, and request payloads whole. -/

namespace Sys2Proof.Machine

open Sys2Proof

/-! ## Fields in a row (R173) -/

variable {n : Nat} {p : List Byte}

theorem byteAt_append_right (a p : List Byte) (i : Nat) : byteAt (a ++ p) (a.length + i) = byteAt p i := by
  unfold byteAt
  rw [List.getD_append_right _ _ _ _ (Nat.le_add_right _ _), Nat.add_sub_cancel_left]

theorem wordAt_append_right (a p : List Byte) (i : Nat) : wordAt (a ++ p) (a.length + i) = wordAt p i := by
  unfold wordAt
  rw [Nat.add_assoc, byteAt_append_right, byteAt_append_right]

theorem longAt_append_right (a p : List Byte) (i : Nat) : longAt (a ++ p) (a.length + i) = longAt p i := by
  unfold longAt
  rw [Nat.add_assoc, wordAt_append_right, wordAt_append_right]

theorem idAt_append_right (a p : List Byte) (i : Nat) : idAt (a ++ p) (a.length + i) = idAt p i := by
  unfold idAt
  rw [longAt_append_right]

theorem byteAt_u8 (h : n < 256) : byteAt (u8 n ++ p) 0 = n := byteAt_ofNat h p

theorem wordAt_u16 (h : n < 65536) : wordAt (u16 n ++ p) 0 = n := by
  have hb : byteAt (u16 n ++ p) 0 = n % 256 := BitVec.toNat_ofNat _ _
  have hb' : byteAt (u16 n ++ p) 1 = n / 256 % 256 := BitVec.toNat_ofNat _ _
  unfold wordAt
  rw [hb, hb']
  omega

theorem longAt_u32 (h : n < 4294967296) : longAt (u32 n ++ p) 0 = n := by
  have hb : byteAt (u32 n ++ p) 0 = n % 256 := BitVec.toNat_ofNat _ _
  have hb1 : byteAt (u32 n ++ p) 1 = n / 256 % 256 := BitVec.toNat_ofNat _ _
  have hb2 : byteAt (u32 n ++ p) 2 = n / 65536 % 256 := BitVec.toNat_ofNat _ _
  have hb3 : byteAt (u32 n ++ p) 3 = n / 16777216 % 256 := BitVec.toNat_ofNat _ _
  unfold longAt wordAt
  rw [hb, hb1, hb2, hb3]
  omega

theorem idAt_id32 (b : Id32) (p : List Byte) : idAt (id32 b ++ p) 0 = b := by
  unfold idAt id32
  rw [longAt_u32 b.isLt, BitVec.ofNat_toNat, BitVec.setWidth_eq]

/-- A field past the first one of a row. -/
theorem readsPast_u8 (n : Nat) (p : List Byte) (i : Nat) : byteAt (u8 n ++ p) (i + 1) = byteAt p i ∧ wordAt (u8 n ++ p) (i + 1) = wordAt p i
    ∧ longAt (u8 n ++ p) (i + 1) = longAt p i ∧ idAt (u8 n ++ p) (i + 1) = idAt p i := by
  rw [Nat.add_comm i 1]
  exact ⟨byteAt_append_right (u8 n) p i, wordAt_append_right (u8 n) p i, longAt_append_right (u8 n) p i, idAt_append_right (u8 n) p i⟩

theorem readsPast_u16 (n : Nat) (p : List Byte) (i : Nat) : byteAt (u16 n ++ p) (i + 2) = byteAt p i
    ∧ wordAt (u16 n ++ p) (i + 2) = wordAt p i ∧ longAt (u16 n ++ p) (i + 2) = longAt p i ∧ idAt (u16 n ++ p) (i + 2) = idAt p i := by
  rw [Nat.add_comm i 2]
  exact ⟨byteAt_append_right (u16 n) p i, wordAt_append_right (u16 n) p i, longAt_append_right (u16 n) p i,
    idAt_append_right (u16 n) p i⟩

theorem readsPast_u32 (n : Nat) (p : List Byte) (i : Nat) : byteAt (u32 n ++ p) (i + 4) = byteAt p i
    ∧ wordAt (u32 n ++ p) (i + 4) = wordAt p i ∧ longAt (u32 n ++ p) (i + 4) = longAt p i ∧ idAt (u32 n ++ p) (i + 4) = idAt p i := by
  rw [Nat.add_comm i 4]
  exact ⟨byteAt_append_right (u32 n) p i, wordAt_append_right (u32 n) p i, longAt_append_right (u32 n) p i,
    idAt_append_right (u32 n) p i⟩

theorem readsPast_id32 (b : Id32) (p : List Byte) (i : Nat) : byteAt (id32 b ++ p) (i + 4) = byteAt p i
    ∧ wordAt (id32 b ++ p) (i + 4) = wordAt p i ∧ longAt (id32 b ++ p) (i + 4) = longAt p i ∧ idAt (id32 b ++ p) (i + 4) = idAt p i :=
  readsPast_u32 b.toNat p i

theorem byteAt_u8_last (h : n < 256) : byteAt (u8 n) 0 = n := byteAt_ofNat h []

theorem wordAt_u16_last (h : n < 65536) : wordAt (u16 n) 0 = n := by
  rw [← List.append_nil (u16 n), wordAt_u16 h]

/-! ## Request payloads -/

theorem readLink_writeLink (r : LinkRequest) (h0 : r.code < 256) (h1 : r.mask < 65536) : readLink (writeLink r) = r := by
  simp only [readLink, writeLink, readsPast_u8, byteAt_u8 h0, wordAt_u16_last h1]

theorem readCarousel_writeCarousel (r : CarouselRequest) (h0 : r.carousel < 256) (h1 : r.carriers < 256) (h2 : r.bend < 256)
    (h3 : r.port < 256) (h4 : r.levels < 256) (h5 : r.carrierLimit < 65536) (h6 : r.pulses < 65536)
    (hl : ∀ l ∈ r.limits, l < 65536) : readCarousel (writeCarousel r) = r := by
  simp only [CarouselRequest.limits, List.forall_mem_cons, List.not_mem_nil, false_imp_iff, implies_true, and_true] at hl
  obtain ⟨l0, l1, l2, l3, l4, l5⟩ := hl
  simp only [readCarousel, writeCarousel, List.append_assoc, readsPast_u8, readsPast_u16, byteAt_u8, wordAt_u16, wordAt_u16_last,
    h0, h1, h2, h3, h4, h5, h6, l0, l1, l2, l3, l4, l5]

theorem readGroup_writeGroup (r : GroupRequest) (h0 : r.group < 256) (h1 : r.members < 256) (h2 : r.lp < 4294967296)
    (h3 : r.ls1 < 4294967296) (h4 : r.ls2 < 4294967296) (h5 : r.ld < 4294967296) (h6 : r.friction < 4294967296)
    (h7 : r.fullScale < 4294967296) (h8 : r.tolerance < 4294967296) (h9 : r.stallTime < 256) (h10 : r.autoAudit < 256) :
    readGroup (writeGroup r) = r := by
  simp only [readGroup, writeGroup, List.append_assoc, readsPast_u8, readsPast_u32, byteAt_u8, longAt_u32, byteAt_u8_last,
    h0, h1, h2, h3, h4, h5, h6, h7, h8, h9, h10]

theorem readClear_writeClear (r : ClearRequest) (h0 : r.target < 256) (h1 : r.argument < 256) : readClear (writeClear r) = r := by
  simp only [readClear, writeClear, readsPast_u8, byteAt_u8, byteAt_u8_last, h0, h1]

theorem readBalance_writeBalance (r : BalanceRequest) (h0 : r.group < 256) (h1 : r.first < 256) (h2 : r.count < 256) :
    readBalance (writeBalance r) = r := by
  simp only [readBalance, writeBalance, List.append_assoc, readsPast_u8, byteAt_u8, byteAt_u8_last, h0, h1, h2]

theorem readMapRead_writeMapRead (r : MapReadRequest) (h0 : r.carousel < 256) (h1 : r.carrier < 256) (h2 : r.level < 256)
    (h3 : r.count < 256) : readMapRead (writeMapRead r) = r := by
  simp only [readMapRead, writeMapRead, List.append_assoc, readsPast_u8, byteAt_u8, byteAt_u8_last, h0, h1, h2, h3]

theorem readSlotName_writeSlotName (r : SlotRequest) (h0 : r.carousel < 256) (h1 : r.carrier < 256) (h2 : r.level < 256) :
    readSlotName (writeSlotName r) = r := by
  simp only [readSlotName, writeSlotName, List.append_assoc, readsPast_u8, byteAt_u8, byteAt_u8_last, h0, h1, h2]

theorem readStore_writeStore (r : StoreRequest) (h0 : r.port < 256) (h1 : r.declared < 65536) (h2 : r.member < 256)
    (h3 : r.hint < 256) : readStore (writeStore r) = r := by
  simp only [readStore, writeStore, List.append_assoc, readsPast_u8, readsPast_u16, readsPast_id32, byteAt_u8, wordAt_u16, idAt_id32,
    byteAt_u8_last, h0, h1, h2, h3]

theorem readSettings_writeSettings (r : Settings) (h0 : r.transferTimeout < 256) (h1 : r.massTolerance < 256)
    (h2 : r.storePatience < 65536) (h3 : r.laneCount < 256) (h4 : r.high < 256) (h5 : r.low < 256) :
    readSettings (writeSettings r) = r := by
  simp only [readSettings, writeSettings, List.append_assoc, readsPast_u8, readsPast_u16, byteAt_u8, wordAt_u16, byteAt_u8_last,
    h0, h1, h2, h3, h4, h5]

theorem readAudit_writeAudit (r : AuditRequest) (h0 : r.carousel < 256) (h1 : r.selection < 256) (h2 : r.first < 256)
    (h3 : r.count < 256) (h4 : r.check < 256) : readAudit (writeAudit r) = r := by
  simp only [readAudit, writeAudit, List.append_assoc, readsPast_u8, byteAt_u8, byteAt_u8_last, h0, h1, h2, h3, h4]

theorem readLog_writeLog (r : LogRequest) (h0 : r.consume < 256) (h1 : r.read < 256) : readLog (writeLog r) = r := by
  simp only [readLog, writeLog, readsPast_u8, byteAt_u8, byteAt_u8_last, h0, h1]

/-! ## Payloads of several records -/

theorem readImage_append_right (a p : List Byte) (i : Nat) : readImage (a ++ p) (a.length + i) = readImage p i := by
  simp only [readImage, Nat.add_assoc, byteAt_append_right, wordAt_append_right, idAt_append_right]

theorem readImage_writeImage {im : SlotImage} (h : im.carrier < 256 ∧ im.level < 256 ∧ im.content < 256 ∧ im.member < 256
    ∧ im.mass < 65536) (p : List Byte) : readImage (writeImage im ++ p) 0 = im := by
  obtain ⟨h0, h1, h2, h3, h4⟩ := h
  simp only [readImage, writeImage, Nat.zero_add, List.append_assoc, readsPast_u8, readsPast_id32, byteAt_u8, wordAt_u16, idAt_id32,
    h0, h1, h2, h3, h4]

/-- Records of one length, each read at its place in a row behind a header. -/
theorem map_range_records {α : Type} {write : α → List Byte} {read : List Byte → Nat → α} {n : Nat} (hlen : ∀ a, (write a).length = n)
    (past : ∀ a p i, read (a ++ p) (a.length + i) = read p i) (header : List Byte) (as : List α)
    (whole : ∀ a ∈ as, ∀ p, read (write a ++ p) 0 = a) :
    (List.range as.length).map (fun i => read (header ++ as.flatMap write) (header.length + n * i)) = as := by
  induction as generalizing header with
  | nil => rfl
  | cons a as ih =>
    rw [List.length_cons, List.range_succ_eq_map, List.map_cons, List.map_map, List.flatMap_cons]
    refine congrArg₂ List.cons ?_ ?_
    · rw [Nat.mul_zero, past, whole a List.mem_cons_self]
    · have h := ih (header ++ write a) fun b hb => whole b (List.mem_cons_of_mem _ hb)
      rw [List.length_append, hlen a] at h
      refine Eq.trans (List.map_congr_left fun i _ => ?_) h
      rw [Function.comp_apply, ← List.append_assoc, Nat.mul_succ, Nat.add_comm (n * i) n, Nat.add_assoc]

theorem writeImage_length (im : SlotImage) : (writeImage im).length = 14 := rfl

theorem flatMap_length_const {α : Type} {f : α → List Byte} {n : Nat} (h : ∀ a, (f a).length = n) (as : List α) :
    (as.flatMap f).length = n * as.length := by
  induction as with
  | nil => rfl
  | cons a as ih => rw [List.flatMap_cons, List.length_append, h, ih, List.length_cons, Nat.mul_succ, Nat.add_comm]

theorem readImages_writeImages (b : Byte) (ims : List SlotImage) (h : ∀ im ∈ ims, im.carrier < 256 ∧ im.level < 256
    ∧ im.content < 256 ∧ im.member < 256 ∧ im.mass < 65536) : readImages (b :: ims.flatMap writeImage) = ims := by
  have hn : ((b :: ims.flatMap writeImage).length - 1) / 14 = ims.length := by
    rw [List.length_cons, flatMap_length_const writeImage_length, Nat.add_sub_cancel, Nat.mul_div_cancel_left _ (by decide)]
  unfold readImages
  rw [hn]
  exact map_range_records writeImage_length readImage_append_right [b] ims fun im him p => readImage_writeImage (h im him) p

theorem id32_length (b : Id32) : (id32 b).length = 4 := rfl

/-- The fields of an ORDER_OPEN before its tags. -/
def orderHeader (r : OrderRequest) : List Byte := id32 r.id ++ u8 r.priority ++ u8 r.count

theorem orderHeader_length (r : OrderRequest) : (orderHeader r).length = 6 := rfl

theorem writeOrder_eq (r : OrderRequest) : writeOrder r = orderHeader r ++ r.tags.flatMap id32 := rfl

theorem readOrder_writeOrder (r : OrderRequest) (h0 : r.priority < 256) (h1 : r.count < 256) : readOrder (writeOrder r) = r := by
  have hlen : ((writeOrder r).length - 6) / 4 = r.tags.length := by
    rw [writeOrder_eq, List.length_append, flatMap_length_const id32_length, orderHeader_length]
    omega
  have htags : (List.range (((writeOrder r).length - 6) / 4)).map (fun i => idAt (writeOrder r) (6 + 4 * i)) = r.tags := by
    have h := map_range_records id32_length idAt_append_right (orderHeader r) r.tags fun t _ p => idAt_id32 t p
    rwa [orderHeader_length, ← writeOrder_eq, ← hlen] at h
  unfold readOrder
  rw [htags]
  simp only [writeOrder, List.append_assoc, readsPast_id32, readsPast_u8, idAt_id32, byteAt_u8, h0, h1]

end Sys2Proof.Machine

/-! SUPPORT. The records of replies, field by field. -/

namespace Sys2Proof.Machine

open Sys2Proof

/-! ## Fields (R173) -/

theorem i32_eq (z : Int) : i32 z = [BitVec.ofInt 8 z, BitVec.ofInt 8 (z / 256), BitVec.ofInt 8 (z / 65536),
    BitVec.ofInt 8 (z / 16777216)] := by
  have hz : (BitVec.ofInt 32 z).toNat = (z % 4294967296).toNat := BitVec.toNat_ofInt z
  have byte : ∀ (n : Nat) (y : Int), n % 256 = (y % 256).toNat → BitVec.ofNat 8 n = BitVec.ofInt 8 y := fun n y h =>
    BitVec.eq_of_toNat_eq ((BitVec.toNat_ofNat n 8).trans (h.trans (BitVec.toNat_ofInt (n := 8) y).symm))
  unfold i32 u32
  rw [hz, byte _ z (by omega), byte _ (z / 256) (by omega), byte _ (z / 65536) (by omega), byte _ (z / 16777216) (by omega)]

theorem id32_eq (b : Id32) : id32 b = [b.extractLsb' 0 8, b.extractLsb' 8 8, b.extractLsb' 16 8, b.extractLsb' 24 8] := by
  unfold id32 u32 BitVec.extractLsb'
  simp only [Nat.shiftRight_eq_div_pow]
  norm_num

/-! ## STATUS (section 11.4) -/

/-- The DIR bit of a lines byte. -/
def dirLine : Direction → Nat
  | .forward => 0
  | .reverse => 2

/-- The SPEED bits of a lines byte. -/
def speedLines : SpeedClass → Nat
  | .creep => 0
  | .gentle => 4
  | .normal => 8
  | .fast => 12

theorem lines_eq (c : Channel) : c.lines = c.run.toNat + dirLine c.dir + speedLines c.speed := by
  obtain ⟨run, dir, speed, dflt⟩ := c
  cases dir <;> cases speed <;> rfl

/-- The phase bits of CURRENT's flags. -/
def phaseFlags : MovePhase → Nat
  | .waiting => 0
  | .travel => 2
  | .settling => 4

/-- The direction bit of CURRENT's flags. -/
def dirFlag : Direction → Nat
  | .forward => 0
  | .reverse => 8

/-- The class bits of CURRENT's flags. -/
def classFlags : SpeedClass → Nat
  | .creep => 0
  | .gentle => 16
  | .normal => 32
  | .fast => 48

/-- CURRENT's part of its flags. -/
def moveFlags : Option Move → Nat
  | none => 0
  | some m => 1 + phaseFlags m.phase + dirFlag m.dir + classFlags m.cls + 128 * m.holdStop.toNat

theorem currentFlags_eq (grp : Group) : grp.currentFlags = 64 * grp.pausePending.toNat + moveFlags grp.current := by
  unfold Group.currentFlags
  rw [Nat.add_comm]
  refine congrArg (64 * grp.pausePending.toNat + ·) ?_
  cases grp.current with
  | none => rfl
  | some m =>
    dsimp only [moveFlags]
    cases m.phase <;> cases m.dir <;> cases m.cls <;> rfl

/-- CURRENT's target, carrier, distance and path maximum. -/
def moveLayout : Option Move → List Byte
  | some m => u8 m.target ++ u8 m.carrier ++ u8 m.distance ++ u32 m.pathMax
  | none => [0xFF#8, 0xFF#8, 0#8, 0#8, 0#8, 0#8, 0#8]

/-- NEXT's target and carrier. -/
def targetLayout : Option Target → List Byte
  | some n => u8 n.target ++ u8 n.carrier
  | none => [0xFF#8, 0xFF#8]

theorem moveBytes_eq (m : Option Move) : moveBytes m = moveLayout m := by cases m <;> rfl

theorem targetBytes_eq (t : Option Target) : targetBytes t = targetLayout t := by cases t <;> rfl

/-- A group's 18 bytes. -/
def groupLayout (s : State) (g : Index) : List Byte :=
  match s.groups.get g with
  | none => [0#8, 0#8, 0xFF#8, 0#8, 0#8, 0#8, 0#8, 0#8, 0#8, 0xFF#8, 0xFF#8, 0#8, 0#8, 0#8, 0#8, 0#8, 0xFF#8, 0xFF#8]
  | some grp =>
    u8 1 ++ u8 grp.state.code ++ u8 (grp.k.getD 0xFF) ++ u8 grp.cause.code ++ flag grp.suspect ++ u8 grp.deviant
      ++ u8 grp.revolution
      ++ u8 ((s.channels.get g).run.toNat + dirLine (s.channels.get g).dir + speedLines (s.channels.get g).speed)
      ++ u8 (64 * grp.pausePending.toNat + moveFlags grp.current) ++ moveLayout grp.current ++ targetLayout grp.next

theorem groupStatus_eq (s : State) (g : Index) : groupStatus s g = groupLayout s g := by
  unfold groupStatus groupLayout
  cases s.groups.get g with
  | none => rfl
  | some grp =>
    dsimp only
    rw [lines_eq, currentFlags_eq, moveBytes_eq, targetBytes_eq]
    rfl

/-- The tag of a deck's load, zeros where there is none. -/
def loadLayout : Option LoadRecord → List Byte
  | some lr => id32 lr.tag
  | none => [0#8, 0#8, 0#8, 0#8]

/-- A port's 6 bytes. -/
def portLayout (s : State) (p : Index) : List Byte :=
  u8 (s.ports.get p).shuttle.code ++ u8 (jamCode (s.ports.get p).fault) ++ loadLayout (s.ports.get p).loadRec

theorem portStatus_eq (s : State) (p : Index) : portStatus s p = portLayout s p := by
  unfold portStatus portLayout
  dsimp only
  cases (s.ports.get p).loadRec <;> rfl

theorem statusBytes_eq (s : State) : statusBytes s =
    u8 s.link.mode.code ++ u16 s.link.flags.toNat ++ u16 s.link.mask.toNat ++ u8 s.link.wdCode ++ flag s.link.wdTimer.isSome
    ++ ([0, 1, 2, 3] : List Index).flatMap (groupLayout s) ++ ([0, 1, 2, 3] : List Index).flatMap (portLayout s) ++ u8 (s.sched.orders.filter Option.isSome).length
    ++ flag s.station.fault.isSome ++ u8 s.station.collector.length ++ flag s.station.paused
    ++ (([0, 1, 2, 3] : List Index).flatMap fun i =>
      u8 (s.station.lanes.get i).state.code ++ u8 (s.station.lanes.get i).stack.length)
    ++ u8 s.station.reject.length ++ u32 s.audit.generation ++ u8 s.audit.log.length := by
  rw [← funext (groupStatus_eq s), ← funext (portStatus_eq s)]
  rfl

/-! ## Stores and orders (section 11.6) -/

/-- The reason of a store state. -/
def reasonLayout : StoreState → List Byte
  | .rejected why => u8 why.code
  | _ => [0#8]

/-- The slot chosen. -/
def chosenLayout : Option (Nat × Nat) → List Byte
  | some (c, l) => u8 c ++ u8 l
  | none => [0xFF#8, 0xFF#8]

/-- The task condition of a PLACED store. -/
def condLayout : StoreState → TaskCond → List Byte
  | .placed, .pending => [1#8]
  | .placed, .balanceWait => [2#8]
  | .placed, .reconsidered => [3#8]
  | _, _ => [0#8]

theorem storeBytes_eq (r : StoreRecord) : storeBytes (some r) =
    u8 r.state.code ++ reasonLayout r.state ++ id32 r.tag ++ u16 r.declared ++ id32 r.setId ++ u8 r.member ++ u8 (r.hint.getD 0xFF)
      ++ u8 r.weighings ++ u16 (r.measured.getD 0) ++ flag r.corrected ++ chosenLayout r.chosen ++ u32 (r.trialPeak.getD 0)
      ++ u16 (r.waited.getD 0) ++ flag r.promoted ++ condLayout r.state r.cond := by
  have hreason : u8 r.state.reason = reasonLayout r.state := by cases r.state <;> rfl
  have hchosen : u8 ((r.chosen.map Prod.fst).getD absentByte) ++ u8 ((r.chosen.map Prod.snd).getD absentByte) =
      chosenLayout r.chosen := by cases r.chosen <;> rfl
  have hcond : u8 r.condCode = condLayout r.state r.cond := by
    unfold StoreRecord.condCode
    cases r.state <;> cases r.cond <;> rfl
  rw [← hreason, ← hchosen, ← hcond]
  simp only [storeBytes, List.append_assoc, absentByte]

/-- The marks byte of a line. -/
def marksLayout (l : Line) : Nat :=
  (match l.state with
    | .short .missing => 1
    | .short .wrongTag => 2
    | .short .jam => 3
    | .balanceWait true => 8
    | _ => 0) + 4 * l.rejectBound.toNat

theorem marks_eq (l : Line) : l.marks = marksLayout l := by
  unfold Line.marks marksLayout
  refine congrArg₂ (· + ·) ?_ ?_
  · rfl
  · cases l.rejectBound <;> rfl

/-- The lane of an order. -/
def orderLaneLayout : Option Index → List Byte
  | some lane => u8 (lane.val + 1)
  | none => [0#8]

theorem laneByte_eq (o : Order) : u8 o.laneByte = orderLaneLayout o.lane := by
  unfold Order.laneByte
  cases o.lane <;> rfl

theorem orderBytes_eq (i : Nat) (o : Order) : orderBytes i o =
    u8 i ++ id32 o.id ++ u8 o.priority ++ u8 o.state.code ++ flag (o.short.getD false) ++ u32 o.openSeq
      ++ u32 (o.actSeq.getD 0) ++ orderLaneLayout o.lane ++ u8 o.lines.length ++ o.lines.flatMap fun l =>
        u8 l.seq ++ id32 l.tag ++ u8 l.carousel.val ++ u8 l.carrier ++ u8 l.level ++ u16 l.mass ++ u8 l.state.code
          ++ u8 (marksLayout l) := by
  unfold orderBytes
  rw [laneByte_eq]
  refine congrArg (_ ++ ·) (congrArg (fun f => List.flatMap f o.lines) (funext fun l => ?_))
  unfold lineBytes
  rw [marks_eq]

theorem openedBytes_eq {s : State} {i : Nat} {o : Order} (h : s.findOrder o.id = some (i, o)) :
    openedBytes s o.id = u8 i ++ u32 o.openSeq ++ u8 o.state.code ++ orderLaneLayout o.lane := by
  unfold openedBytes
  rw [h, ← laneByte_eq]

/-! ## The station (section 11.7) -/

/-- The diversion of a fault record. -/
def diversionLayout : Option FaultDiversion → List Byte
  | some d => u8 1 ++ id32 d.tag ++ id32 d.order ++ u8 d.line ++ u8 (laneNumber d.dest)
  | none => [0#8, 0#8, 0#8, 0#8, 0#8, 0#8, 0#8, 0#8, 0#8, 0#8, 0#8]

/-- The lane that a misroute entered. -/
def misrouteLayout : StationFaultKind → List Byte
  | .misroute l => u8 (laneNumber l)
  | _ => [0#8]

/-- A lane, 0 where there is none. -/
def laneLayout : Option Lane → List Byte
  | some l => u8 (laneNumber l)
  | none => [0#8]

/-- The fault record. -/
def faultLayout : Option StationFault → List Byte
  | none => [0#8, 0#8, 0#8, 0#8, 0#8, 0#8, 0#8, 0#8, 0#8, 0#8, 0#8, 0#8, 0#8, 0#8, 0#8]
  | some f =>
    u8 f.kind.code ++ diversionLayout f.diversion ++ misrouteLayout f.kind ++ laneLayout f.lateArrival ++ u8 f.strayCount

/-- The destination of a diversion under way. -/
def destLayout : Diverter → List Byte
  | .diverting d => u8 (laneNumber d)
  | _ => [0#8]

/-- The release port of a FAULTED station. -/
def releaseLayout : Option StationFault → Option Index → List Byte
  | some _, some p => u8 p.val
  | _, _ => [0xFF#8]

theorem stationFaultBytes_eq (f : Option StationFault) : stationFaultBytes f = faultLayout f := by
  cases f with
  | none => rfl
  | some f =>
    have hd : diversionBytes f.diversion = diversionLayout f.diversion := by cases f.diversion <;> rfl
    have hl : u8 (laneCode f.lateArrival) = laneLayout f.lateArrival := by cases f.lateArrival <;> rfl
    have hm : u8 (match f.kind with
        | .misroute l => laneNumber l
        | _ => 0) = misrouteLayout f.kind := by cases f.kind <;> rfl
    unfold stationFaultBytes faultLayout
    dsimp only
    rw [hd, hl, ← hm] <;> rfl

theorem stationBytes_eq (st : Station) : stationBytes st =
    flag st.fault.isSome ++ faultLayout st.fault ++ flag st.paused ++ u8 st.diverter.code ++ destLayout st.diverter
      ++ releaseLayout st.fault st.releasePort ++ u8 st.collector.length
      ++ (st.collector.flatMap fun e => id32 e.tag ++ id32 e.order ++ u8 e.line)
      ++ u8 st.settings.transferTimeout ++ u8 st.settings.massTolerance ++ u16 st.settings.storePatience
      ++ u8 st.settings.laneCount ++ u8 st.settings.high ++ u8 st.settings.low := by
  have hdest : u8 st.diverter.destCode = destLayout st.diverter := by cases st.diverter <;> rfl
  have hrelease : u8 (match st.shownRelease with
      | some p => p.val
      | none => absentByte) = releaseLayout st.fault st.releasePort := by
    unfold Station.shownRelease
    cases st.fault <;> cases st.releasePort <;> rfl
  unfold stationBytes
  rw [stationFaultBytes_eq, hdest, ← hrelease] <;> rfl

end Sys2Proof.Machine

namespace Sys2Proof.Certificates

open Sys2Proof Sys2Proof.Machine

/-- Settles O60: payloads read back field by field, codes by position, and each record through its layout. -/
theorem payloadsLaidOut : Obligations.PayloadsLaidOut := by
  refine ⟨fun r => readLink_writeLink r, fun r => readCarousel_writeCarousel r, fun r => readGroup_writeGroup r,
    fun r => readClear_writeClear r, fun r => readBalance_writeBalance r, fun r => readMapRead_writeMapRead r,
    fun r => readSlotName_writeSlotName r, readImages_writeImages, fun r => readStore_writeStore r,
    fun r => readOrder_writeOrder r, fun r => readSettings_writeSettings r, fun r => readAudit_writeAudit r,
    fun r => readLog_writeLog r, ⟨fun n => ⟨rfl, rfl, rfl⟩, i32_eq, id32_eq, rfl, rfl⟩, ?codes, fun s => ?status,
    fun s g grp first count n hn => ?balance, ⟨fun c l sl => ?image, fun f => ?finding, fun ms c l sl => ?slot⟩,
    ⟨?noStore, fun r => ?store⟩, ⟨fun i o => ?order, fun s i o ho => ?opened⟩,
    ⟨fun st => ?station, fun r => ?lane, fun l => ?reject⟩, ⟨?noTask, fun t => ?task, fun e => ?entry⟩⟩
  case codes =>
    exact ⟨rfl, rfl, rfl, fun _ _ _ _ _ => rfl, rfl, rfl, rfl, rfl, rfl, rfl, fun _ => rfl, rfl, rfl, fun _ _ => rfl, rfl, fun _ => rfl,
      rfl, rfl, rfl, fun _ => rfl, rfl⟩
  case status => exact statusBytes_eq s
  case balance =>
    subst hn
    unfold balanceBytes sampleBytes
    cases grp.lastCompared <;> rfl
  case image => rfl
  case finding => cases f <;> rfl
  case slot =>
    unfold slotBytes reservationBytes imageBytes
    simp only [List.append_assoc]
    cases sl.reservation <;> cases sl.finding <;> rfl
  case noStore => rfl
  case store => exact storeBytes_eq r
  case order => exact orderBytes_eq i o
  case opened => exact openedBytes_eq ho
  case station => exact stationBytes_eq st
  case lane =>
    unfold laneBytes
    cases r.order <;> rfl
  case reject => rfl
  case noTask => rfl
  case task =>
    obtain ⟨state, origin, check, selection, generation, list, findings, scan⟩ := t
    cases selection <;> rfl
  case entry =>
    unfold entryBytes
    cases e.recordedTag <;> cases e.readTag <;> rfl

end Sys2Proof.Certificates

/-! SUPPORT. The tasks of a group one by one, what their list depends on, and the first task that passes its pre-evaluation. -/

namespace Sys2Proof.Machine

open Sys2Proof

variable {s t : State} {g : Index}

/-! ## The tasks (R114, R115) -/

theorem mem_storeTasks {i : TaskItem} : i ∈ storeTasks s g ↔ ∃ (n : Nat) (p : Index) (r : StoreRecord) (c l : Nat),
    s.sched.placedOrder[n]? = some p ∧ s.stores.get p = some r ∧ r.state = .placed ∧ r.chosen = some (c, l)
    ∧ s.groupOf p = some g
    ∧ i = { task := .store p, carrier := c, port := p, waiting := r.cond == .balanceWait,
            key := [if r.promoted = true then 1 else 3, n] } := by
  unfold storeTasks
  rw [List.mem_filterMap]
  constructor
  · rintro ⟨⟨n, p⟩, hn, hi⟩
    dsimp only at hi
    split at hi
    · cases hi
    · rename_i r hr
      split at hi
      · rename_i c l hst hch
        split at hi
        · rename_i hg
          cases hi
          exact ⟨n, p, r, c, l, (mem_numbered.mp hn).2, hr, hst, hch, hg, rfl⟩
        · cases hi
      · cases hi
  · rintro ⟨n, p, r, c, l, hn, hr, hst, hch, hg, rfl⟩
    refine ⟨(n, p), mem_numbered.mpr ⟨Nat.zero_le _, hn⟩, ?_⟩
    dsimp only
    rw [hr]
    dsimp only
    rw [hst, hch]
    exact if_pos hg

theorem past_iff {st : LineState} : st.past = true ↔ st = .onShuttle ∨ st = .releasing ∨ st = .inTransit ∨ st = .arrived
    ∨ ∃ why, st = .short why := by
  cases st <;> simp [LineState.past]

theorem eligible_iff {o : Order} {l : Line} : eligible o l = true ↔ o.state = .active
    ∧ (∀ l' ∈ o.lines, l'.seq < l.seq → l'.state.past = true) ∧ (l.state = .reserved ∨ l.state = .balanceWait true) := by
  unfold eligible
  simp only [Bool.and_eq_true, Bool.or_eq_true, beq_iff_eq, List.all_eq_true, Bool.not_eq_true', decide_eq_false_iff_not, and_assoc]
  refine and_congr_right fun _ => and_congr_left fun _ => forall₂_congr fun l' _ => ?_
  exact (Decidable.imp_iff_not_or).symm

theorem mem_pickTasks {i : TaskItem} : i ∈ pickTasks s g ↔ ∃ (n : Nat) (o : Order) (l : Line),
    s.sched.orders[n]? = some (some o) ∧ l ∈ o.lines ∧ eligible o l = true ∧ s.groupOf l.carousel = some g
    ∧ i = { task := .pick o.id l.seq, carrier := l.carrier, port := l.carousel, waiting := false,
            key := [2, o.priority, o.actSeq.getD 0, n, l.seq] } := by
  unfold pickTasks
  rw [List.mem_flatMap]
  constructor
  · rintro ⟨⟨n, e⟩, hn, hi⟩
    cases e with
    | none => cases hi
    | some o =>
      dsimp only at hi
      obtain ⟨l, hl, hi⟩ := List.mem_filterMap.mp hi
      split at hi
      · rename_i hel
        cases hi
        exact ⟨n, o, l, (mem_numbered.mp hn).2, hl, hel.1, hel.2, rfl⟩
      · cases hi
  · rintro ⟨n, o, l, hn, hl, hel, hg, rfl⟩
    refine ⟨(n, some o), mem_numbered.mpr ⟨Nat.zero_le _, hn⟩, List.mem_filterMap.mpr ⟨l, hl, ?_⟩⟩
    exact if_pos ⟨hel, hg⟩

/-- Two numbers compared one after the other. -/
theorem lexLt_two {a b a' b' : Nat} : lexLt [a, b] [a', b'] = true ↔ a < a' ∨ (a = a' ∧ b < b') := by
  simp only [lexLt]
  grind

/-- The carrier that an audit task names is the nearest of its list, the lower index among equals (R142). -/
theorem namedCarrier_eq_some {grp : Group} {a : AuditTask} {c : Nat} : namedCarrier s g grp a = some c ↔ c ∈ a.list
    ∧ ∀ d ∈ a.list, d = c ∨ grp.distanceTo (s.geometry g) c < grp.distanceTo (s.geometry g) d
      ∨ (grp.distanceTo (s.geometry g) c = grp.distanceTo (s.geometry g) d ∧ c < d) := by
  unfold namedCarrier
  constructor
  · intro h
    obtain ⟨hc, hl⟩ := bestBy_spec h
    refine ⟨hc, fun d hd => ?_⟩
    have hnot : ¬ lexLt [grp.distanceTo (s.geometry g) d, d] [grp.distanceTo (s.geometry g) c, c] = true := by
      rw [hl d hd]
      exact Bool.false_ne_true
    rw [lexLt_two] at hnot
    omega
  · rintro ⟨hc, hbest⟩
    refine bestBy_eq_some hc fun d hd => (hbest d hd).imp_right lexLt_two.mpr

theorem mem_auditTasks {grp : Group} (hg : s.groups.get g = some grp) {i : TaskItem} : i ∈ auditTasks s g ↔
    ∃ (x : Index) (a : AuditTask) (c : Nat), x ∈ grp.members ∧ s.audit.tasks.get x = some a ∧ a.state = .running
    ∧ a.scan = none ∧ namedCarrier s g grp a = some c
    ∧ i = { task := .audit x, carrier := c, port := x, waiting := false,
            key := [4, grp.distanceTo (s.geometry g) c, x.val] } := by
  unfold auditTasks
  rw [hg, List.mem_filterMap]
  constructor
  · rintro ⟨x, hx, hi⟩
    split at hi
    · cases hi
    · rename_i a ha
      split at hi
      · rename_i hrun
        split at hi
        · rename_i c hc
          cases hi
          exact ⟨x, a, c, hx, ha, hrun.1, hrun.2, hc, rfl⟩
        · cases hi
      · cases hi
  · rintro ⟨x, a, c, hx, ha, hst, hsc, hc, rfl⟩
    refine ⟨x, hx, ?_⟩
    rw [ha]
    dsimp only
    rw [if_pos ⟨hst, hsc⟩, hc]

/-! ## What the tasks depend on -/

/-- What a group's tasks see of its record: the members and the offset that distances are from. -/
def Group.taskView (grp : Group) : List Index × Option Nat := (grp.members, grp.reference)

/-- Two states in which every group has the same tasks. -/
structure SameTasks (s t : State) : Prop where
  carousels : t.carousels = s.carousels
  stores : t.stores = s.stores
  sched : t.sched = s.sched
  tasks : t.audit.tasks = s.audit.tasks
  groups : ∀ g, (t.groups.get g).map Group.taskView = (s.groups.get g).map Group.taskView

theorem SameTasks.members (h : SameTasks s t) (g : Index) :
    (t.groups.get g).map Group.members = (s.groups.get g).map Group.members := by
  have := congrArg (Option.map Prod.fst) (h.groups g)
  rwa [Option.map_map, Option.map_map] at this

theorem SameTasks.groupOf (h : SameTasks s t) (x : Index) : t.groupOf x = s.groupOf x := groupOf_congr h.members x

theorem SameTasks.geometry (h : SameTasks s t) (g : Index) : t.geometry g = s.geometry g := by
  unfold State.geometry State.geometryOf
  rw [membersOf_eq, membersOf_eq, h.members, h.carousels]

theorem distanceTo_eq (grp : Group) (geo : Geometry) (c : Nat) :
    grp.distanceTo geo c = grp.reference.elim 0 fun ref => rotationDistance geo.carriers ref (geo.targetOf c) := by
  unfold Group.distanceTo
  cases grp.reference <;> rfl

theorem SameTasks.storeTasks (h : SameTasks s t) (g : Index) : storeTasks t g = storeTasks s g := by
  unfold Machine.storeTasks
  rw [h.sched, h.stores, funext h.groupOf]

theorem SameTasks.pickTasks (h : SameTasks s t) (g : Index) : pickTasks t g = pickTasks s g := by
  unfold Machine.pickTasks
  rw [h.sched, funext h.groupOf]

theorem SameTasks.auditTasks (h : SameTasks s t) (g : Index) : auditTasks t g = auditTasks s g := by
  have hg := h.groups g
  unfold Machine.auditTasks namedCarrier
  cases hs : s.groups.get g with
  | none =>
    rw [hs, Option.map_none, Option.map_eq_none_iff] at hg
    rw [hg]
  | some a =>
    rw [hs, Option.map_some] at hg
    obtain ⟨b, hb, hv⟩ := Option.map_eq_some_iff.mp hg
    obtain ⟨hm, hr⟩ := Prod.mk.inj hv
    rw [hb]
    simp only [distanceTo_eq, hm, hr, h.tasks, h.geometry]

theorem SameTasks.tasksOf (h : SameTasks s t) (g : Index) : tasksOf t g = tasksOf s g := by
  unfold Machine.tasksOf
  rw [h.storeTasks, h.pickTasks, h.auditTasks]

theorem SameTasks.usableTasks (h : SameTasks s t) (hp : t.ports = s.ports) (g : Index) : usableTasks t g = usableTasks s g := by
  unfold Machine.usableTasks usable
  rw [h.tasksOf, hp]

/-- A group's record replaced by one with the same view. -/
theorem sameTasks_setGroup {grp grp' : Group} (hg : s.groups.get g = some grp) (hv : grp'.taskView = grp.taskView) :
    SameTasks s (s.setGroup g (some grp')) where
  carousels := rfl
  stores := rfl
  sched := rfl
  tasks := rfl
  groups h := by
    by_cases hh : h = g
    · subst hh
      rw [setGroup_groups, Quad.get_set_same, hg, Option.map_some, Option.map_some, hv]
    · rw [setGroup_groups, Quad.get_set_ne _ _ hh]

/-! ## Marks of waiting (R50, R53) -/

theorem markWait_pick (id : Id32) (seq : Nat) (s : State) :
    markWait (.pick id seq) s = raiseEvent .balanceWait (s.setLine id seq (.balanceWait false)) := rfl

theorem markWait_store {p : Index} {r : StoreRecord} (h : s.stores.get p = some r) :
    markWait (.store p) s = raiseEvent .balanceWait (s.setStore p (some { r with cond := .balanceWait })) :=
  congrArg (raiseEvent .balanceWait) (modStore_of_get h _)

/-- A mark of waiting changes the flags, the stores and the orders. -/
theorem markWait_record (t : Task) (s : State) : ∃ flags sts os, markWait t s = { s with
    link := { s.link with flags := flags }, stores := sts, sched := { s.sched with orders := os } } := by
  cases t with
  | pick id seq => exact ⟨_, s.stores, _, rfl⟩
  | store p =>
    cases hp : s.stores.get p with
    | none =>
      have hmod : s.modStore p (fun r => { r with cond := .balanceWait }) = s := by
        unfold State.modStore
        rw [hp]
      exact ⟨_, s.stores, s.sched.orders, congrArg (raiseEvent .balanceWait) hmod⟩
    | some r => exact ⟨_, _, s.sched.orders, markWait_store hp⟩
  | audit x => exact ⟨_, s.stores, s.sched.orders, rfl⟩

theorem markWait_flagSet (h : s.link.sampled = true) (t : Task) (e : Event) :
    (markWait t s).flagSet e = (s.flagSet e || e == .balanceWait) := by
  have hlink : ∀ u : State, u.link = s.link → (raiseEvent .balanceWait u).flagSet e = (s.flagSet e || e == .balanceWait) :=
    fun u hu => by
      rw [raiseEvent_flagSet (by rw [hu]; exact h)]
      unfold State.flagSet
      rw [hu]
  cases t with
  | pick id seq => exact hlink _ rfl
  | store p => exact hlink _ (modStore_link _ p _)
  | audit x => exact hlink s rfl

theorem markWait_slot? (t : Task) (s : State) (x : Index) (c l : Nat) : (markWait t s).slot? x c l = s.slot? x c l := by
  obtain ⟨flags, sts, os, h⟩ := markWait_record t s
  rw [h]
  rfl

theorem taskMass_pick (s : State) (id : Id32) (seq : Nat) : taskMass s (.pick id seq) =
    (s.findLine id seq).bind fun l => (s.slot? l.carousel l.carrier l.level).map fun sl => -(sl.recorded : Int) := by
  simp only [taskMass]
  cases s.findLine id seq with
  | none => rfl
  | some l =>
    dsimp only [Option.bind_some]
    cases s.slot? l.carousel l.carrier l.level <;> rfl

theorem taskMass_store (s : State) (p : Index) : taskMass s (.store p) =
    (s.stores.get p).bind fun r => r.measured.map fun m : Nat => (m : Int) := by
  simp only [taskMass]
  cases s.stores.get p with
  | none => rfl
  | some r =>
    dsimp only [Option.bind_some]
    cases r.measured <;> rfl

/-- A mark of waiting leaves every task's mass. -/
theorem taskMass_markWait (t u : Task) (s : State) : taskMass (markWait t s) u = taskMass s u := by
  cases u with
  | pick id seq =>
    rw [taskMass_pick, taskMass_pick]
    simp only [markWait_slot?]
    cases t with
    | pick id' seq' =>
      change ((s.setLine id' seq' (.balanceWait false)).findLine id seq).bind _ = _
      by_cases h : id = id' ∧ seq = seq'
      · obtain ⟨rfl, rfl⟩ := h
        rw [findLine_setLine_same]
        cases s.findLine id seq <;> rfl
      · rw [findLine_setLine_ne (by tauto)]
    | store p =>
      have hs : (markWait (.store p) s).sched = s.sched := modStore_sched _ p _
      have hl : (markWait (.store p) s).findLine id seq = s.findLine id seq := by
        rw [findLine_eq, findLine_eq]
        unfold State.findOrder
        rw [hs]
      rw [hl]
    | audit x => rfl
  | store p =>
    rw [taskMass_store, taskMass_store]
    cases t with
    | pick id seq => rfl
    | store q =>
      change ((s.modStore q _).stores.get p).bind _ = _
      by_cases h : p = q
      · subst h
        rw [modStore_get_same]
        cases s.stores.get p <;> rfl
      · rw [modStore_get_ne s h]
    | audit x => rfl
  | audit x => rfl

theorem preEvaluates_congr {u : Task} (hm : taskMass t u = taskMass s u) (hg : ∀ c dm, gatePasses t g c dm = gatePasses s g c dm)
    (c : Nat) : preEvaluates t g u c = preEvaluates s g u c := by
  unfold preEvaluates
  rw [hm]
  cases taskMass s u with
  | none => rfl
  | some dm => exact hg c dm

theorem gatePasses_congr (hg : t.groups = s.groups) (hc : t.carousels = s.carousels) (c : Nat) (dm : Int) :
    gatePasses t g c dm = gatePasses s g c dm := by
  unfold gatePasses State.geometry State.geometryOf State.membersOf
  rw [hg, hc]

theorem preEvaluates_markWait (t u : Task) (s : State) (g : Index) (c : Nat) :
    preEvaluates (markWait t s) g u c = preEvaluates s g u c := by
  refine preEvaluates_congr (taskMass_markWait t u s) (fun c dm => gatePasses_congr (markWait_groups s t) ?_ c dm) c
  obtain ⟨flags, sts, os, h⟩ := markWait_record t s
  rw [h]

/-! ## The first task that passes (R53) -/

theorem firstPassing_some {before after : List TaskItem} {i : TaskItem} (s : State)
    (hb : ∀ u ∈ before, preEvaluates s g u.task u.carrier = false) (hi : preEvaluates s g i.task i.carrier = true) :
    firstPassing g (before ++ i :: after) s = (some i, before.foldl (fun w u => markWait u.task w) s) := by
  induction before generalizing s with
  | nil =>
    rw [List.nil_append, firstPassing, if_pos hi]
    rfl
  | cons b bs ih =>
    rw [List.cons_append, firstPassing, if_neg (by rw [hb b List.mem_cons_self]; exact Bool.false_ne_true), ih]
    · rfl
    · intro u hu
      rw [preEvaluates_markWait]
      exact hb u (List.mem_cons_of_mem _ hu)
    · rw [preEvaluates_markWait]
      exact hi

theorem firstPassing_none {ts : List TaskItem} (s : State) (h : ∀ u ∈ ts, preEvaluates s g u.task u.carrier = false) :
    firstPassing g ts s = (none, ts.foldl (fun w u => markWait u.task w) s) := by
  induction ts generalizing s with
  | nil => rfl
  | cons b bs ih =>
    rw [firstPassing, if_neg (by rw [h b List.mem_cons_self]; exact Bool.false_ne_true), ih]
    · rfl
    · intro u hu
      rw [preEvaluates_markWait]
      exact h u (List.mem_cons_of_mem _ hu)

end Sys2Proof.Machine

/-! SUPPORT. Offers and CURRENT filled, the lists pruned, and how many turns and task changes there are. -/

namespace Sys2Proof.Machine

open Sys2Proof

variable {s t : State} {g : Index}

/-! ## The offer for CURRENT (R60, R118) -/

/-- The usable tasks that a promotion point offers: those not at the carrier that stands at the ports. -/
def offered (s : State) (g : Index) (k : Nat) : List TaskItem :=
  (usableTasks s g).filter fun u => u.carrier != (s.geometry g).atPort k

theorem offerBest_firstPassing {grp : Group} {k : Nat} (hg : s.groups.get g = some grp) (hk : grp.k = some k)
    {r : Option TaskItem × State} (hr : firstPassing g (offered s g k) s = r) :
    offerBest g s = r.1.elim r.2 fun t => fillCurrent g t.carrier (tasksAt r.2 g t.carrier) r.2 := by
  unfold offerBest
  simp only [hg, hk, Option.map_some]
  have hlist : ((usableTasks s g).filter fun t => some t.carrier != some ((s.geometry g).atPort k)) = offered s g k := rfl
  rw [hlist, hr]
  obtain ⟨o, u⟩ := r
  cases o <;> rfl

theorem offerBest_some {grp : Group} {k : Nat} {before after : List TaskItem} {i : TaskItem} (hg : s.groups.get g = some grp)
    (hk : grp.k = some k) (hl : offered s g k = before ++ i :: after)
    (hb : ∀ u ∈ before, preEvaluates s g u.task u.carrier = false) (hi : preEvaluates s g i.task i.carrier = true) {s' : State}
    (hs' : s' = before.foldl (fun w u => markWait u.task w) s) :
    offerBest g s = fillCurrent g i.carrier (tasksAt s' g i.carrier) s' := by
  have hr : firstPassing g (offered s g k) s = (some i, s') := by rw [hl, firstPassing_some s hb hi, hs']
  exact offerBest_firstPassing hg hk hr

theorem offerBest_none {grp : Group} {k : Nat} (hg : s.groups.get g = some grp) (hk : grp.k = some k)
    (h : ∀ u ∈ offered s g k, preEvaluates s g u.task u.carrier = false) :
    offerBest g s = (offered s g k).foldl (fun w u => markWait u.task w) s :=
  offerBest_firstPassing hg hk (firstPassing_none s h)

/-- A promotion point with NEXT empty makes an offer. -/
theorem promotionPoint_offers {grp : Group} (hg : s.groups.get g = some grp) (hn : grp.next = none) :
    promotionPoint g s = offerBest g (s.setGroup g (some { grp with arrivalOpen := false })) := by
  unfold promotionPoint
  rw [modGroup_of_get hg]
  dsimp only
  rw [setGroup_groups, Quad.get_set_same]
  simp only [hn]

/-- The closing of an arrival changes no task. -/
theorem sameTasks_closed {grp : Group} (hg : s.groups.get g = some grp) :
    SameTasks s (s.setGroup g (some { grp with arrivalOpen := false })) := sameTasks_setGroup hg rfl

/-- A group's record replaced by one of the same effective profile and limits leaves every pre-evaluation. -/
theorem preEvaluates_setGroup {grp grp' : Group} (hg : s.groups.get g = some grp) (he : grp'.effective = grp.effective)
    (hp : grp'.params = grp.params) (hv : grp'.taskView = grp.taskView) (u : Task) (c : Nat) :
    preEvaluates (s.setGroup g (some grp')) g u c = preEvaluates s g u c := by
  refine preEvaluates_congr (s := s) (t := s.setGroup g (some grp')) rfl (fun c dm => ?_) c
  rw [Bool.eq_iff_iff, gatePasses_iff (s := s.setGroup g (some grp')) (Quad.get_set_same _ _ _), gatePasses_iff hg, he, hp,
    (sameTasks_setGroup hg hv).geometry]

theorem fillCurrent_noNext {grp : Group} {k c : Nat} {a : MoveAnswer} (hg : s.groups.get g = some grp) (hk : grp.k = some k)
    (hn : grp.next = none) (ha : moveAnswer (s.geometry g) grp k ((s.geometry g).targetOf c) = some a) (ts : List Task) :
    fillCurrent g c ts s = s.setGroup g (some { grp with
      current := some { target := (s.geometry g).targetOf c, carrier := c, dir := a.dir, distance := a.distance,
                        pathMax := a.pathMax, cls := a.cls, phase := .waiting, tasks := ts, holdStop := false } }) := by
  unfold fillCurrent
  rw [hg]
  simp only [hk, ha]
  rw [modGroup_of_get hg]
  simp only [hn, List.append_nil, if_false, Bool.false_eq_true]
  rw [hk]

/-! ## Rounds of turns (R116) -/

theorem turnRounds_nil (n : Nat) (s : State) : turnRounds n [] s = s := by cases n <;> rfl

theorem turnRounds_succ {gs : List Index} (h : gs ≠ []) (n : Nat) (s : State) :
    turnRounds (n + 1) gs s = turnRounds n (takeTurns gs s).2 (takeTurns gs s).1 := by
  cases gs with
  | nil => exact absurd rfl h
  | cons g gs => rfl

/-! ## The lists pruned (R60, R61) -/

/-- A group whose lists are pruned by a state's tasks. -/
def Group.pruned (grp : Group) (s : State) (g : Index) : Group :=
  { grp with current := grp.current.map fun m => m.prune (tasksOf s g), next := grp.next.map fun n => n.follow s g }

theorem Group.pruned_view (grp : Group) (s : State) (g : Index) : (grp.pruned s g).taskView = grp.taskView := by
  unfold Group.taskView Group.reference Group.pruned
  cases grp.current <;> cases grp.state <;> rfl

theorem pruneList_eq (s : State) (g : Index) :
    pruneList s g = { s with groups := s.groups.set g ((s.groups.get g).map fun grp => grp.pruned s g) } := modGroup_eq s g _

theorem sameTasks_refl (s : State) : SameTasks s s := ⟨rfl, rfl, rfl, rfl, fun _ => rfl⟩

theorem SameTasks.trans {u : State} (h : SameTasks s t) (h' : SameTasks t u) : SameTasks s u where
  carousels := h'.carousels.trans h.carousels
  stores := h'.stores.trans h.stores
  sched := h'.sched.trans h.sched
  tasks := h'.tasks.trans h.tasks
  groups g := (h'.groups g).trans (h.groups g)

theorem sameTasks_pruneList (s : State) (g : Index) : SameTasks s (pruneList s g) := by
  rw [pruneList_eq]
  refine ⟨rfl, rfl, rfl, rfl, fun h => ?_⟩
  by_cases hh : h = g
  · subst hh
    change ((s.groups.set h _).get h).map _ = _
    rw [Quad.get_set_same, Option.map_map]
    exact congrArg (fun f => (s.groups.get h).map f) (funext fun grp => grp.pruned_view s h)
  · change ((s.groups.set g _).get h).map _ = _
    rw [Quad.get_set_ne _ _ hh]

theorem taskStands_pick (s : State) (g : Index) (id : Id32) (seq c : Nat) : taskStands s g (.pick id seq) c =
    (s.findLine id seq).elim false fun l => s.groupOf l.carousel == some g && l.carrier == c && l.state.inSlot := by
  simp only [taskStands]
  cases s.findLine id seq <;> rfl

theorem SameTasks.findLine (h : SameTasks s t) (id : Id32) (seq : Nat) : t.findLine id seq = s.findLine id seq := by
  rw [findLine_eq, findLine_eq]
  unfold State.findOrder
  rw [h.sched]

theorem SameTasks.taskStands (h : SameTasks s t) (g : Index) (u : Task) (c : Nat) : taskStands t g u c = taskStands s g u c := by
  cases u with
  | pick id seq => rw [taskStands_pick, taskStands_pick, h.findLine, funext h.groupOf]
  | store p => simp only [Machine.taskStands, h.stores, h.groupOf]
  | audit x => simp only [Machine.taskStands, h.tasks, h.groupOf]

theorem SameTasks.pruned (h : SameTasks s t) (grp : Group) (g : Index) : grp.pruned t g = grp.pruned s g := by
  unfold Group.pruned Target.follow
  rw [h.tasksOf]
  simp only [h.taskStands]

/-- The groups named are pruned, each by the tasks as they stood before. -/
theorem foldl_pruneList (s w : State) (gs : List Index) (hn : gs.Nodup) (hw : SameTasks s w) : ∃ groups,
    gs.foldl pruneList w = { w with groups := groups }
    ∧ ∀ g, groups.get g = if g ∈ gs then (w.groups.get g).map fun grp => grp.pruned s g else w.groups.get g := by
  induction gs generalizing w with
  | nil => exact ⟨w.groups, rfl, fun g => by simp⟩
  | cons h gs ih =>
    obtain ⟨hh, hn⟩ := List.nodup_cons.mp hn
    obtain ⟨groups, he, hget⟩ := ih (pruneList w h) hn (hw.trans (sameTasks_pruneList w h))
    refine ⟨groups, ?_, fun g => ?_⟩
    · rw [List.foldl_cons, he, pruneList_eq]
    · rw [hget, pruneList_eq]
      by_cases hg : g = h
      · subst hg
        rw [if_neg hh, if_pos List.mem_cons_self]
        change (w.groups.set g _).get g = _
        rw [Quad.get_set_same]
        exact congrArg (fun f => (w.groups.get g).map f) (funext fun grp => hw.pruned grp g)
      · change (if g ∈ gs then ((w.groups.set h _).get g).map _ else (w.groups.set h _).get g) = _
        rw [Quad.get_set_ne _ _ hg]
        exact if_congr (by simp [hg]) rfl rfl

theorem pruneLists_spec (s : State) : ∃ groups, pruneLists s = { s with groups := groups }
    ∧ ∀ g, groups.get g = (s.groups.get g).map fun grp => grp.pruned s g := by
  obtain ⟨groups, he, hget⟩ := foldl_pruneList s s allIndices (by decide) (sameTasks_refl s)
  exact ⟨groups, he, fun g => (hget g).trans (if_pos (mem_allIndices g))⟩

/-! ## Turns due and task changes counted (R115, R116) -/

theorem count_flatMap_replicate (n : Index → Nat) (g : Index) : (allIndices.flatMap fun h => List.replicate (n h) h).count g = n g := by
  have counts : ∀ hs : List Index, hs.Nodup →
      (hs.flatMap fun h => List.replicate (n h) h).count g = if g ∈ hs then n g else 0 := fun hs hn => by
    induction hs with
    | nil => rfl
    | cons h hs ih =>
      obtain ⟨hh, hn⟩ := List.nodup_cons.mp hn
      rw [List.flatMap_cons, List.count_append, ih hn, List.count_replicate]
      by_cases hg : g = h
      · subst hg
        simp [hh]
      · simp [hg, Ne.symm hg]
  rw [counts allIndices (by decide), if_pos (mem_allIndices g)]

theorem dueTurns_count (events : List Index) (s t : State) (g : Index) :
    (dueTurns events s t).count g = turnsDue events s t g := count_flatMap_replicate _ g

theorem scansEnded_count (s t : State) (g : Index) : (scansEnded s t).count g =
    ((t.membersOf g).map fun x => auditScansEnded (s.audit.tasks.get x) (t.audit.tasks.get x)).sum + faceChecksEnded s t g :=
  count_flatMap_replicate _ g

theorem portFreed_eq (a b : Port) : portFreed a b = decide ((a.shuttle ≠ .homeEmpty ∧ b.shuttle = .homeEmpty)
    ∨ (a.fault ≠ none ∧ b.fault = none)) := by
  unfold portFreed
  rw [Bool.eq_iff_iff, decide_eq_true_eq, Bool.or_eq_true, Bool.and_eq_true, Bool.and_eq_true, bne_iff_ne, beq_iff_eq,
    Option.isSome_iff_ne_none, Option.isNone_iff_eq_none]

theorem contains_eq_decide {α : Type} [BEq α] [LawfulBEq α] [DecidableEq α] (as : List α) (a : α) : as.contains a = decide (a ∈ as) := by
  rw [Bool.eq_iff_iff, List.contains_iff_mem, decide_eq_true_eq]

theorem markChanges_eq {α : Type} [DecidableEq α] (before after : List (Task × α)) : markChanges before after =
    (after.filter fun e => !before.contains e).length + (before.filter fun e => !(after.map Prod.fst).contains e.1).length := by
  unfold markChanges
  refine congrArg₂ (· + ·) (congrArg (fun f => (after.filter f).length) (funext fun e => ?_))
    (congrArg (fun f => (before.filter f).length) (funext fun e => ?_))
  · rw [contains_eq_decide, decide_not]
  · rw [contains_eq_decide, ← decide_not, Bool.eq_iff_iff, List.all_eq_true, decide_eq_true_eq, List.mem_map]
    simp only [decide_eq_true_eq]
    exact ⟨fun h ⟨e', he', heq⟩ => h e' he' heq, fun h e' he' heq => h ⟨e', he', heq⟩⟩

theorem reconsidered_pick (s : State) (id : Id32) (seq : Nat) :
    s.reconsidered (.pick id seq) = (s.findLine id seq).any fun l => l.state == .balanceWait true := by
  simp only [State.reconsidered]
  cases s.findLine id seq <;> rfl

/-- A pick with its mark. -/
theorem pickMarks_eq (s : State) (g : Index) : pickMarks s g = (pickTasks s g).map fun i => (i.task, s.reconsidered i.task) := rfl

theorem isOpen_eq_false {a : AuditTask} : a.isOpen = false ↔ a.state ≠ .running ∧ a.state ≠ .heldLog := by
  rw [Bool.eq_false_iff, ne_eq, isOpen_iff, not_or]

end Sys2Proof.Machine

namespace Sys2Proof.Machine

open Sys2Proof

variable {s : State} {g : Index}

/-- No turn in HOLD, nor for a group that is neither IDLE nor MOVING (R68, R116). -/
theorem turn_none (h : s.link.mode = .hold ∨ ∀ grp, s.groups.get g = some grp → grp.state ≠ .idle ∧ grp.state ≠ .moving) :
    turn g s = s := by
  unfold turn
  split
  · rename_i grp hm hg
    rcases h with h | h
    · rw [h] at hm
      cases hm
    · obtain ⟨hi, hmov⟩ := h grp hg
      split
      · rename_i hs
        exact absurd hs hi
      · rename_i hs
        exact absurd hs hmov
      · rfl
  · rfl

theorem tasksOf_perm (s : State) (g : Index) : (tasksOf s g).Perm (storeTasks s g ++ pickTasks s g ++ auditTasks s g) :=
  rank_perm _ _

/-- The task changes of one record are as the two records differ (R115). -/
theorem recordChanges_eq {a b : AuditTask} {n : Nat}
    (opened : (a.state ≠ .running ∧ a.state ≠ .heldLog) ∧ (b.state = .running ∨ b.state = .heldLog) → n = 1)
    (changed : (a.state = .running ∨ a.state = .heldLog) ∨ (b.state ≠ .running ∧ b.state ≠ .heldLog) →
      (a.state = b.state → a.list = b.list → n = if a.scan = b.scan then 0 else 1)
      ∧ (a.state ≠ b.state ∨ a.list ≠ b.list → n = (if a.state = b.state then 0 else 1) + (a.list.length - b.list.length))) :
    recordChanges (some a) (some b) = n := by
  unfold recordChanges
  dsimp only
  cases ha : a.isOpen with
  | false =>
    cases hb : b.isOpen with
    | true =>
      rw [opened ⟨isOpen_eq_false.mp ha, isOpen_iff.mp hb⟩]
      rfl
    | false =>
      obtain ⟨hsame, hdiff⟩ := changed (.inr (isOpen_eq_false.mp hb))
      rw [if_neg (by decide)]
      split
      · rename_i h
        rw [hsame h.1 h.2]
      · rename_i h
        rw [hdiff (not_and_or.mp h)]
  | true =>
    obtain ⟨hsame, hdiff⟩ := changed (.inl (isOpen_iff.mp ha))
    rw [if_neg (by cases b.isOpen <;> decide)]
    split
    · rename_i h
      rw [hsame h.1 h.2]
    · rename_i h
      rw [hdiff (not_and_or.mp h)]

/-- A line still in its slot, of a group, that a turn made SHORT. -/
theorem faceChecksEnded_eq (s t : State) (g : Index) (isShort : LineState → Bool) (h : ∀ st, isShort st = st.isShort) :
    faceChecksEnded s t g = (s.sched.orders.flatMap fun e => (e.toList.flatMap fun o => o.lines.filter fun l =>
      (l.state == .reserved || l.state == .balanceWait false || l.state == .balanceWait true)
        && s.groupOf l.carousel == some g && (t.findLine o.id l.seq).any fun l' => isShort l'.state)).length := by
  unfold faceChecksEnded
  refine congrArg (fun f => (s.sched.orders.flatMap f).length) (funext fun e => ?_)
  cases e with
  | none => rfl
  | some o =>
    rw [Option.toList_some, List.flatMap_cons, List.flatMap_nil, List.append_nil]
    refine congrArg (fun f => o.lines.filter f) (funext fun l => ?_)
    have hin : l.state.inSlot = (l.state == .reserved || l.state == .balanceWait false || l.state == .balanceWait true) := by
      rw [Bool.eq_iff_iff, inSlot_iff]
      simp [or_assoc]
    rw [hin]
    simp only [h]

end Sys2Proof.Machine

namespace Sys2Proof.Certificates

open Sys2Proof Sys2Proof.Machine

/-- Settles O44: the tasks by membership, the offer by the first task that passes, and turns and task changes by counting. -/
theorem turnOffersBestTask : Obligations.TurnOffersBestTask := by
  refine ⟨fun s g h => turn_none h, fun s g => ⟨⟨tasksOf_perm s g, rank_sorted _ _, rfl⟩, fun t => mem_storeTasks,
      fun t => ?picks, fun t grp hg => ?audits⟩, fun grp geo c ref t hc href ht => ⟨fun h => ?distance,
      fun hs hk => distanceTo_none ((reference_k hs).trans hk) geo c⟩, fun s g grp c hg => ⟨fun p r m hr hm => ?storeGate,
      fun id seq l sl hl hsl => ?pickGate, fun x => rfl⟩,
    fun s => ⟨fun id seq => ⟨markWait_pick id seq s, fun l hl => ?waits⟩, fun p r hr => markWait_store hr,
      fun hs t e => markWait_flagSet hs t e⟩, fun s g grp k clear hg hk hn hcur hclear => ?promotion,
    fun s g grp k c ts a hg hk hn ha => fillCurrent_noNext hg hk hn ha ts, fun events before after => rfl,
    fun n gs s => ⟨turnRounds_nil n s, fun hne => ?rounds⟩, fun s => ?pruned, fun events s t g => ?due,
    fun s t g picks stores audits hp hst ha => ?changes, fun s t g audits ha => ?ended⟩
  case picks =>
    rw [mem_pickTasks]
    simp only [eligible_iff, past_iff, and_assoc]
  case audits =>
    rw [mem_auditTasks hg]
    simp only [namedCarrier_eq_some, and_assoc]
  case distance =>
    subst ht
    refine distanceTo_reference ?_ hc href
    rcases h with ⟨m, hs, hm, rfl⟩ | ⟨hs, hk⟩
    · exact reference_target hs hm
    · exact (reference_k hs).trans hk
  case storeGate =>
    have hmass : taskMass s (.store p) = some (m : Int) := by rw [taskMass_store, hr, Option.bind_some, hm, Option.map_some]
    unfold preEvaluates
    rw [hmass]
    exact gatePasses_iff hg c m
  case pickGate =>
    have hmass : taskMass s (.pick id seq) = some (-(sl.recorded : Int)) := by
      rw [taskMass_pick, hl, Option.bind_some, hsl, Option.map_some]
    unfold preEvaluates
    rw [hmass]
    exact gatePasses_iff hg c _
  case waits =>
    change (s.setLine id seq (.balanceWait false)).findLine id seq = _
    rw [findLine_setLine_same, hl, Option.map_some]
  case promotion =>
    have hclosed : SameTasks s clear := hclear ▸ sameTasks_closed hg
    have hgc : clear.groups.get g = some { grp with arrivalOpen := false } := by rw [hclear, setGroup_groups, Quad.get_set_same]
    have hports : clear.ports = s.ports := by rw [hclear, setGroup_ports]
    have hoffer : offered clear g k = (usableTasks s g).filter fun u => u.carrier != (s.geometry g).atPort k := by
      unfold offered
      rw [hclosed.usableTasks hports, hclosed.geometry]
    have hpre : ∀ u c, preEvaluates clear g u c = preEvaluates s g u c := fun u c => by
      rw [hclear]
      exact preEvaluates_setGroup (grp' := { grp with arrivalOpen := false }) hg rfl rfl rfl u c
    have hpoint : promotionPoint g s = offerBest g clear := by rw [promotionPoint_offers hg hn, hclear]
    refine ⟨fun s' before after t hl hb ht hs' => ?_, fun ts hts hno => ?_⟩
    · rw [hpoint]
      exact offerBest_some hgc hk (hoffer.trans hl) (fun u hu => (hpre u.task u.carrier).trans (hb u hu))
        ((hpre t.task t.carrier).trans ht) hs'
    · rw [hpoint, offerBest_none hgc hk, hoffer, hts]
      intro u hu
      rw [hoffer, hts] at hu
      exact (hpre u.task u.carrier).trans (hno u hu)
  case rounds => exact ⟨_, _, _, freeOrder_perm s.choices gs, rfl, turnRounds_succ hne n s⟩
  case pruned => exact pruneLists_spec s
  case due =>
    rw [dueTurns_count]
    unfold turnsDue portsFreed
    simp only [portFreed_eq]
  case changes =>
    have hpicks : ∀ u, picks u = pickMarks u g := fun u => by
      rw [hp, pickMarks_eq]
      refine List.map_congr_left fun i hi => ?_
      obtain ⟨n, o, l, -, -, -, -, rfl⟩ := mem_pickTasks.mp hi
      exact congrArg (Prod.mk _) (reconsidered_pick u o.id l.seq).symm
    have hstores : ∀ u, stores u = storeMarks u g := fun u => by rw [hst]; rfl
    have haudits : ∀ x, audits x = recordChanges (s.audit.tasks.get x) (t.audit.tasks.get x) := fun x => by
      have h := ha x
      cases hs : s.audit.tasks.get x with
      | none =>
        cases hx : t.audit.tasks.get x with
        | none =>
          rw [hs, hx] at h
          exact h
        | some b =>
          rw [hs, hx] at h
          exact h
      | some a =>
        cases hx : t.audit.tasks.get x with
        | none =>
          rw [hs, hx] at h
          exact h
        | some b =>
          rw [hs, hx] at h
          exact (recordChanges_eq h.1 h.2).symm
    unfold taskChanges
    rw [markChanges_eq, markChanges_eq, funext haudits]
    simp only [hpicks, hstores, contains_eq_decide]
    congr!
  case ended =>
    have haudits : ∀ x, audits x = auditScansEnded (s.audit.tasks.get x) (t.audit.tasks.get x) := fun x => by
      have h := ha x
      cases hs : s.audit.tasks.get x with
      | none =>
        rw [hs] at h
        exact h
      | some a =>
        cases hx : t.audit.tasks.get x with
        | none =>
          rw [hs, hx] at h
          exact h
        | some b =>
          rw [hs, hx] at h
          exact h
    rw [scansEnded_count, funext haudits]
    exact congrArg (_ + ·) (faceChecksEnded_eq s t g _ fun st => by cases st <;> rfl)

end Sys2Proof.Certificates

/-! SUPPORT. The turn of a group by its state, the starts at its ports, NEXT's test at a promotion point, and the NEXT choice. -/

namespace Sys2Proof.Machine

open Sys2Proof

variable {s : State} {g x : Index}

/-! ## The turn (R116, R117, R119) -/

theorem foldl_portStart (g : Index) (xs : List Index) (s : State) (b : Bool) :
    xs.foldl (fun a x => ((portStart g x a.1).1, a.2 || (portStart g x a.1).2)) (s, b) =
      ((portStarts g xs s).1, b || (portStarts g xs s).2) := by
  induction xs generalizing s b with
  | nil => rw [List.foldl_nil, portStarts, Bool.or_false]
  | cons x xs ih => rw [List.foldl_cons, ih, portStarts, Bool.or_assoc]

theorem turn_idle {grp : Group} (hm : s.link.mode = .normal) (hg : s.groups.get g = some grp) (hst : grp.state = .idle) :
    turn g s = idleTurn g s := by
  unfold turn
  rw [hm, hg]
  simp only [hst]

theorem turn_moving {grp : Group} (hm : s.link.mode = .normal) (hg : s.groups.get g = some grp) (hst : grp.state = .moving) :
    turn g s = movingTurn g s := by
  unfold turn
  rw [hm, hg]
  simp only [hst]

theorem movingTurn_none {grp : Group} (hg : s.groups.get g = some grp) (hc : grp.current = none) : movingTurn g s = s := by
  unfold movingTurn
  rw [hg]
  simp only [hc]

theorem movingTurn_some {grp : Group} {m : Move} (hg : s.groups.get g = some grp) (hc : grp.current = some m) :
    movingTurn g s = nextChoice g m.carrier (joinList g s) := by
  unfold movingTurn
  rw [hg]
  simp only [hc]

/-- What an IDLE group's turn does after the starts at its ports. -/
def afterStarts (g : Index) (s : State) (started : Bool) : State :=
  match s.groups.get g with
  | none => s
  | some grp =>
    match grp.current with
    | some m => nextChoice g m.carrier (joinList g s)
    | none =>
      if portsQuiet s g && !started then promotionPoint g s
      else if grp.arrivalOpen then
        match grp.k with
        | some k => nextChoice g ((s.geometry g).atPort k) s
        | none => s
      else s

theorem idleTurn_eq {grp : Group} (hg : s.groups.get g = some grp) : idleTurn g s =
    afterStarts g (portStarts g (freeOrder s.choices grp.members) (spendChoices grp.members s)).1
      (portStarts g (freeOrder s.choices grp.members) (spendChoices grp.members s)).2 := by
  unfold idleTurn
  rw [membersOf_some hg]
  rfl

theorem afterStarts_current {grp : Group} {m : Move} (hg : s.groups.get g = some grp) (hc : grp.current = some m) (started : Bool) :
    afterStarts g s started = nextChoice g m.carrier (joinList g s) := by
  unfold afterStarts
  rw [hg]
  simp only [hc]

theorem afterStarts_promotes {grp : Group} (hg : s.groups.get g = some grp) (hc : grp.current = none)
    (hq : portsQuiet s g = true) : afterStarts g s false = promotionPoint g s := by
  unfold afterStarts
  rw [hg]
  simp only [hc, hq]
  rfl

theorem afterStarts_busy {grp : Group} {started : Bool} (hg : s.groups.get g = some grp) (hc : grp.current = none)
    (hb : (portsQuiet s g && !started) = false) : afterStarts g s started =
      if grp.arrivalOpen then grp.k.elim s fun k => nextChoice g ((s.geometry g).atPort k) s else s := by
  unfold afterStarts
  rw [hg]
  simp only [hc, hb, if_false, Bool.false_eq_true]
  cases grp.k <;> rfl

theorem joinList_eq {grp : Group} {m : Move} (hg : s.groups.get g = some grp) (hc : grp.current = some m) :
    joinList g s = s.setGroup g (some { grp with current := some { m with
      tasks := m.tasks ++ ((tasksOf s g).filter fun t => t.carrier == m.carrier && !m.tasks.contains t.task).map
        TaskItem.task } }) := by
  unfold joinList
  rw [hg]
  simp only [hc]
  exact modGroup_of_get hg _

/-! ## Port starts (R117) -/

/-- The start that a task asks for. -/
def askTask (s : State) : Task → State × Bool
  | .pick id seq => askFaceCheck id seq s
  | .store p => askInsertion p s
  | .audit x => askAuditScan x s

theorem startFirst_cons (t : TaskItem) (ts : List TaskItem) (s : State) :
    startFirst (t :: ts) s = if (askTask s t.task).2 then askTask s t.task else startFirst ts (askTask s t.task).1 := by
  rw [startFirst]
  cases t.task <;> rfl

/-- A task asked starts, or the next is taken. -/
theorem startFirst_asked {t : TaskItem} {u : State} {began : Bool} (h : askTask s t.task = (u, began)) (ts : List TaskItem) :
    startFirst (t :: ts) s = if began = true then (u, true) else startFirst ts u := by
  rw [startFirst_cons, h]
  cases began <;> rfl

theorem startFirst_started {t : TaskItem} {u : State} (h : askTask s t.task = (u, true)) (ts : List TaskItem) :
    startFirst (t :: ts) s = (u, true) := startFirst_asked h ts

theorem portStart_nothing (h : (s.ports.get x).shuttle ≠ .homeEmpty ∨ (s.ports.get x).load = true ∨ (s.ports.get x).scan ≠ none
    ∨ s.carrierAt x = none) : portStart g x s = (s, false) := by
  unfold portStart
  split
  · rename_i hr
    obtain ⟨hsh, hload, hscan⟩ := ready_iff.mp hr
    rcases h with h | h | h | h
    · exact absurd hsh h
    · rw [hload] at h
      cases h
    · exact absurd hscan h
    · rw [h]
  · rfl

theorem portStart_ready {c : Nat} (hsh : (s.ports.get x).shuttle = .homeEmpty) (hload : (s.ports.get x).load = false)
    (hscan : (s.ports.get x).scan = none) (hc : s.carrierAt x = some c) : portStart g x s =
      startFirst ((usableTasks s g).filter fun t => t.port == x && t.carrier == c) s := by
  unfold portStart
  rw [if_pos (ready_iff.mpr ⟨hsh, hload, hscan⟩), hc]

theorem askFaceCheck_starts {id : Id32} {seq : Nat} {l : Line} {sl : Slot} (hl : s.findLine id seq = some l)
    (hsl : s.slot? l.carousel l.carrier l.level = some sl) (hr : (s.ports.get l.carousel).ready = true)
    (hc : s.carrierAt l.carousel = some l.carrier) (hres : sl.reservation = .outbound id seq .planned) :
    askFaceCheck id seq s = (startScan l.carousel (.faceCheck id seq) l.carrier true [l.level] s, true) := by
  unfold askFaceCheck
  rw [hl]
  simp only [hsl]
  exact if_pos ⟨hr, hc, hres⟩

theorem askAuditScan_starts {c : Nat} {a : AuditTask} {cfg : CarouselConfig} (ha : s.audit.tasks.get x = some a)
    (hc : s.carrierAt x = some c) (hcfg : (s.carousels.get x).config = some cfg) (hr : (s.ports.get x).ready = true)
    (hlist : c ∈ a.list) : askAuditScan x s = (startScan x .audit c (a.check == .tag) (List.range cfg.levels)
      (s.setTask x (some { a with scan := some c })), true) := by
  unfold askAuditScan
  rw [ha, hc, hcfg]
  dsimp only
  rw [if_pos ⟨hr, List.contains_iff_mem.mpr hlist⟩, modTask_of_get ha]

/-! ## Scans (R81, R143) -/

/-- The reports that a scan begins with. -/
def beginningScan (s : State) (p : Index) (user : ScanUser) (c : Nat) (tags : Bool) (levels : List Nat) : Scan :=
  { user := user, carrier := c, tags := tags,
    levels := levels.map fun l => { level := l, report := firstReport (s.ports.get p) tags l } }

theorem startScan_eq (s : State) (p : Index) (user : ScanUser) (c : Nat) (tags : Bool) (levels : List Nat) :
    startScan p user c tags levels s = if (beginningScan s p user c tags levels).complete then
        endScan p (s.setPort p { s.ports.get p with scan := some (beginningScan s p user c tags levels) })
      else s.setPort p { s.ports.get p with scan := some (beginningScan s p user c tags levels) } := rfl

theorem firstReport_eq (port : Port) (tags : Bool) (l : Nat) : firstReport port tags l =
    if port.presence.getD l false = false then some .absent else if tags = true then none else some .present := by
  unfold firstReport
  cases port.presence.getD l false <;> rfl

/-! ## NEXT at a promotion point (R72) -/

theorem stillWanted_iff {grp : Group} {n : Target} : stillWanted s g grp n = true ↔ n.ended = false ∧ grp.k ≠ some n.target
    ∧ taskStands s g n.task n.carrier = true ∧ taskReady s n.task = true
    ∧ ∃ p, taskPort s n.task = some p ∧ (s.ports.get p).shuttle = .homeEmpty := by
  unfold stillWanted stillPending
  have hport : (match taskPort s n.task with
      | some p => (s.ports.get p).shuttle == .homeEmpty
      | none => false) = true ↔ ∃ p, taskPort s n.task = some p ∧ (s.ports.get p).shuttle = .homeEmpty := by
    cases taskPort s n.task <;> simp
  rw [Bool.and_eq_true, Bool.and_eq_true, Bool.and_eq_true, Bool.and_eq_true, bne_iff_ne, Bool.not_eq_true']
  constructor
  · rintro ⟨⟨⟨⟨he, hs⟩, hr⟩, hp⟩, hk⟩
    exact ⟨he, hk, hs, hr, hport.mp hp⟩
  · rintro ⟨he, hk, hs, hr, hp⟩
    exact ⟨⟨⟨⟨he, hs⟩, hr⟩, hport.mpr hp⟩, hk⟩

theorem wanted_pick {n : Target} {id : Id32} {seq : Nat} (ht : n.task = .pick id seq) :
    (taskStands s g n.task n.carrier = true ∧ taskReady s n.task = true
      ∧ ∃ p, taskPort s n.task = some p ∧ (s.ports.get p).shuttle = .homeEmpty) ↔
    ∃ l, s.findLine id seq = some l ∧ s.groupOf l.carousel = some g ∧ l.carrier = n.carrier
      ∧ (l.state = .reserved ∨ l.state = .balanceWait true) ∧ (s.ports.get l.carousel).shuttle = .homeEmpty := by
  rw [ht, taskStands_pick]
  simp only [taskReady, taskPort]
  cases hl : s.findLine id seq with
  | none => simp
  | some l =>
    simp only [Option.elim_some, Bool.and_eq_true, beq_iff_eq, bne_iff_ne, Option.map_some, Option.some.injEq, exists_eq_left', inSlot_iff]
    constructor
    · rintro ⟨⟨⟨hg, hc⟩, hin⟩, hw, hp⟩
      refine ⟨hg, hc, ?_, hp⟩
      rcases hin with h | h | h
      · exact .inl h
      · exact absurd h hw
      · exact .inr h
    · rintro ⟨hg, hc, hst, hp⟩
      refine ⟨⟨⟨hg, hc⟩, hst.imp_right .inr⟩, ?_, hp⟩
      rcases hst with h | h <;> simp [h]

theorem wanted_store {n : Target} {p : Index} (ht : n.task = .store p) :
    (taskStands s g n.task n.carrier = true ∧ taskReady s n.task = true
      ∧ ∃ q, taskPort s n.task = some q ∧ (s.ports.get q).shuttle = .homeEmpty) ↔
    ∃ r, s.stores.get p = some r ∧ s.groupOf p = some g ∧ r.state = .placed ∧ r.chosen.map Prod.fst = some n.carrier
      ∧ r.cond ≠ .balanceWait ∧ (s.ports.get p).shuttle = .homeEmpty := by
  rw [ht]
  simp only [taskStands, taskReady, taskPort]
  cases hr : s.stores.get p with
  | none => simp
  | some r => simp [and_assoc]

theorem wanted_audit {n : Target} {y : Index} (ht : n.task = .audit y) :
    (taskStands s g n.task n.carrier = true ∧ taskReady s n.task = true
      ∧ ∃ q, taskPort s n.task = some q ∧ (s.ports.get q).shuttle = .homeEmpty) ↔
    ∃ a, s.audit.tasks.get y = some a ∧ s.groupOf y = some g ∧ a.state = .running ∧ n.carrier ∈ a.list
      ∧ (s.ports.get y).shuttle = .homeEmpty := by
  rw [ht]
  simp only [taskStands, taskReady, taskPort]
  cases ha : s.audit.tasks.get y with
  | none => simp
  | some a =>
    simp only [Bool.and_eq_true, beq_iff_eq, List.contains_iff_mem, isOpen_iff, Option.some.injEq, exists_eq_left']
    constructor
    · rintro ⟨⟨⟨hg, -⟩, hl⟩, hr, hp⟩
      exact ⟨hg, hr, hl, hp⟩
    · rintro ⟨hg, hr, hl, hp⟩
      exact ⟨⟨⟨hg, .inl hr⟩, hl⟩, hr, hp⟩

theorem SameTasks.stillWanted {t : State} (h : SameTasks s t) (hp : t.ports = s.ports) (g : Index) (grp : Group) (n : Target) :
    stillWanted t g grp n = stillWanted s g grp n := by
  have hready : taskReady t n.task = taskReady s n.task := by
    cases n.task with
    | pick id seq => simp only [taskReady, h.findLine]
    | store p => simp only [taskReady, h.stores]
    | audit y => simp only [taskReady, h.tasks]
  have hport : taskPort t n.task = taskPort s n.task := by
    cases n.task with
    | pick id seq => simp only [taskPort, h.findLine]
    | _ => rfl
  rw [Bool.eq_iff_iff, stillWanted_iff, stillWanted_iff, h.taskStands, hready, hport, hp]

theorem promotionPoint_next {grp : Group} {n : Target} (hg : s.groups.get g = some grp) (hn : grp.next = some n) {c u : State}
    (hc : c = s.setGroup g (some { grp with arrivalOpen := false }))
    (hu : u = s.setGroup g (some { grp with arrivalOpen := false, next := none })) : promotionPoint g s =
      if stillWanted c g { grp with arrivalOpen := false } n then
        if preEvaluates c g n.task n.carrier then fillCurrent g n.carrier (n.task :: (tasksAt u g n.carrier).filter (· != n.task)) u
        else offerBest g (markWait n.task u)
      else offerBest g u := by
  have hget : c.groups.get g = some { grp with arrivalOpen := false } := by rw [hc, setGroup_groups, Quad.get_set_same]
  have hclear : clearNext g c = u := by
    unfold clearNext
    rw [modGroup_of_get hget, hc, setGroup_setGroup, hu]
  unfold promotionPoint
  rw [modGroup_of_get hg, ← hc]
  dsimp only
  rw [hget]
  simp only [hn, hclear]

/-- A promotion point of a group whose arrival is closed and whose NEXT is empty is an offer. -/
theorem promotionPoint_closed {grp : Group} (hg : s.groups.get g = some grp) (hn : grp.next = none) (ha : grp.arrivalOpen = false) :
    promotionPoint g s = offerBest g s := by
  have hsame : { grp with arrivalOpen := false } = grp := by rw [← ha]
  rw [promotionPoint_offers hg hn, hsame, setGroup_self _ hg]

/-! ## The NEXT choice (R61, R119) -/

theorem foldl_markWait_record (ts : List TaskItem) (s : State) :
    (ts.foldl (fun w u => markWait u.task w) s).groups = s.groups
      ∧ (ts.foldl (fun w u => markWait u.task w) s).carousels = s.carousels := by
  induction ts generalizing s with
  | nil => exact ⟨rfl, rfl⟩
  | cons t ts ih =>
    obtain ⟨hg, hc⟩ := ih (markWait t.task s)
    obtain ⟨flags, sts, os, h⟩ := markWait_record t.task s
    rw [List.foldl_cons]
    exact ⟨hg.trans (by rw [h]), hc.trans (by rw [h])⟩

theorem writeNext_held {grp : Group} {i : TaskItem} (hg : s.groups.get g = some grp) (h : grp.k = none
    ∨ (∃ m, grp.current = some m ∧ m.target = (s.geometry g).targetOf i.carrier)
    ∨ ∃ n, grp.next = some n ∧ n.task = i.task ∧ n.carrier = i.carrier ∧ n.ended = false) : writeNext g i s = s := by
  unfold writeNext
  rw [hg]
  refine if_pos ?_
  rcases h with h | ⟨m, hm, ht⟩ | ⟨n, hn, ht, hc, he⟩
  · rw [h]
    rfl
  · simp [hm, ht]
  · simp [hn, ht, hc, he]

theorem writeNext_free {grp : Group} {i : TaskItem} (hg : s.groups.get g = some grp) (h : ¬ (grp.k = none
    ∨ (∃ m, grp.current = some m ∧ m.target = (s.geometry g).targetOf i.carrier)
    ∨ ∃ n, grp.next = some n ∧ n.task = i.task ∧ n.carrier = i.carrier ∧ n.ended = false)) : writeNext g i s =
      s.setGroup g (some { grp with
        next := some { target := (s.geometry g).targetOf i.carrier, carrier := i.carrier, task := i.task, ended := false } }) := by
  unfold writeNext
  rw [hg]
  refine (if_neg fun hb => h ?_).trans (modGroup_of_get hg _)
  rw [Bool.or_eq_true, Bool.or_eq_true, Option.isNone_iff_eq_none] at hb
  rcases hb with (hk | hclash) | hsame
  · exact .inl hk
  · right; left
    cases hm : grp.current with
    | none =>
      rw [hm] at hclash
      cases hclash
    | some m =>
      rw [hm] at hclash
      exact ⟨m, rfl, beq_iff_eq.mp hclash⟩
  · right; right
    cases hn : grp.next with
    | none =>
      rw [hn] at hsame
      cases hsame
    | some n =>
      rw [hn] at hsame
      simp only [Bool.and_eq_true, beq_iff_eq, Bool.not_eq_true'] at hsame
      exact ⟨n, rfl, hsame.1.1, hsame.1.2, hsame.2⟩

theorem nextChoice_none {ts : List TaskItem} {past : Nat} (hl : ((usableTasks s g).filter fun u => u.carrier != past) = ts)
    (h : ∀ u ∈ ts, preEvaluates s g u.task u.carrier = false) :
    nextChoice g past s = ts.foldl (fun w u => markWait u.task w) s := by
  unfold nextChoice
  rw [hl, firstPassing_none s h]

theorem nextChoice_some {before after : List TaskItem} {i : TaskItem} {past : Nat}
    (hl : ((usableTasks s g).filter fun u => u.carrier != past) = before ++ i :: after)
    (hb : ∀ u ∈ before, preEvaluates s g u.task u.carrier = false) (hi : preEvaluates s g i.task i.carrier = true) :
    nextChoice g past s = writeNext g i (before.foldl (fun w u => markWait u.task w) s) := by
  unfold nextChoice
  rw [hl, firstPassing_some s hb hi]

end Sys2Proof.Machine

namespace Sys2Proof.Certificates

open Sys2Proof Sys2Proof.Machine

/-- Settles O45: the turn by the group's state, each port's start, NEXT's test, and the NEXT choice. -/
theorem turnStartsPromotesAndChooses : Obligations.TurnStartsPromotesAndChooses := by
  refine ⟨fun s g grp hm hg => ⟨fun hst => ?idle, fun hst => ⟨fun hc => ?still, fun m hc => ?moving⟩, fun m hc => joinList_eq hg hc⟩,
    fun s g x => ⟨fun h => portStart_nothing h, fun c ts hsh hload hscan hc hts => ?start⟩,
    fun s p user c tags levels sc u hsc hu => ?scan, fun s u g grp n wanted hg hn hu hw => ?next,
    fun s s' g grp past before after t held hg hb hs' hheld => ?choice⟩
  case idle =>
    have hturn : turn g s = afterStarts g (portStarts g (freeOrder s.choices grp.members) (spendChoices grp.members s)).1
        (portStarts g (freeOrder s.choices grp.members) (spendChoices grp.members s)).2 := by
      rw [turn_idle hm hg hst, idleTurn_eq hg]
    refine ⟨_, _, _, _, freeOrder_perm s.choices grp.members, (foldl_portStart g _ (spendChoices grp.members s) false).symm,
      fun new hnew => ⟨fun m hc => hturn.trans (afterStarts_current hnew hc _), fun hc hstart hquiet => ?_, fun hc hbusy => ?_⟩⟩
    · rw [hturn]
      rw [Bool.false_or] at hstart
      rw [hstart]
      exact afterStarts_promotes hnew hc ((portsQuiet_iff hnew).mpr hquiet)
    · rw [Bool.false_or] at hbusy
      have hb : (portsQuiet (portStarts g (freeOrder s.choices grp.members) (spendChoices grp.members s)).1 g
          && !(portStarts g (freeOrder s.choices grp.members) (spendChoices grp.members s)).2) = false := by
        refine Bool.eq_false_iff.mpr fun h => ?_
        rw [Bool.and_eq_true, Bool.not_eq_true'] at h
        obtain ⟨hquiet, hnone⟩ := h
        rcases hbusy with hs | ⟨x, hx, hx'⟩
        · rw [hs] at hnone
          cases hnone
        · obtain ⟨h1, h2, h3⟩ := (portsQuiet_iff hnew).mp hquiet x hx
          rcases hx' with h | h | h
          · exact h1 h
          · exact h2 h
          · exact h h3
      have hafter := hturn.trans (afterStarts_busy hnew hc hb)
      refine ⟨fun h => hafter.trans ?_, fun k ho hk => hafter.trans ?_⟩
      · rcases h with h | h
        · rw [h]
          rfl
        · rw [h, Option.elim_none, ite_self]
      · rw [ho, hk]
        rfl
  case still => rw [turn_moving hm hg hst, movingTurn_none hg hc]
  case moving => rw [turn_moving hm hg hst, movingTurn_some hg hc]
  case start =>
    have hstart : portStart g x s = startFirst ts s := by rw [portStart_ready hsh hload hscan hc, hts]
    have hready : (s.ports.get x).ready = true := ready_iff.mpr ⟨hsh, hload, hscan⟩
    refine ⟨fun hnil => by rw [hstart, hnil, startFirst], fun t rest hcons => ?_⟩
    rw [hstart, hcons]
    refine ⟨fun id seq l sl ht hl hx hlc hsl hres => ?_, fun p ht => ⟨(askInsertion p s).1, (askInsertion p s).2, rfl, ?_⟩, fun a cfg ht ha hcfg hlist => ?_⟩
    · subst hx hlc
      exact startFirst_started (by rw [ht]; exact askFaceCheck_starts hl hsl hready hc hres) rest
    · exact startFirst_asked (by rw [ht]; rfl) rest
    · exact startFirst_started (by rw [ht]; exact askAuditScan_starts ha hc hcfg hready hlist) rest
  case scan =>
    have hbegin : beginningScan s p user c tags levels = sc := by
      rw [hsc]
      unfold beginningScan
      simp only [firstReport_eq]
    rw [startScan_eq, hbegin, ← hu]
    refine ⟨fun ⟨e, he, hnone⟩ => if_neg fun hcomp => ?_, fun hall => if_pos ?_⟩
    · have := complete_iff.mp hcomp e he
      exact this hnone
    · exact complete_iff.mpr hall
  case next =>
    have hwanted : stillWanted (s.setGroup g (some { grp with arrivalOpen := false })) g { grp with arrivalOpen := false } n = true ↔
        wanted := by
      rw [(sameTasks_closed hg).stillWanted rfl, stillWanted_iff, hw]
      refine and_congr_right fun _ => and_congr_right fun _ => ?_
      cases ht : n.task with
      | pick id seq =>
        have h := wanted_pick (s := s) (g := g) ht
        rw [ht] at h
        exact h
      | store p =>
        have h := wanted_store (s := s) (g := g) ht
        rw [ht] at h
        exact h
      | audit y =>
        have h := wanted_audit (s := s) (g := g) ht
        rw [ht] at h
        exact h
    have hpre : preEvaluates (s.setGroup g (some { grp with arrivalOpen := false })) g n.task n.carrier =
        preEvaluates s g n.task n.carrier :=
      preEvaluates_setGroup (grp' := { grp with arrivalOpen := false }) hg rfl rfl rfl n.task n.carrier
    have hpoint := promotionPoint_next hg hn rfl hu
    have hgu : u.groups.get g = some { grp with arrivalOpen := false, next := none } := by rw [hu, setGroup_groups, Quad.get_set_same]
    have hgw : (markWait n.task u).groups.get g = some { grp with arrivalOpen := false, next := none } := by rw [markWait_groups, hgu]
    refine ⟨fun h hp => ?_, fun h hp => ?_, fun h => ?_⟩
    · rw [hpoint, if_pos (hwanted.mpr h), hpre, if_pos hp]
      rfl
    · rw [hpoint, if_pos (hwanted.mpr h), hpre, if_neg (by rw [hp]; decide), promotionPoint_closed hgw rfl rfl]
    · rw [hpoint, if_neg (mt hwanted.mp h), promotionPoint_closed hgu rfl rfl]
  case choice =>
    obtain ⟨hgroups, hcarousels⟩ := foldl_markWait_record before s
    have hgs : s'.groups.get g = some grp := by rw [hs', hgroups, hg]
    have hgeo : s'.geometry g = s.geometry g := by
      unfold State.geometry State.geometryOf State.membersOf
      rw [hs', hgroups, hcarousels]
    refine ⟨fun hl => (nextChoice_none hl hb).trans hs'.symm, fun hl ht => ?_⟩
    have hchoice : nextChoice g past s = writeNext g t s' := by rw [nextChoice_some hl hb ht, hs']
    refine ⟨fun h => hchoice.trans (writeNext_held hgs ?_), fun h => hchoice.trans ?_⟩
    · rw [hgeo]
      exact hheld.mp h
    · rw [writeNext_free hgs (by rw [hgeo]; exact mt hheld.mpr h), hgeo]

end Sys2Proof.Certificates

/-! SUPPORT. The refutation of O59. `StockSound` asks nothing of the conditions in a map that is not COMMITTED, and the walk of
MAP_COMMIT (R26) looks at coherence, limits and tags, not at conditions: a BLOCKED record without a jam finding, standing in an
OPEN map, is committed as it is, and R30 allows no such record in a COMMITTED map. -/

namespace Sys2Proof.Machine

open Sys2Proof

/-! ## The state -/

/-- The smallest loop that R4 accepts, with one level. -/
def smallBox : CarouselConfig where
  carriers := 12
  bend := 1
  port := 2
  levels := 1
  carrierLimit := 300
  pulses := 512
  levelLimits := [300]

/-- A HELD slot that is BLOCKED without a jam finding. -/
def unfoundBlock : Slot := { emptySlot with content := .held, tag := 1#32, recorded := 220, counted := 220, condition := .blocked }

/-- An OPEN map with that slot on carrier 0. -/
def blockedMap : SlotMap where
  state := .opened
  carriers := [unfoundBlock] :: List.replicate 11 [emptySlot]
  finding := none

/-- A part that listens, with that map on carousel A and no group, when MAP_COMMIT comes. -/
def committing : State := { State.reset with
  link := { Link.powerOn with address := 11, sampled := true, receiver := .hunt, wdTimer := some 2000 }
  carousels := State.reset.carousels.set 0 { config := some smallBox, map := blockedMap }
  pending := [.mapCommit [0#8]] }

theorem committing_serviceGroup (x : Index) : committing.serviceGroup x = none := reset_serviceGroup x

theorem committing_carousel (x : Index) : committing.carousels.get x =
    if x = 0 then { config := some smallBox, map := blockedMap } else Carousel.powerOn := by
  change (State.reset.carousels.set 0 _).get x = _
  rw [Quad.get_set]
  simp [State.reset]

/-! ## It meets what the obligation asks -/

theorem balanceInv_committing : BalanceInv committing := by
  have noGroup : ∀ (g : Index) (grp : Group), committing.groups.get g ≠ some grp := fun g grp h => by
    change State.reset.groups.get g = some grp at h
    simp [State.reset] at h
  refine ⟨fun g _ _ _ _ h => absurd h (noGroup g _), fun x cfg h => ?_, fun g _ h => absurd h (noGroup g _),
    fun g _ h => absurd h (noGroup g _), fun g _ h => absurd h (noGroup g _), fun g _ h => absurd h (noGroup g _)⟩
  rw [committing_carousel] at h
  split at h
  · cases h
    exact ⟨by decide, by decide, by decide⟩
  · cases h

theorem stockSound_committing : StockSound committing where
  members g grp h := by
    change State.reset.groups.get g = some grp at h
    simp [State.reset] at h
  slots x h := by
    rw [committing_carousel] at h
    split at h <;> cases h
  quiet x _ e he := by
    rw [committing_carousel] at he
    split at he
    · have quiet : ∀ e ∈ blockedMap.walk, e.2.2.reservation = .none ∧ e.2.2.counted = e.2.2.recorded := by decide
      exact quiet e he
    · cases he
  serving x h := absurd (committing_serviceGroup x) h
  infeed := stockSound_reset.infeed
  store := stockSound_reset.store
  inserting p j h := stockSound_reset.store p h |>.elim fun r hr => absurd hr.1 (by simp [State.reset])
  extracting p j h := by
    change (State.reset.ports.get p).shuttle = .extracting at h
    simp [State.reset, Port.powerOn] at h

/-! ## What the step makes of it -/

/-- The map committed. -/
def committed : State := answer 0x22#8
  (committing.heard.setMap 0 { blockedMap with state := .committed, finding := none },
    .ack (u16 blockedMap.held.length ++ u32 (blockedMap.held.map Slot.recorded).sum))

theorem step_committing : step committing = .next { committed with pending := [] } := by
  have walked : walkCarriers ({ committing with pending := [] } : State).heard smallBox 0 blockedMap.carriers [] = none := by decide
  exact exec_mapCommit_opened (s := { committing with pending := [] }) (x := 0) ⟨by decide, by decide⟩ rfl rfl walked

theorem not_stockSound_committed : ¬ StockSound { committed with pending := [] } := fun h => by
  have sound : SlotSound unfoundBlock := h.slots 0 rfl (0, 0, unfoundBlock) (by decide)
  obtain ⟨-, ⟨hf, -⟩ | ⟨hf, -⟩⟩ := sound.blocked rfl <;> cases hf

end Sys2Proof.Machine

namespace Sys2Proof.Certificates

open Sys2Proof Sys2Proof.Machine

/-- Refutes O59: MAP_COMMIT commits a BLOCKED record without a jam finding that stood in the OPEN map. -/
theorem not_stepKeepsStockAndTagLaw : ¬ Obligations.StepKeepsStockAndTagLaw := fun h =>
  not_stockSound_committed (h.1 _ _ balanceInv_committing stockSound_committing step_committing)

end Sys2Proof.Certificates

/-! SUPPORT. The books: the configurations and slot maps, and of each group its members, its place in or out of service and its
profiles. What `ProfilesDefined` says depends on them alone; most operations leave them as they are. -/

namespace Sys2Proof.Machine

open Sys2Proof

/-! ## The books -/

/-- The members of a group, whether it is OFFLINE, and its profiles. -/
def Group.books (grp : Group) : List Index × Bool × List Int × List Int :=
  (grp.members, decide (grp.state = .offline), grp.effective, grp.planned)

/-- The members of a group, and whether it is OFFLINE. -/
def Group.standing (grp : Group) : List Index × Bool := (grp.members, decide (grp.state = .offline))

/-- The carousels, and the books of the groups. -/
def State.books (s : State) : Quad Carousel × Quad (Option (List Index × Bool × List Int × List Int)) :=
  (s.carousels, s.groups.map (Option.map Group.books))

theorem Group.books_eq {a b : Group} (hm : b.members = a.members) (ho : b.state = .offline ↔ a.state = .offline)
    (he : b.effective = a.effective) (hp : b.planned = a.planned) : b.books = a.books := by
  unfold Group.books
  rw [hm, he, hp, decide_eq_decide.mpr ho]

theorem Group.of_books {a b : Group} (h : b.books = a.books) : b.members = a.members ∧ (b.state = .offline ↔ a.state = .offline)
    ∧ b.effective = a.effective ∧ b.planned = a.planned := by
  unfold Group.books at h
  simp only [Prod.mk.injEq, decide_eq_decide] at h
  exact h

theorem Group.books_of_noteless {a b : Group} (h : b.noteless = a.noteless) : b.books = a.books :=
  show b.noteless.books = a.noteless.books by rw [h]

section

variable {s t : State}

theorem books_of (hc : t.carousels = s.carousels) (hg : t.groups = s.groups) : t.books = s.books := by
  unfold State.books
  rw [hc, hg]

theorem carousels_of_books (h : t.books = s.books) : t.carousels = s.carousels := congrArg Prod.fst h

theorem groups_of_books (h : t.books = s.books) (g : Index) : (t.groups.get g).map Group.books = (s.groups.get g).map Group.books := by
  have hg := congrArg (fun b => b.2.get g) h
  simpa [State.books] using hg

theorem group_of_books (h : t.books = s.books) {g : Index} {b : Group} (hb : t.groups.get g = some b) :
    ∃ a, s.groups.get g = some a ∧ b.books = a.books := by
  have hg := groups_of_books h g
  rw [hb] at hg
  obtain ⟨a, ha, he⟩ := Option.map_eq_some_iff.mp hg.symm
  exact ⟨a, ha, he.symm⟩

theorem books_set {g : Index} {a b : Group} (hg : s.groups.get g = some a) (h : b.books = a.books) :
    (s.setGroup g (some b)).books = s.books := by
  refine Prod.ext rfl (Quad.ext_get fun k => ?_)
  simp only [State.books, setGroup_groups, Quad.get_map, Quad.get_set]
  split
  · rename_i hk
    rw [hk, hg]
    exact congrArg some h
  · rfl

theorem books_modGroup {g : Index} {f : Group → Group} (h : ∀ a, (f a).books = a.books) : (s.modGroup g f).books = s.books := by
  cases hg : s.groups.get g with
  | none => rw [modGroup_none s hg]
  | some a => rw [modGroup_some s hg]; exact books_set hg (h a)

theorem memberLists_of_books (h : t.books = s.books) (g : Index) :
    (t.groups.get g).map Group.members = (s.groups.get g).map Group.members := by
  have := congrArg (Option.map Prod.fst) (groups_of_books h g)
  rwa [Option.map_map, Option.map_map] at this

theorem groupOf_of_books (h : t.books = s.books) (x : Index) : t.groupOf x = s.groupOf x :=
  groupOf_congr (memberLists_of_books h) x

theorem membersOf_of_books (h : t.books = s.books) (g : Index) : t.membersOf g = s.membersOf g := by
  rw [membersOf_eq, membersOf_eq, memberLists_of_books h]

/-- Who is in service depends on the members of the groups and on which are OFFLINE. -/
theorem serviceGroup_congr (h : ∀ g, (t.groups.get g).map Group.standing = (s.groups.get g).map Group.standing) (x : Index) :
    t.serviceGroup x = s.serviceGroup x := by
  have one : ∀ {s t : State}, (∀ g, (t.groups.get g).map Group.standing = (s.groups.get g).map Group.standing) →
      ∀ g, t.serviceGroup x = some g → s.serviceGroup x = some g := by
    intro s t h g hg
    obtain ⟨ho, b, hb, hn⟩ := serviceGroup_eq_some.mp hg
    have hst := h g
    rw [hb] at hst
    obtain ⟨a, ha, he⟩ := Option.map_eq_some_iff.mp hst.symm
    have hoff : a.state = .offline ↔ b.state = .offline := decide_eq_decide.mp (congrArg Prod.snd he)
    have hlists : ∀ k, (t.groups.get k).map Group.members = (s.groups.get k).map Group.members := fun k => by
      have := congrArg (Option.map Prod.fst) (h k)
      rwa [Option.map_map, Option.map_map] at this
    exact serviceGroup_eq_some.mpr ⟨groupOf_congr hlists x ▸ ho, a, ha, fun e => hn (hoff.mp e)⟩
  cases ht : t.serviceGroup x with
  | some g => exact (one h g ht).symm
  | none =>
    cases hs : s.serviceGroup x with
    | none => rfl
    | some g => exact absurd (ht.symm.trans (one (fun k => (h k).symm) g hs)) (by simp)

theorem serviceGroup_of_books (h : t.books = s.books) (x : Index) : t.serviceGroup x = s.serviceGroup x :=
  serviceGroup_congr (fun g => by
    have := congrArg (Option.map fun b => (b.1, b.2.1)) (groups_of_books h g)
    rwa [Option.map_map, Option.map_map] at this) x

/-- The geometry of a group depends on its members and on the configurations. -/
theorem geometry_congr (hm : ∀ g, (t.groups.get g).map Group.members = (s.groups.get g).map Group.members)
    (hc : ∀ x, (t.carousels.get x).config = (s.carousels.get x).config) (g : Index) : t.geometry g = s.geometry g := by
  have hgo : t.geometryOf = s.geometryOf := by
    funext y
    unfold State.geometryOf
    rw [hc]
  unfold State.geometry
  rw [membersOf_eq, membersOf_eq, hm, hgo]

theorem geometry_of_books (h : t.books = s.books) (g : Index) : t.geometry g = s.geometry g :=
  geometry_congr (memberLists_of_books h) (fun x => by rw [carousels_of_books h]) g

theorem slot?_of_carousels (h : t.carousels = s.carousels) (x : Index) (c l : Nat) : t.slot? x c l = s.slot? x c l := by
  rw [slot?_eq, slot?_eq, h]

theorem slotMoment_of_books (h : t.books = s.books) (g : Index) (mass : Slot → Int) (k : Nat) :
    slotMoment t g mass k = slotMoment s g mass k := by
  rw [slotMoment_eq, slotMoment_eq, membersOf_of_books h, geometry_of_books h, carousels_of_books h]

end

end Sys2Proof.Machine

/-! SUPPORT. What leaves the books as they are: every change of the other records, the order table and the merge gate, the
station, the audit tasks, and the scheduler's lists and move slots. -/

namespace Sys2Proof.Machine

open Sys2Proof

variable (s : State)

/-! ## Single records -/

@[simp] theorem books_raiseEvent (e : Event) : (raiseEvent e s).books = s.books := rfl
@[simp] theorem books_spendChoices {α : Type} (as : List α) : (spendChoices as s).books = s.books := rfl
@[simp] theorem books_setLink (l : Link) : (s.setLink l).books = s.books := rfl
@[simp] theorem books_setReceiver (r : Receiver) : (s.setReceiver r).books = s.books := rfl
@[simp] theorem books_setPort (p : Index) (port : Port) : (s.setPort p port).books = s.books := rfl
@[simp] theorem books_modPort (p : Index) (f : Port → Port) : (s.modPort p f).books = s.books := rfl
@[simp] theorem books_modChannel (g : Index) (f : Channel → Channel) : (s.modChannel g f).books = s.books := rfl
@[simp] theorem books_setStore (p : Index) (r : Option StoreRecord) : (s.setStore p r).books = s.books := rfl
@[simp] theorem books_setSched (sch : Scheduler) : (s.setSched sch).books = s.books := rfl
@[simp] theorem books_setStation (st : Station) : (s.setStation st).books = s.books := rfl
@[simp] theorem books_setAudit (a : Audit) : (s.setAudit a).books = s.books := rfl
@[simp] theorem books_setTask (x : Index) (t : Option AuditTask) : (s.setTask x t).books = s.books := rfl
@[simp] theorem books_mapOrders (f : Order → Order) : (s.mapOrders f).books = s.books := rfl
@[simp] theorem books_modOrder (id : Id32) (f : Order → Order) : (s.modOrder id f).books = s.books := rfl
@[simp] theorem books_setLine (id : Id32) (seq : Nat) (st : LineState) : (s.setLine id seq st).books = s.books := rfl
@[simp] theorem books_freeOrder (id : Id32) : (s.freeOrder id).books = s.books := rfl
@[simp] theorem books_setLaneState (i : Index) (st : LaneState) : (s.setLaneState i st).books = s.books := rfl
@[simp] theorem books_freeLaneRecord (i : Index) : (s.freeLaneRecord i).books = s.books := rfl
@[simp] theorem books_heard : s.heard.books = s.books := books_of (by simp) (by simp)
@[simp] theorem books_modStore (p : Index) (f : StoreRecord → StoreRecord) : (s.modStore p f).books = s.books :=
  books_of (by simp) (by simp)
@[simp] theorem books_modTask (x : Index) (f : AuditTask → AuditTask) : (s.modTask x f).books = s.books :=
  books_of (by simp) (by simp)
@[simp] theorem books_followRun : (followRun s).books = s.books := books_of (by simp) (by simp)
@[simp] theorem books_beginVisit : (beginVisit s).books = s.books := books_of (by simp) (by simp)
@[simp] theorem books_discardScan (p : Index) : (discardScan p s).books = s.books := books_of (by simp) (by simp)

/-! ## Waiting tasks -/

@[simp] theorem books_reconsider (g : Index) : (reconsider g s).books = s.books := by
  unfold reconsider
  exact (foldl_field State.books _ (fun s p => books_modStore s p _) _ _).trans (books_mapOrders s _)

@[simp] theorem books_markWait (t : Task) : (markWait t s).books = s.books := by
  unfold markWait
  cases t <;> simp

@[simp] theorem books_reconsiderTask (t : Task) : (reconsiderTask t s).books = s.books := by
  unfold reconsiderTask
  cases t <;> simp

@[simp] theorem books_noteStart (p : Index) : (noteStart p s).books = s.books := by
  unfold noteStart
  split
  · exact books_modGroup fun _ => rfl
  · rfl

@[simp] theorem books_failGate (g p : Index) (t : Task) : (failGate g p t s).books = s.books := by
  unfold failGate
  split <;> simp

/-! ## The order table and the merge gate -/

@[simp] theorem books_judgeGate : (judgeGate s).books = s.books := by
  unfold judgeGate grant
  split <;> simp

@[simp] theorem books_activateOne : (activateOne s).books = s.books := by
  unfold activateOne
  split <;> simp

@[simp] theorem books_judgeActivation : (judgeActivation s).books = s.books := by simp [judgeActivation]

@[simp] theorem books_completeOrder (o : Order) : (completeOrder o s).books = s.books := by
  unfold completeOrder
  dsimp only
  split <;> simp

@[simp] theorem books_cancelOrder (o : Order) : (cancelOrder o s).books = s.books := by
  unfold cancelOrder
  split
  · simp
  · split <;> simp

@[simp] theorem books_judgeOrder (id : Id32) : (judgeOrder id s).books = s.books := by
  unfold judgeOrder
  split
  · rfl
  · split
    · split <;> simp
    · split <;> simp
    · rfl

@[simp] theorem books_makeShort (id : Id32) (seq : Nat) (why : ShortReason) : (makeShort id seq why s).books = s.books := by
  simp [makeShort]

/-! ## The station -/

@[simp] theorem books_judgeHigh : (judgeHigh s).books = s.books := by
  unfold judgeHigh
  split <;> simp

@[simp] theorem books_judgeLow : (judgeLow s).books = s.books := by
  unfold judgeLow
  split <;> simp

@[simp] theorem books_testDiversion : (testDiversion s).books = s.books := by
  unfold testDiversion beginDiversion
  split
  · rfl
  · split
    · simp
    · split
      · simp
      · split <;> simp

@[simp] theorem books_afterDelivery : (afterDelivery s).books = s.books := by simp [afterDelivery]

@[simp] theorem books_deliverHead (dest : Lane) : (deliverHead dest s).books = s.books := by
  unfold deliverHead
  split
  · rfl
  · cases dest <;> simp

@[simp] theorem books_stationFault (kind : StationFaultKind) : (stationFault kind s).books = s.books := by
  unfold stationFault
  split <;> simp

@[simp] theorem books_releaseLane (lane : Lane) : (releaseLane lane s).books = s.books := by
  unfold releaseLane
  cases lane with
  | reject => simp
  | order i =>
    dsimp only
    split <;> simp

@[simp] theorem books_strayEntry : (strayEntry s).books = s.books := by
  unfold strayEntry
  split <;> simp

@[simp] theorem books_takeLaneEntry (lane : Lane) : (takeLaneEntry lane s).books = s.books := by
  unfold takeLaneEntry endDiversion
  split
  · simp
  · split <;> simp
  · simp

@[simp] theorem books_completeRelease (p : Index) : (completeRelease p s).books = s.books := by
  unfold completeRelease
  split
  · rfl
  · dsimp only
    split <;> simp

@[simp] theorem books_jamRelease (p : Index) : (jamRelease p s).books = s.books := by
  unfold jamRelease
  split <;> simp

@[simp] theorem books_redirect : (redirect s).books = s.books := by
  unfold redirect
  split
  · split <;> simp
  · rfl

@[simp] theorem books_judgePromotions : (judgePromotions s).books = s.books := by
  unfold judgePromotions
  exact foldl_field State.books _ (fun s p => books_modStore s p _) _ _

@[simp] theorem books_replaceSettings (r : Settings) : (replaceSettings r s).books = s.books := by
  unfold replaceSettings
  dsimp only
  split <;> split <;> simp

@[simp] theorem books_clearStationFault (f : StationFault) (delivered : Bool) :
    (clearStationFault f delivered s).books = s.books := by
  unfold clearStationFault deliverFaulted leaveFault
  dsimp only
  split
  · split <;> simp
  · simp

@[simp] theorem books_afterPortClear (old : Port) : (afterPortClear old s).books = s.books := by
  unfold afterPortClear
  split
  · split <;> simp
  · rfl

/-! ## Stores and orders -/

@[simp] theorem books_rejectStore (p : Index) (why : StoreReason) : (rejectStore p why s).books = s.books := by simp [rejectStore]

@[simp] theorem books_openStore (p : Index) (r : StoreRequest) : (openStore p r s).books = s.books := by simp [openStore]

@[simp] theorem books_queryStore (x : Index) : (queryStore x s).books = s.books := by
  unfold queryStore
  split
  · split <;> simp
  · rfl

@[simp] theorem books_loseCheck (id : Id32) (l : Line) : (loseCheck id s l).books = s.books := by
  unfold loseCheck
  split <;> simp

/-! ## The audit unit -/

@[simp] theorem books_reportAutoEnd (x : Index) (clean : Bool) : (reportAutoEnd x clean s).books = s.books := by
  unfold reportAutoEnd
  split
  · exact books_modGroup fun _ => Group.books_of_noteless (leaveWatch_noteless ..)
  · rfl

@[simp] theorem books_startTask (x : Index) (o : Origin) (k : Check) (sel : Selection) (l : List Nat) :
    (startTask x o k sel l s).books = s.books := by simp [startTask]

@[simp] theorem books_stopTask (x : Index) (t : AuditTask) : (stopTask x t s).books = s.books := by
  unfold stopTask
  dsimp only
  split <;> split <;> simp

@[simp] theorem books_consumeLog (n : Nat) : (consumeLog n s).books = s.books := by
  unfold consumeLog
  dsimp only
  split
  · simp
  · exact (foldl_field State.books _ (fun s x => books_modTask s x _) _ _).trans (books_setAudit s _)

/-! ## The scheduler's lists and move slots -/

@[simp] theorem books_pruneList (g : Index) : (pruneList s g).books = s.books := by
  unfold pruneList
  exact books_modGroup fun _ => rfl

@[simp] theorem books_pruneLists : (pruneLists s).books = s.books := foldl_field State.books _ (fun s g => books_pruneList s g) _ _

@[simp] theorem books_joinList (g : Index) : (joinList g s).books = s.books := by
  unfold joinList
  split
  · split
    · exact books_modGroup fun _ => rfl
    · rfl
  · rfl

@[simp] theorem books_firstPassing (g : Index) (ts : List TaskItem) : (firstPassing g ts s).2.books = s.books := by
  induction ts generalizing s with
  | nil => rfl
  | cons t ts ih =>
    unfold firstPassing
    split
    · rfl
    · rw [ih, books_markWait]

@[simp] theorem books_fillCurrent (g : Index) (c : Nat) (ts : List Task) : (fillCurrent g c ts s).books = s.books := by
  unfold fillCurrent
  split
  · rfl
  · dsimp only
    split
    · rfl
    · split
      · rfl
      · exact books_modGroup fun _ => rfl

@[simp] theorem books_writeNext (g : Index) (t : TaskItem) : (writeNext g t s).books = s.books := by
  unfold writeNext
  split
  · rfl
  · rename_i grp _
    dsimp only
    generalize (grp.k.isNone || _ || _) = b
    cases b
    · exact books_modGroup fun _ => rfl
    · rfl

@[simp] theorem books_nextChoice (g : Index) (c : Nat) : (nextChoice g c s).books = s.books := by
  have h := books_firstPassing s g ((usableTasks s g).filter fun t => t.carrier != c)
  unfold nextChoice
  split <;> rename_i he <;> rw [he] at h
  · exact (books_writeNext _ _ _).trans h
  · exact h

@[simp] theorem books_offerBest (g : Index) : (offerBest g s).books = s.books := by
  unfold offerBest
  dsimp only
  split <;> rename_i t u he
  · refine (books_fillCurrent _ _ _ _).trans ?_
    rw [show u = _ from (congrArg Prod.snd he).symm]
    simp
  · rw [show u = _ from (congrArg Prod.snd he).symm]
    simp

@[simp] theorem books_clearNext (g : Index) : (clearNext g s).books = s.books := books_modGroup fun _ => rfl

@[simp] theorem books_promotionPoint (g : Index) : (promotionPoint g s).books = s.books := by
  have h : (s.modGroup g fun grp => { grp with arrivalOpen := false }).books = s.books := books_modGroup fun _ => rfl
  unfold promotionPoint
  dsimp only
  split
  · exact h
  · split
    · simp [h]
    · split
      · split <;> simp [h]
      · simp [h]

end Sys2Proof.Machine

/-! SUPPORT. What the drive groups do leaves the books as they are: marks, pauses, faults and the start of a run move no mass, and
take no group into service or out of it (R12 to R22). -/

namespace Sys2Proof.Machine

open Sys2Proof

/-- A group whose RUN falls and that changes in the books' eyes no more than that. -/
theorem books_lowered {s : State} {g : Index} {grp : Group} {f : Group → Group} (hg : s.groups.get g = some grp)
    (h : ∀ a : Group, a.state = grp.state → (f a).books = a.books) : ((lowerRun g s).modGroup g f).books = s.books := by
  refine Prod.ext (by simp [State.books]) (Quad.ext_get fun k => ?_)
  simp only [State.books, Quad.get_map, modGroup_groups, lowerRun_eq]
  by_cases hk : k = g
  · subst hk
    simp only [Quad.get_set_same, setChannel_groups, hg]
    exact congrArg some (h { grp with stallTimer := none } rfl)
  · simp [Quad.get_set_ne _ _ hk]

theorem books_lowerRun (g : Index) (s : State) : (lowerRun g s).books = s.books := by
  refine Prod.ext (by simp [State.books]) (Quad.ext_get fun k => ?_)
  simp only [State.books, Quad.get_map, lowerRun_eq]
  by_cases hk : k = g
  · subst hk
    rw [Quad.get_set_same, Option.map_map]
    rfl
  · rw [Quad.get_set_ne _ _ hk]

theorem books_holdEntry (grp : Group) (run : Bool) : (grp.holdEntry run).books = grp.books := by
  unfold Group.holdEntry
  split
  · rfl
  · split
    · split <;> rfl
    · rfl
  · split <;> rfl
  · rfl

@[simp] theorem books_holdGroup (s : State) (g : Index) : (holdGroup s g).books = s.books := by
  unfold holdGroup
  split
  · rfl
  · rename_i grp hg
    have h1 := books_set hg (books_holdEntry grp (s.channels.get g).run)
    dsimp only
    split
    · exact (books_lowerRun _ _).trans h1
    · exact h1

theorem paused_books {grp : Group} (h : grp.state ≠ .offline) : grp.paused.books = grp.books :=
  Group.books_eq rfl (by simp [Group.paused, h]) rfl rfl

/-- The drive groups' changes keep the books. -/
theorem booksDrive (b : Quad Carousel × Quad (Option (List Index × Bool × List Int × List Int))) :
    DriveClosed (fun t => t.books = b) fun t => t.books = b := by
  constructor
  case easedHold => exact fun s g hs => (books_holdGroup s g).trans hs
  case easedIdle => exact fun s g grp hg hi hs => (books_set hg (paused_books (by simp [hi]))).trans hs
  case easedMoving => exact fun s g grp hg _ hs => (books_set hg (by rfl)).trans hs
  case easedReferencing =>
    refine fun s g grp hg hr hs => (books_lowered hg fun a ha => ?_).trans hs
    exact Group.books_eq rfl (by simp [Group.paused, ha, hr]) rfl rfl
  case easedFault =>
    refine fun s g grp c hg ho _ _ hs => (books_lowered hg fun a ha => ?_).trans hs
    exact Group.books_eq rfl (by simp [Group.faultedBy, ha, ho]) rfl rfl
  case easedHome => exact fun s g grp hg _ hs => (books_lowered hg fun a _ => by rfl).trans hs
  case easedStop =>
    refine fun s g grp m hg hm _ _ hs => (books_lowered hg fun a ha => ?_).trans hs
    unfold Group.stopped
    split
    · exact paused_books (by simp [ha, hm])
    · rfl
  case easedArrival => exact fun s g grp m hg _ _ _ hs => (books_lowered hg fun a _ => by rfl).trans hs
  case idlePaused => exact fun s g grp hg hi hs => (books_set hg (paused_books (by simp [hi]))).trans hs
  case movingPaused => exact fun s g grp hg _ hs => (books_set hg (by rfl)).trans hs
  case noted => exact fun s g grp grp' hg hn hs => (books_set hg (Group.books_of_noteless hn.core)).trans hs
  case referencingMarked => exact fun s g grp hg _ _ hs => (books_set hg (by rfl)).trans hs
  case travelMarked =>
    refine fun s g grp m k home v hg _ _ _ hs => (books_set hg ?_).trans hs
    obtain ⟨hm, he, hp, -⟩ := atMark_balancedAs grp k home v
    exact Group.books_eq hm (by rw [(atMark_kept grp k home v).1]) he hp
  -- no other change of a drive group reaches the books
  all_goals (intros; rename_i hs; exact Eq.trans (by simp) hs)

section

variable (s : State)

@[simp] theorem books_groupFault {cause : FaultCause} (hc : cause ≠ .none) (g : Index) :
    (groupFault g cause s).books = s.books := (booksDrive s.books).groupFault g cause hc rfl

@[simp] theorem books_enterReferencing (g : Index) : (enterReferencing g s).books = s.books :=
  (booksDrive s.books).enterReferencing g rfl

@[simp] theorem books_pauseAll : (pauseAll s).books = s.books := (booksDrive s.books).pauseAll rfl

theorem books_pauseOne {g : Index} {grp : Group} (hg : s.groups.get g = some grp) : (pauseOne g grp s).books = s.books :=
  (booksDrive s.books).pauseOne hg rfl

@[simp] theorem books_takeMark (g : Index) (home : Bool) : (takeMark g home s).books = s.books :=
  (booksDrive s.books).takeMark g home rfl

@[simp] theorem books_endVisit (g : Index) (t : Option Int) : (endVisit g t s).books = s.books :=
  (booksDrive s.books).endVisit g t rfl

theorem books_judgeInterlock (p : Index) (i : PortInput) (v : Bool) : (judgeInterlock p i v s).books = s.books := by
  unfold judgeInterlock
  split
  · split
    · exact books_groupFault s (by decide) _
    · rfl
  · rfl

end

end Sys2Proof.Machine

/-! SUPPORT. The sums of R42 when one slot record is replaced: the sum of each profile moves by the lever weight of the slot's
carrier times the change of the slot's mass. -/

namespace Sys2Proof.Machine

open Sys2Proof

/-! ## Sums over lists of which one place changes -/

theorem sum_map_set {α : Type} (f : α → Int) {as : List α} {i : Nat} {a : α} (h : as[i]? = some a) (b : α) :
    ((as.set i b).map f).sum = (as.map f).sum + (f b - f a) := by
  induction as generalizing i with
  | nil => simp at h
  | cons a' as ih =>
    cases i with
    | zero =>
      cases h
      simp only [List.set_cons_zero, List.map_cons, List.sum_cons]
      omega
    | succ i =>
      simp only [List.set_cons_succ, List.map_cons, List.sum_cons, ih (by simpa using h)]
      omega

theorem sum_numbered_modify {α : Type} (f : Nat → α → Int) (g : α → α) {as : List α} {i : Nat} {a : α} (h : as[i]? = some a)
    (n : Nat) : ((numbered n (as.modify i g)).map fun q => f q.1 q.2).sum =
      ((numbered n as).map fun q => f q.1 q.2).sum + (f (n + i) (g a) - f (n + i) a) := by
  induction as generalizing i n with
  | nil => simp at h
  | cons a' as ih =>
    cases i with
    | zero =>
      cases h
      simp only [List.modify_zero_cons, numbered, List.map_cons, List.sum_cons, Nat.add_zero]
      omega
    | succ i =>
      have := ih (i := i) (by simpa using h) (n + 1)
      rw [show n + 1 + i = n + (i + 1) by omega] at this
      simp only [List.modify_succ_cons, numbered, List.map_cons, List.sum_cons, this]
      omega

theorem sum_map_update {α : Type} [DecidableEq α] {f g : α → Int} {x : α} (h : ∀ y, y ≠ x → g y = f y) {as : List α}
    (hn : as.Nodup) : (as.map g).sum = (as.map f).sum + if x ∈ as then g x - f x else 0 := by
  induction as with
  | nil => simp
  | cons a as ih =>
    obtain ⟨ha, hn⟩ := List.nodup_cons.mp hn
    simp only [List.map_cons, List.sum_cons, ih hn]
    by_cases hx : a = x
    · subst hx
      simp [ha]
      omega
    · rw [h a hx]
      simp only [List.mem_cons, Ne.symm hx, false_or]
      omega

/-! ## Moments -/

section

variable {s : State} {x : Index} {c l : Nat} {sl : Slot}

theorem mapMoment_setSlot (geo : Geometry) (mass : Slot → Int) {m : SlotMap} (h : m.slot? c l = some sl) (sl' : Slot) (k : Nat) :
    mapMoment geo mass (m.setSlot c l sl') k = mapMoment geo mass m k
      + leverWeight geo.carriers geo.bend ((c + k) % geo.carriers) * (mass sl' - mass sl) := by
  unfold SlotMap.slot? at h
  rw [List.getD_eq_getElem?_getD] at h
  cases hc : m.carriers[c]? with
  | none => simp [hc] at h
  | some ls =>
    rw [hc, Option.getD_some] at h
    rw [mapMoment_eq, mapMoment_eq]
    have step := sum_numbered_modify (fun c ls => (ls.map (slotLever geo mass k c)).sum) (fun ls => ls.set l sl') hc 0
    rw [Nat.zero_add, sum_map_set (slotLever geo mass k c) h sl'] at step
    refine step.trans ?_
    unfold slotLever
    rw [Int.mul_sub]
    omega

theorem setSlot_config (sl' : Slot) (y : Index) :
    ((s.setSlot x c l sl').carousels.get y).config = (s.carousels.get y).config := by
  rw [setSlot_carousels]
  by_cases hy : y = x
  · rw [hy, Quad.get_set_same]
  · rw [Quad.get_set_ne _ _ hy]

theorem setSlot_geometry (sl' : Slot) (g : Index) : (s.setSlot x c l sl').geometry g = s.geometry g :=
  geometry_congr (t := s.setSlot x c l sl') (s := s) (fun _ => rfl) (setSlot_config sl') g

/-- The moment of a group when one slot is replaced. -/
theorem slotMoment_setSlot {g : Index} (hn : (s.membersOf g).Nodup) (hsl : s.slot? x c l = some sl) (sl' : Slot)
    (mass : Slot → Int) (k : Nat) : slotMoment (s.setSlot x c l sl') g mass k = slotMoment s g mass k
      + if x ∈ s.membersOf g then
          leverWeight (s.geometry g).carriers (s.geometry g).bend ((c + k) % (s.geometry g).carriers) * (mass sl' - mass sl)
        else 0 := by
  have hm : (s.setSlot x c l sl').membersOf g = s.membersOf g := rfl
  have others : ∀ y, y ≠ x → mapMoment (s.geometry g) mass ((s.setSlot x c l sl').carousels.get y).map k =
      mapMoment (s.geometry g) mass (s.carousels.get y).map k := fun y hy => by
    rw [setSlot_carousels, Quad.get_set_ne _ _ hy]
  have own : mapMoment (s.geometry g) mass ((s.setSlot x c l sl').carousels.get x).map k =
      mapMoment (s.geometry g) mass (s.carousels.get x).map k
        + leverWeight (s.geometry g).carriers (s.geometry g).bend ((c + k) % (s.geometry g).carriers) * (mass sl' - mass sl) := by
    rw [setSlot_carousels, Quad.get_set_same]
    exact mapMoment_setSlot _ mass hsl sl' k
  rw [slotMoment_eq, slotMoment_eq, hm, setSlot_geometry, sum_map_update others hn, own]
  split <;> omega

end

end Sys2Proof.Machine

/-! SUPPORT. `Booked`: sound books. It is what `ProfilesDefined` needs of the rest of the state, spoken of the books alone, so that
it is kept request after request and turn after turn; and the change that keeps it, a slot record replaced with the change of its
mass handed to the balance unit (R31, R42, R44). -/

namespace Sys2Proof.Machine

open Sys2Proof

/-! ## Sound books -/

/-- The counted mass of a slot is the one of its combination (R31). -/
structure SlotCounted (sl : Slot) : Prop where
  free : sl.reservation = .none → sl.content = .empty → sl.counted = 0
  stocked : sl.reservation = .none → sl.content = .held → sl.condition ≠ .blocked → sl.counted = sl.recorded
  incoming : ∀ p t m, sl.reservation = .inbound p t m .planned → sl.content = .empty ∧ sl.counted = 0
  inserting : ∀ p t m, sl.reservation = .inbound p t m .started → sl.counted = m
  outgoing : ∀ id seq, sl.reservation = .outbound id seq .planned → sl.content = .held ∧ sl.counted = sl.recorded
  extracting : ∀ id seq, sl.reservation = .outbound id seq .started → sl.counted = 0

/-- Sound books: the profiles balanced (R43) and the sums of R42; slots of COMMITTED maps that count the mass of their
combination; a carousel out of service without reservations, counting what it records; COMMITTED maps in service (R11, R24). -/
structure Booked (s : State) : Prop where
  balance : BalanceInv s
  members : ∀ g grp, s.groups.get g = some grp → grp.members.Nodup
  slots : ∀ x, (s.carousels.get x).map.state = .committed → ∀ c l sl, s.slot? x c l = some sl → SlotCounted sl
  quiet : ∀ x, s.serviceGroup x = none → ∀ c l sl, s.slot? x c l = some sl → sl.reservation = .none ∧ sl.counted = sl.recorded
  serving : ∀ x, s.serviceGroup x ≠ none → (s.carousels.get x).map.state = .committed
  defined : ProfilesDefined s

theorem SlotSound.slotCounted {sl : Slot} (h : SlotSound sl) : SlotCounted sl where
  free := h.free
  stocked := h.stocked
  incoming := h.incoming
  inserting p t m hr := (h.inserting p t m hr).2
  outgoing := h.outgoing
  extracting id seq hr := (h.extracting id seq hr).2

/-- A slot without a reservation that counts what it records, nothing where it is EMPTY. -/
theorem SlotCounted.of_quiet {sl : Slot} (hr : sl.reservation = .none) (hc : sl.counted = sl.recorded)
    (he : sl.content = .empty → sl.recorded = 0) : SlotCounted sl where
  free _ h := hc.trans (he h)
  stocked _ _ _ := hc
  incoming p t m h := by rw [hr] at h; cases h
  inserting p t m h := by rw [hr] at h; cases h
  outgoing id seq h := by rw [hr] at h; cases h
  extracting id seq h := by rw [hr] at h; cases h

section

variable {s t : State} {x : Index} {c l : Nat} {sl sl' : Slot}

theorem slot?_mem_walk (h : s.slot? x c l = some sl) : (c, l, sl) ∈ (s.carousels.get x).map.walk := by
  obtain ⟨ls, hc, hl⟩ := slot?_iff_carriers.mp h
  exact List.mem_of_getElem? ((walk_getElem? _ _ c l sl).mpr ⟨ls, hc, hl, rfl⟩)

theorem slot?_of_mem_walk (h : (c, l, sl) ∈ (s.carousels.get x).map.walk) : s.slot? x c l = some sl := by
  obtain ⟨i, hi⟩ := List.getElem?_of_mem h
  obtain ⟨ls, hc, hl, -⟩ := (walk_getElem? _ i c l sl).mp hi
  exact slot?_iff_carriers.mpr ⟨ls, hc, hl⟩

/-- Two masses that agree on the slots of the members have one moment. -/
theorem slotMoment_congr_mass {g : Index} {mass mass' : Slot → Int}
    (h : ∀ x ∈ s.membersOf g, ∀ c l sl, s.slot? x c l = some sl → mass sl = mass' sl) (k : Nat) :
    slotMoment s g mass k = slotMoment s g mass' k := by
  rw [slotMoment_eq, slotMoment_eq]
  congr 1
  refine List.map_congr_left fun x hx => ?_
  unfold mapMoment
  congr 1
  refine List.map_congr_left fun e he => ?_
  unfold slotLever
  rw [h x hx e.1 e.2.1 e.2.2 (slot?_of_mem_walk he)]

theorem booked_of_stock (hb : BalanceInv s) (hs : StockSound s) (hd : ProfilesDefined s) : Booked s where
  balance := hb
  members := hs.members
  slots x hx _ _ _ hsl := (hs.slots x hx _ (slot?_mem_walk hsl)).slotCounted
  quiet x hx _ _ _ hsl := hs.quiet x hx _ (slot?_mem_walk hsl)
  serving := hs.serving
  defined := hd

theorem BalanceInv.of_books (hs : BalanceInv s) (h : t.books = s.books) : BalanceInv t := by
  refine hs.of_groups (fun x => by rw [carousels_of_books h]) fun g b hb => ?_
  obtain ⟨a, ha, he⟩ := group_of_books h hb
  obtain ⟨hm, ho, hE, hP⟩ := Group.of_books he
  exact ⟨a, ha, hm, (hs.balanced ha).as ⟨hm, hE, hP, ho.mp⟩⟩

/-- Sound books are sound whatever happens to the other records. -/
theorem Booked.of_books (hs : Booked s) (h : t.books = s.books) : Booked t where
  balance := hs.balance.of_books h
  members g b hb := by
    obtain ⟨a, ha, he⟩ := group_of_books h hb
    rw [(Group.of_books he).1]
    exact hs.members g a ha
  slots x hx c l sl hsl := by
    rw [slot?_of_carousels (carousels_of_books h)] at hsl
    rw [carousels_of_books h] at hx
    exact hs.slots x hx c l sl hsl
  quiet x hx c l sl hsl := by
    rw [slot?_of_carousels (carousels_of_books h)] at hsl
    rw [serviceGroup_of_books h] at hx
    exact hs.quiet x hx c l sl hsl
  serving x hx := by
    rw [serviceGroup_of_books h] at hx
    rw [carousels_of_books h]
    exact hs.serving x hx
  defined g b hb ho k hk := by
    obtain ⟨a, ha, he⟩ := group_of_books h hb
    obtain ⟨-, hoff, hE, hP⟩ := Group.of_books he
    rw [geometry_of_books h] at hk
    rw [slotMoment_of_books h, slotMoment_of_books h, hE, hP]
    exact hs.defined g a ha (fun e => ho (hoff.mpr e)) k hk

/-- A slot with a reservation is in service, and counts the mass of its combination. -/
theorem Booked.reserved (hs : Booked s) (hsl : s.slot? x c l = some sl) (hr : sl.reservation ≠ .none) :
    s.serviceGroup x ≠ none ∧ SlotCounted sl := by
  have hx : s.serviceGroup x ≠ none := fun hn => hr (hs.quiet x hn c l sl hsl).1
  exact ⟨hx, hs.slots x (hs.serving x hx) c l sl hsl⟩

/-! ## Handed mass -/

/-- What a change hands to the effective profile (R44). -/
def Named.onE (w : Named) (dm : Int) : Int := if w = .planned then 0 else dm

/-- What a change hands to the planned profile (R44). -/
def Named.onP (w : Named) (dm : Int) : Int := if w = .effective then 0 else dm

theorem handMass_groups_eq (x : Index) (c : Nat) (dm : Int) (w : Named) (s : State) : (handMass x c dm w s).groups =
    if dm = 0 then s.groups
    else (s.serviceGroup x).elim s.groups fun g =>
      s.groups.set g ((s.groups.get g).map fun grp => grp.addMass (s.geometry g) c dm w) := by
  unfold handMass
  split
  · rfl
  · cases s.serviceGroup x with
    | none => rfl
    | some g =>
      dsimp only [Option.elim_some]
      rw [← modGroup_groups]
      split
      · obtain ⟨sts, hr, -⟩ := reconsider_spec g (s.modGroup g fun grp => grp.addMass (s.geometry g) c dm w)
        rw [hr]
      · rfl

theorem handMass_standing (x : Index) (c : Nat) (dm : Int) (w : Named) (s : State) (g : Index) :
    ((handMass x c dm w s).groups.get g).map Group.standing = (s.groups.get g).map Group.standing := by
  rcases handMass_groups_get x c dm w s g with h | ⟨grp, hg, h⟩
  · rw [h]
  · rw [h, hg]
    rfl

/-- Handing mass and replacing a slot record, in either order. -/
theorem books_setSlot_handMass (x' : Index) (c' : Nat) (dm : Int) (w : Named) (s : State) (x : Index) (c l : Nat) (sl' : Slot) :
    ((handMass x' c' dm w s).setSlot x c l sl').books = (handMass x' c' dm w (s.setSlot x c l sl')).books := by
  have hsvc : (s.setSlot x c l sl').serviceGroup x' = s.serviceGroup x' := rfl
  refine books_of ?_ ?_
  · rw [setSlot_carousels, handMass_carousels, handMass_carousels, setSlot_carousels]
  · rw [setSlot_groups, handMass_groups_eq, handMass_groups_eq, setSlot_groups, hsvc]
    congr 1
    cases s.serviceGroup x' with
    | none => rfl
    | some g => rw [Option.elim_some, Option.elim_some, setSlot_geometry]

/-- The groups after mass is handed at a carousel: its group, in service, takes the lever weights on the profiles named. -/
theorem handMass_group (hs : BalanceInv s) {dm : Int} {w : Named} {h : Index} {b : Group}
    (hb : (handMass x c dm w s).groups.get h = some b) : ∃ a, s.groups.get h = some a ∧ b.members = a.members
      ∧ b.state = a.state ∧ ∀ k, k < (s.geometry h).carriers →
        b.effective.getD k 0 = a.effective.getD k 0 + (if s.serviceGroup x = some h then
          leverWeight (s.geometry h).carriers (s.geometry h).bend ((c + k) % (s.geometry h).carriers) * w.onE dm else 0)
        ∧ b.planned.getD k 0 = a.planned.getD k 0 + (if s.serviceGroup x = some h then
          leverWeight (s.geometry h).carriers (s.geometry h).bend ((c + k) % (s.geometry h).carriers) * w.onP dm else 0) := by
  rw [handMass_groups_eq] at hb
  have untouched : s.groups.get h = some b → (dm = 0 ∨ s.serviceGroup x ≠ some h) → ∃ a, s.groups.get h = some a
      ∧ b.members = a.members ∧ b.state = a.state ∧ ∀ k, k < (s.geometry h).carriers →
        b.effective.getD k 0 = a.effective.getD k 0 + (if s.serviceGroup x = some h then
          leverWeight (s.geometry h).carriers (s.geometry h).bend ((c + k) % (s.geometry h).carriers) * w.onE dm else 0)
        ∧ b.planned.getD k 0 = a.planned.getD k 0 + (if s.serviceGroup x = some h then
          leverWeight (s.geometry h).carriers (s.geometry h).bend ((c + k) % (s.geometry h).carriers) * w.onP dm else 0) := by
    intro ha hno
    refine ⟨b, ha, rfl, rfl, fun k _ => ?_⟩
    rcases hno with rfl | hno
    · simp [Named.onE, Named.onP]
    · simp [hno]
  split at hb
  · exact untouched hb (.inl ‹_›)
  · cases hx : s.serviceGroup x with
    | none =>
      rw [hx] at hb
      rw [← hx]
      exact untouched hb (.inr (by simp [hx]))
    | some g =>
      rw [hx] at hb
      by_cases hg : h = g
      · subst hg
        dsimp only [Option.elim_some] at hb
        rw [Quad.get_set_same] at hb
        obtain ⟨a, ha, rfl⟩ := Option.map_eq_some_iff.mp hb
        refine ⟨a, ha, rfl, rfl, fun k hk => ?_⟩
        obtain ⟨-, -, h3⟩ := addMass_profiles (hs.effective h a ha).1 (hs.planned h a ha).1 c dm w
        obtain ⟨hE, hP⟩ := h3 k hk
        rw [if_pos rfl, hE, hP]
        unfold Named.onE Named.onP
        cases w <;> simp
      · dsimp only [Option.elim_some] at hb
        rw [Quad.get_set_ne _ _ hg] at hb
        rw [← hx]
        exact untouched hb (.inr (by rw [hx]; exact fun e => hg (Option.some.inj e).symm))

end

end Sys2Proof.Machine

/-! SUPPORT. A slot record replaced, with the change of its mass handed to the balance unit, keeps the books sound (R42, R44). -/

namespace Sys2Proof.Machine

open Sys2Proof

variable {s t : State} {x : Index} {c l : Nat} {sl sl' : Slot}

/-! ## The mass that the planned profile counts -/

theorem plannedMass_none (h : sl.reservation = .none) : sl.plannedMass = sl.counted := by
  unfold Slot.plannedMass
  rw [h]

theorem plannedMass_in {p : Index} {tag : Id32} {m : Nat} (h : sl.reservation = .inbound p tag m .planned) :
    sl.plannedMass = (sl.counted : Int) + m := by
  unfold Slot.plannedMass
  rw [h]

theorem plannedMass_out {id : Id32} {seq : Nat} (h : sl.reservation = .outbound id seq .planned) :
    sl.plannedMass = (sl.counted : Int) - sl.recorded := by
  unfold Slot.plannedMass
  rw [h]

theorem plannedMass_started {r : Reservation} (h : sl.reservation = r)
    (hr : (∃ p t m, r = .inbound p t m .started) ∨ ∃ id seq, r = .outbound id seq .started) : sl.plannedMass = sl.counted := by
  unfold Slot.plannedMass
  rw [h]
  rcases hr with ⟨p, t, m, rfl⟩ | ⟨id, seq, rfl⟩ <;> rfl

/-! ## The exchange -/

theorem mem_members_iff_serviceGroup (hs : BalanceInv s) {g : Index} {grp : Group} (hg : s.groups.get g = some grp)
    (ho : grp.state ≠ .offline) : x ∈ grp.members ↔ s.serviceGroup x = some g := by
  refine ⟨fun hx => serviceGroup_of_member hs.disjoint hg hx ho, fun hx => ?_⟩
  obtain ⟨hof, -⟩ := serviceGroup_eq_some.mp hx
  obtain ⟨a, ha, hm⟩ := member_of_groupOf hof
  rw [hg] at ha
  cases ha
  exact hm

/-- A slot record is replaced and the change of its mass is handed: E takes the change of the counted mass, P that of the
planned mass. -/
theorem Booked.exchange (hs : Booked s) (hsl : s.slot? x c l = some sl) {dm : Int} {w : Named}
    (hsound : (s.carousels.get x).map.state = .committed → SlotCounted sl')
    (hquiet : s.serviceGroup x = none → sl'.reservation = .none ∧ sl'.counted = sl'.recorded)
    (hE : s.serviceGroup x ≠ none → (sl'.counted : Int) - sl.counted = w.onE dm)
    (hP : s.serviceGroup x ≠ none → sl'.plannedMass - sl.plannedMass = w.onP dm) :
    Booked (handMass x c dm w (s.setSlot x c l sl')) := by
  have hbal : BalanceInv (s.setSlot x c l sl') := balanceTurn.slot s x c l sl' hs.balance
  generalize ht : handMass x c dm w (s.setSlot x c l sl') = t
  have back : ∀ {h b}, t.groups.get h = some b → _ := fun {h b} hb => handMass_group (s := s.setSlot x c l sl') hbal (ht ▸ hb)
  have hcar : t.carousels = (s.setSlot x c l sl').carousels := ht ▸ handMass_carousels ..
  have hsvc : ∀ y, t.serviceGroup y = s.serviceGroup y := serviceGroup_congr fun g =>
    ht ▸ handMass_standing x c dm w (s.setSlot x c l sl') g
  have hlists : ∀ g, (t.groups.get g).map Group.members = (s.groups.get g).map Group.members := fun g => by
    have := congrArg (Option.map Prod.fst) (handMass_standing x c dm w (s.setSlot x c l sl') g)
    rw [ht, Option.map_map, Option.map_map] at this
    exact this
  have hstate : ∀ y, (t.carousels.get y).map.state = (s.carousels.get y).map.state := fun y => by
    rw [hcar, setSlot_carousels]
    by_cases hy : y = x
    · rw [hy, Quad.get_set_same]
      rfl
    · rw [Quad.get_set_ne _ _ hy]
  have hslot : ∀ {y c' l' sl''}, t.slot? y c' l' = some sl'' → (y = x ∧ sl'' = sl') ∨ s.slot? y c' l' = some sl'' := by
    intro y c' l' sl'' h
    rw [slot?_of_carousels hcar, slot?_setSlot, hsl] at h
    split at h
    · rename_i he
      exact .inl ⟨he.1, (Option.some.inj h).symm⟩
    · exact .inr h
  refine ⟨ht ▸ balanceTurn.handMass _ _ _ _ hbal, fun g b hb => ?_, fun y hy c' l' sl'' h => ?_, fun y hy c' l' sl'' h => ?_,
    fun y hy => ?_, fun g b hb ho k hk => ?_⟩
  · obtain ⟨a, ha, hm, -⟩ := back hb
    rw [hm]
    exact hs.members g a ha
  · rw [hstate] at hy
    rcases hslot h with ⟨rfl, rfl⟩ | h
    · exact hsound hy
    · exact hs.slots y hy c' l' sl'' h
  · rw [hsvc] at hy
    rcases hslot h with ⟨rfl, rfl⟩ | h
    · exact hquiet hy
    · exact hs.quiet y hy c' l' sl'' h
  · rw [hsvc] at hy
    rw [hstate]
    exact hs.serving y hy
  · obtain ⟨a, ha, hm, hst, hprof⟩ := back hb
    have ha : s.groups.get g = some a := ha
    have hgeo : t.geometry g = s.geometry g := geometry_congr hlists (fun y => by rw [hcar, setSlot_config]) g
    have hcore : ∀ mass, slotMoment t g mass k = slotMoment (s.setSlot x c l sl') g mass k := fun mass => by
      rw [slotMoment_eq, slotMoment_eq, membersOf_eq, hlists, hgeo, setSlot_geometry, hcar, membersOf_eq]
      rfl
    have hin : x ∈ s.membersOf g ↔ s.serviceGroup x = some g := by
      rw [membersOf_some ha]
      exact mem_members_iff_serviceGroup hs.balance ha (hst ▸ ho)
    rw [hgeo] at hk
    obtain ⟨hdE, hdP⟩ := hs.defined g a ha (hst ▸ ho) k hk
    obtain ⟨hpE, hpP⟩ := hprof k (by rw [setSlot_geometry]; exact hk)
    rw [setSlot_geometry] at hpE hpP
    have hn : (s.membersOf g).Nodup := by rw [membersOf_some ha]; exact hs.members g a ha
    rw [hcore, hcore, slotMoment_setSlot hn hsl, slotMoment_setSlot hn hsl, hpE, hpP, hdE, hdP]
    have hsvc' : (s.setSlot x c l sl').serviceGroup x = s.serviceGroup x := rfl
    rw [hsvc']
    by_cases hx : s.serviceGroup x = some g
    · have hne : s.serviceGroup x ≠ none := by simp [hx]
      simp only [hx, hin.mpr hx, if_true, hE hne, hP hne, and_self]
    · have hnot : x ∉ s.membersOf g := fun h => hx (hin.mp h)
      simp only [hx, hnot, if_false, and_self]

end Sys2Proof.Machine

/-! SUPPORT. The scheduler's turns keep the books sound: scans compared, face checks ended, insertions and extractions begun
(R82, R83, R85, R116, R145). -/

namespace Sys2Proof.Machine

open Sys2Proof

variable {s t : State} {x p : Index} {c l : Nat} {sl sl' : Slot}

/-! ## Slots replaced, in the books' eyes -/

theorem books_setSlot_congr (h : t.books = s.books) (x : Index) (c l : Nat) (sl : Slot) :
    (t.setSlot x c l sl).books = (s.setSlot x c l sl).books := by
  have hg : t.groups.map (Option.map Group.books) = s.groups.map (Option.map Group.books) := congrArg Prod.snd h
  unfold State.books
  rw [setSlot_carousels, setSlot_carousels, setSlot_groups, setSlot_groups, carousels_of_books h, hg]

theorem slot?_of_books (h : t.books = s.books) (x : Index) (c l : Nat) : t.slot? x c l = s.slot? x c l :=
  slot?_of_carousels (carousels_of_books h) x c l

/-- The mass of a slot depends on its reservation, content, counted and recorded mass. -/
theorem SlotCounted.of_same (h : SlotCounted sl) (hr : sl'.reservation = sl.reservation) (hcon : sl'.content = sl.content)
    (hm : sl'.counted = sl.counted) (hd : sl'.recorded = sl.recorded) (hb : sl'.condition ≠ .blocked → sl.condition ≠ .blocked) :
    SlotCounted sl' where
  free := by rw [hr, hcon, hm]; exact h.free
  stocked := by rw [hr, hcon, hm, hd]; exact fun hres hheld hn => h.stocked hres hheld (hb hn)
  incoming := by rw [hr, hcon, hm]; exact h.incoming
  inserting := by rw [hr, hm]; exact h.inserting
  outgoing := by rw [hr, hcon, hm, hd]; exact h.outgoing
  extracting := by rw [hr, hm]; exact h.extracting

/-- A judgement that may be taken: its slot, where it is not skipped, is not BLOCKED (R144). -/
def Judgeable (s : State) (x : Index) (c : Nat) (j : Judged) : Prop :=
  j.verdict ≠ .skipped → ∀ sl, s.slot? x c j.level = some sl → sl.condition ≠ .blocked

theorem judgeScan_judgeable (s : State) (x : Index) (check : Check) (sc : Scan) :
    ∀ j ∈ judgeScan s x check sc, Judgeable s x sc.carrier j := by
  intro j hj
  rw [judgeScan_eq] at hj
  obtain ⟨e, -, rfl⟩ := List.mem_map.mp hj
  intro hv sl hsl hb
  refine hv ?_
  change ((s.slot? x sc.carrier e.level).map _).getD Verdict.skipped = _
  rw [show s.slot? x sc.carrier e.level = some sl from hsl]
  exact judgeLevel_skipped (.inr hb)

/-- A judgement that is taken leaves no slot BLOCKED that was not. -/
theorem Judgeable.takeJudgement {gen : Nat} {check : Check} {i j : Judged} (hj : Judgeable s x c j) :
    Judgeable (takeJudgement x c gen check s i) x c j := by
  intro hv sl hsl
  rw [takeJudgement_slot?] at hsl
  split at hsl
  · rename_i he
    obtain ⟨old, hold, rfl⟩ := Option.map_eq_some_iff.mp hsl
    have hn := hj hv old (by rw [he.2.2]; exact hold)
    unfold Slot.judged
    split
    · exact hn
    · simp
    · simp
  · exact hj hv sl hsl

/-- A judgement in the books' eyes: its slot, or none, is judged. -/
theorem books_takeJudgement (x : Index) (c gen : Nat) (check : Check) (s : State) (j : Judged) :
    (takeJudgement x c gen check s j).books = s.books ∨ ∃ sl, s.slot? x c j.level = some sl ∧ j.verdict ≠ .skipped ∧
      (takeJudgement x c gen check s j).books = (s.setSlot x c j.level (sl.judged s.audit.generation j.verdict)).books := by
  unfold takeJudgement
  cases hv : j.verdict with
  | skipped => exact .inl rfl
  | matching =>
    unfold State.modSlot
    cases hsl : s.slot? x c j.level with
    | none => exact .inl rfl
    | some sl => exact .inr ⟨sl, rfl, by simp, rfl⟩
  | mismatch kind =>
    cases hsl : s.slot? x c j.level with
    | none => exact .inl rfl
    | some sl => exact .inr ⟨sl, rfl, by simp, rfl⟩

/-- The slot of an insertion that may begin is reserved in for its port, PLANNED (R83). -/
theorem insertionSlot_reserved {m : Nat} (h : insertionSlot s p = some (c, l, m)) :
    ∃ sl tag, s.slot? p c l = some sl ∧ sl.reservation = .inbound p tag m .planned := by
  unfold insertionSlot at h
  repeat' split at h
  all_goals cases h
  rename_i hq _ _ hsl hr
  subst hq
  exact ⟨_, _, hsl, hr⟩

namespace Booked

/-- A slot record replaced where its mass stays as it is. -/
theorem setSlot (hs : Booked s) (hsl : s.slot? x c l = some sl)
    (hsound : (s.carousels.get x).map.state = .committed → SlotCounted sl')
    (hquiet : s.serviceGroup x = none → sl'.reservation = .none ∧ sl'.counted = sl'.recorded)
    (hE : s.serviceGroup x ≠ none → sl'.counted = sl.counted)
    (hP : s.serviceGroup x ≠ none → sl'.plannedMass = sl.plannedMass) : Booked (s.setSlot x c l sl') := by
  have h := hs.exchange (sl' := sl') (dm := 0) (w := .both) hsl hsound hquiet (fun hx => by simp [hE hx, Named.onE])
    (fun hx => by simp [hP hx, Named.onP])
  rwa [handMass_not_taken (.inl rfl)] at h

/-- Another condition, finding or stamp of a slot that is not taken out of BLOCKED. -/
theorem recondition (hs : Booked s) (hsl : s.slot? x c l = some sl) (hr : sl'.reservation = sl.reservation)
    (hcon : sl'.content = sl.content) (hm : sl'.counted = sl.counted) (hd : sl'.recorded = sl.recorded)
    (hb : sl'.condition ≠ .blocked → sl.condition ≠ .blocked) : Booked (s.setSlot x c l sl') := by
  refine hs.setSlot hsl (fun hx => (hs.slots x hx c l sl hsl).of_same hr hcon hm hd hb) (fun hx => ?_) (fun _ => hm) fun _ => ?_
  · rw [hr, hm, hd]
    exact hs.quiet x hx c l sl hsl
  · unfold Slot.plannedMass
    rw [hr, hm, hd]

/-! ## Scans compared (R145) -/

theorem takeJudgement (hs : Booked s) {gen : Nat} {check : Check} {j : Judged} (hj : Judgeable s x c j) :
    Booked (Machine.takeJudgement x c gen check s j) := by
  rcases books_takeJudgement x c gen check s j with h | ⟨sl, hsl, hv, h⟩
  · exact hs.of_books h
  · refine (hs.recondition hsl ?_ ?_ ?_ ?_ fun _ => hj hv sl hsl).of_books h <;> unfold Slot.judged <;> cases j.verdict <;> rfl

theorem takeJudgements (gen : Nat) (check : Check) (js : List Judged) (s : State) (hs : Booked s)
    (hj : ∀ j ∈ js, Judgeable s x c j) : Booked (js.foldl (Machine.takeJudgement x c gen check) s) := by
  induction js generalizing s with
  | nil => exact hs
  | cons j js ih =>
    exact ih _ (hs.takeJudgement (hj j List.mem_cons_self)) fun j' hj' => (hj j' (List.mem_cons_of_mem _ hj')).takeJudgement

theorem auditComparison (hs : Booked s) (x : Index) (sc : Scan) : Booked (auditComparison x sc s) := by
  unfold Machine.auditComparison
  split
  · exact hs
  · rename_i t _
    dsimp only
    split
    · exact hs.of_books (by simp)
    · refine (takeJudgements t.generation t.check _ s hs (judgeScan_judgeable s x t.check sc)).of_books ?_
      split <;> split <;> (try split) <;> simp

/-! ## Transfers begun (R83, R85) -/

theorem beginInsertion (hs : Booked s) {tag : Id32} {m : Nat} (hsl : s.slot? p c l = some sl)
    (hr : sl.reservation = .inbound p tag m .planned) : Booked (beginInsertion p c l m s) := by
  obtain ⟨hx, hc⟩ := hs.reserved hsl (by simp [hr])
  obtain ⟨hempty, hzero⟩ := hc.incoming p tag m hr
  have hv : (Machine.noteStart p (handMass p c (m : Int) .effective s)).slot? p c l = some sl := by
    rw [slot?_of_books (books_noteStart _ _), handMass_slot?]
    exact hsl
  have hsound : SlotCounted { sl with counted := m, reservation := .inbound p tag m .started } :=
    ⟨by simp, by simp, by simp, by simp, by simp, by simp⟩
  refine (hs.exchange (sl' := { sl with counted := m, reservation := .inbound p tag m .started }) (dm := m) (w := .effective) hsl
    (fun _ => hsound) (fun h => absurd h hx) (fun _ => ?_) fun _ => ?_).of_books ?_
  · simp [hzero, Named.onE]
  · rw [plannedMass_in hr, plannedMass_started rfl (.inl ⟨p, tag, m, rfl⟩), hzero]
    simp [Named.onP]
  · unfold Machine.beginInsertion
    simp only [books_modPort, books_setSched, books_modStore]
    rw [modSlot_of_get hv, hr]
    exact (books_setSlot_congr (books_noteStart _ _) ..).trans (books_setSlot_handMass ..)

theorem beginExtraction (hs : Booked s) {id : Id32} {seq : Nat} (hsl : s.slot? p c l = some sl)
    (hr : sl.reservation = .outbound id seq .planned) : Booked (beginExtraction p id seq c l sl.recorded s) := by
  obtain ⟨hx, hc⟩ := hs.reserved hsl (by simp [hr])
  obtain ⟨hheld, hcount⟩ := hc.outgoing id seq hr
  have hv : (Machine.noteStart p (handMass p c (-(sl.recorded : Int)) .effective s)).slot? p c l = some sl := by
    rw [slot?_of_books (books_noteStart _ _), handMass_slot?]
    exact hsl
  have hsound : SlotCounted { sl with counted := 0, reservation := .outbound id seq .started } :=
    ⟨by simp, by simp, by simp, by simp, by simp, by simp⟩
  refine (hs.exchange (sl' := { sl with counted := 0, reservation := .outbound id seq .started }) (dm := -(sl.recorded : Int))
    (w := .effective) hsl (fun _ => hsound) (fun h => absurd h hx) (fun _ => ?_) fun _ => ?_).of_books ?_
  · simp [hcount, Named.onE]
  · rw [plannedMass_out hr, plannedMass_started rfl (.inr ⟨id, seq, rfl⟩), hcount]
    simp [Named.onP]
  · unfold Machine.beginExtraction
    simp only [books_modPort, books_setLine]
    rw [modSlot_of_get hv]
    exact (books_setSlot_congr (books_noteStart _ _) ..).trans (books_setSlot_handMass ..)

/-! ## Face checks and scans ended (R81, R82) -/

theorem askExtraction (hs : Booked s) {id : Id32} {seq : Nat} (hsl : s.slot? p c l = some sl)
    (hr : sl.reservation = .outbound id seq .planned) : Booked (askExtraction p id seq c l sl s) := by
  unfold Machine.askExtraction
  split
  · exact hs
  · split
    · split
      · exact hs.beginExtraction hsl hr
      · exact hs.of_books (by simp)
    · exact hs

theorem endFaceCheck (hs : Booked s) (p : Index) (id : Id32) (seq c l : Nat) (rep : LevelReport) :
    Booked (endFaceCheck p id seq c l rep s) := by
  unfold Machine.endFaceCheck
  split
  · exact hs
  · rename_i sl hsl
    split
    · rename_i hr
      split
      · exact hs.askExtraction hsl hr
      · rename_i finding why _
        obtain ⟨hx, hc⟩ := hs.reserved hsl (by simp [hr])
        obtain ⟨hheld, hcount⟩ := hc.outgoing id seq hr
        have hsound : SlotCounted { sl with condition := .suspect, reservation := .none, finding := some finding } :=
          .of_quiet rfl hcount (by simp [hheld])
        refine (hs.exchange (sl' := { sl with condition := .suspect, reservation := .none, finding := some finding })
          (dm := sl.recorded) (w := .planned) hsl (fun _ => hsound) (fun _ => ⟨rfl, hcount⟩) (fun _ => ?_) fun _ => ?_).of_books
          (by simp)
        · simp [Named.onE]
        · rw [plannedMass_out hr, plannedMass_none rfl]
          simp [Named.onP]
    · exact hs

theorem endScan (hs : Booked s) (p : Index) : Booked (endScan p s) := by
  unfold Machine.endScan
  split
  · exact hs
  · have h1 : Booked (s.modPort p fun port => { port with scan := none }) := hs.of_books (by simp)
    dsimp only
    split
    · exact h1.auditComparison _ _
    · exact h1
    · split
      · exact h1.endFaceCheck _ _ _ _ _ _
      · exact h1

theorem startScan (hs : Booked s) (p : Index) (u : ScanUser) (c : Nat) (tags : Bool) (ls : List Nat) :
    Booked (startScan p u c tags ls s) := by
  unfold Machine.startScan
  dsimp only
  split
  · exact endScan (hs.of_books (by simp)) _
  · exact hs.of_books (by simp)

theorem answerFaceTag (hs : Booked s) (p : Index) (level : Nat) (answer : Option Id32) :
    Booked (answerFaceTag p level answer s) := by
  unfold Machine.answerFaceTag
  split
  · exact hs
  · have goOn : ∀ sc' : Scan, Booked (if sc'.complete then Machine.endScan p (s.modPort p fun port => { port with scan := some sc' })
        else s.modPort p fun port => { port with scan := some sc' }) := by
      intro sc'
      have h1 : Booked (s.modPort p fun port => { port with scan := some sc' }) := hs.of_books (by simp)
      split
      · exact h1.endScan _
      · exact h1
    exact goOn _

/-! ## What a turn starts (R116) -/

theorem askInsertion (hs : Booked s) (p : Index) : Booked (askInsertion p s).1 := by
  unfold Machine.askInsertion
  split
  · rename_i c l m g hi _
    obtain ⟨sl, tag, hsl, hr⟩ := insertionSlot_reserved hi
    split
    · exact hs.beginInsertion hsl hr
    · exact hs.of_books (by simp)
  · exact hs

theorem askFaceCheck (hs : Booked s) (id : Id32) (seq : Nat) : Booked (askFaceCheck id seq s).1 := by
  unfold Machine.askFaceCheck
  split
  · exact hs
  · split
    · exact hs
    · split
      · exact hs.startScan _ _ _ _ _
      · exact hs

theorem askAuditScan (hs : Booked s) (x : Index) : Booked (askAuditScan x s).1 := by
  unfold Machine.askAuditScan
  split
  · split
    · exact startScan (hs.of_books (by simp)) _ _ _ _ _
    · exact hs
  · exact hs

theorem startFirst (ts : List TaskItem) (s : State) (hs : Booked s) : Booked (startFirst ts s).1 := by
  induction ts generalizing s with
  | nil => exact hs
  | cons t ts ih =>
    unfold Machine.startFirst
    cases t.task with
    | pick id seq =>
      dsimp only
      split
      · exact hs.askFaceCheck _ _
      · exact ih _ (hs.askFaceCheck _ _)
    | store p =>
      dsimp only
      split
      · exact hs.askInsertion _
      · exact ih _ (hs.askInsertion _)
    | audit x =>
      dsimp only
      split
      · exact hs.askAuditScan _
      · exact ih _ (hs.askAuditScan _)

theorem portStart (hs : Booked s) (g x : Index) : Booked (portStart g x s).1 := by
  unfold Machine.portStart
  split
  · split
    · exact hs
    · exact startFirst _ _ hs
  · exact hs

theorem portStarts (g : Index) (xs : List Index) (s : State) (hs : Booked s) : Booked (portStarts g xs s).1 := by
  induction xs generalizing s with
  | nil => exact hs
  | cons x xs ih => exact ih _ (hs.portStart g x)

/-! ## The turns (R116 to R119) -/

theorem idleTurn (hs : Booked s) (g : Index) : Booked (idleTurn g s) := by
  unfold Machine.idleTurn
  dsimp only
  have h1 := portStarts g (Machine.freeOrder s.choices (s.membersOf g)) _ (hs.of_books (books_spendChoices s (s.membersOf g)))
  split
  · exact h1
  · split
    · exact h1.of_books (by simp)
    · split
      · exact h1.of_books (by simp)
      · split
        · split
          · exact h1.of_books (by simp)
          · exact h1
        · exact h1

theorem movingTurn (hs : Booked s) (g : Index) : Booked (movingTurn g s) := by
  unfold Machine.movingTurn
  split
  · exact hs
  · split
    · exact hs.of_books (by simp)
    · exact hs

theorem turn (hs : Booked s) (g : Index) : Booked (turn g s) := by
  unfold Machine.turn
  split
  · split
    · exact hs.idleTurn g
    · exact hs.movingTurn g
    · exact hs
  · exact hs

theorem takeTurns (gs : List Index) (s : State) (hs : Booked s) : Booked (takeTurns gs s).1 := by
  have given : ∀ (gs : List Index) (w : State × List Index), Booked w.1 → Booked (gs.foldl giveTurn w).1 := by
    intro gs
    induction gs with
    | nil => exact fun _ hw => hw
    | cons g gs ih => exact fun w hw => ih _ ((hw.turn g).of_books (books_pruneLists _))
  exact given _ _ (hs.of_books (books_spendChoices s gs))

theorem turnRounds (n : Nat) (gs : List Index) (s : State) (hs : Booked s) : Booked (turnRounds n gs s) := by
  induction n generalizing gs s with
  | zero => exact hs
  | succ n ih =>
    unfold Machine.turnRounds
    split
    · exact hs
    · exact ih _ _ (takeTurns _ _ hs)

/-- The scheduler's turns keep the books sound. -/
theorem giveTurns (hs : Booked t) (events : List Index) (before : State) : Booked (giveTurns events before t) :=
  turnRounds _ _ _ (hs.of_books (books_pruneLists t))

end Booked

end Sys2Proof.Machine

/-! SUPPORT. Configuration keeps the books sound: SET_CAROUSEL, SET_GROUP, COMMISSION, RESET GROUP and the slot map's requests touch
no group in service, but for the one that COMMISSION takes into it (R5, R8, R11, R22, R24 to R27). -/

namespace Sys2Proof.Machine

open Sys2Proof

variable {s t : State} {x : Index} {g : Index} {grp : Group}

/-! ## Books rebuilt out of service -/

theorem exists_of_serviceGroup (h : s.serviceGroup x = some g) :
    ∃ grp, s.groups.get g = some grp ∧ grp.state ≠ .offline ∧ x ∈ grp.members := by
  obtain ⟨hof, grp, hg, ho⟩ := serviceGroup_eq_some.mp h
  obtain ⟨a, ha, hm⟩ := member_of_groupOf hof
  rw [hg] at ha
  cases ha
  exact ⟨grp, hg, ho, hm⟩

/-- A group with the members that it had, over the carousels that it had, has the geometry and the sums that it had. -/
theorem moment_of_members {a b : Group} (ha : s.groups.get g = some a) (hb : t.groups.get g = some b) (hm : b.members = a.members)
    (hc : ∀ y ∈ b.members, t.carousels.get y = s.carousels.get y) :
    t.geometry g = s.geometry g ∧ ∀ mass k, slotMoment t g mass k = slotMoment s g mass k := by
  have hgo : ∀ y ∈ b.members, t.geometryOf y = s.geometryOf y := fun y hy => by
    unfold State.geometryOf
    rw [hc y hy]
  have hgeo : t.geometry g = s.geometry g := by
    rw [geometry_eq ha, geometry_eq hb, ← hm]
    cases hmem : b.members with
    | nil => rfl
    | cons y ys => exact hgo y (hmem ▸ List.mem_cons_self)
  refine ⟨hgeo, fun mass k => ?_⟩
  rw [slotMoment_eq, slotMoment_eq, hgeo, membersOf_some ha, membersOf_some hb, ← hm]
  congr 1
  exact List.map_congr_left fun y hy => by rw [hc y hy]

/-- Books in which every group in service is as it was, over the carousels that it had, and the slots out of service are quiet. -/
theorem Booked.rebuild (hs : Booked s) (hbal : BalanceInv t) (hmem : ∀ g b, t.groups.get g = some b → b.members.Nodup)
    (hgrp : ∀ g b, t.groups.get g = some b → b.state ≠ .offline →
      (∃ a, s.groups.get g = some a ∧ b.books = a.books) ∧ ∀ y ∈ b.members, t.carousels.get y = s.carousels.get y)
    (hrest : ∀ y, t.serviceGroup y = none → ∀ c l sl, t.slot? y c l = some sl →
      (sl.reservation = .none ∧ sl.counted = sl.recorded) ∧ ((t.carousels.get y).map.state = .committed → SlotCounted sl)) :
    Booked t := by
  have served : ∀ y, t.serviceGroup y ≠ none → s.serviceGroup y ≠ none ∧ t.carousels.get y = s.carousels.get y := by
    intro y hy
    obtain ⟨g, hg⟩ := Option.ne_none_iff_exists'.mp hy
    obtain ⟨b, hb, ho, hm⟩ := exists_of_serviceGroup hg
    obtain ⟨⟨a, ha, he⟩, hc⟩ := hgrp g b hb ho
    obtain ⟨hmem, hoff, -⟩ := Group.of_books he
    refine ⟨?_, hc y hm⟩
    rw [serviceGroup_of_member hs.balance.disjoint ha (hmem ▸ hm) fun e => ho (hoff.mpr e)]
    simp
  refine ⟨hbal, hmem, fun y hy c l sl hsl => ?_, fun y hy c l sl hsl => (hrest y hy c l sl hsl).1, fun y hy => ?_,
    fun g b hb ho k hk => ?_⟩
  · by_cases hsvc : t.serviceGroup y = none
    · exact (hrest y hsvc c l sl hsl).2 hy
    · have hc := (served y hsvc).2
      rw [slot?_eq, hc] at hsl
      rw [hc] at hy
      exact hs.slots y hy c l sl hsl
  · obtain ⟨hsvc, hc⟩ := served y hy
    rw [hc]
    exact hs.serving y hsvc
  · obtain ⟨⟨a, ha, he⟩, hc⟩ := hgrp g b hb ho
    obtain ⟨hm, hoff, hE, hP⟩ := Group.of_books he
    obtain ⟨hgeo, hmom⟩ := moment_of_members ha hb hm hc
    rw [hgeo] at hk
    rw [hmom, hmom, hE, hP]
    exact hs.defined g a ha (fun e => ho (hoff.mpr e)) k hk

/-- A part without groups and with maps that hold nothing. -/
theorem Booked.of_empty (hg : t.groups = Quad.fill none) (hc : t.carousels = Quad.fill Carousel.powerOn) : Booked t := by
  have noGroup : ∀ {g b}, t.groups.get g ≠ some b := fun {g b} h => by simp [hg] at h
  have noSlot : ∀ {y c l sl}, t.slot? y c l ≠ some sl := fun {y c l sl} h => by
    rw [slot?_eq, hc] at h
    simp [Carousel.powerOn, SlotMap.slot?] at h
  refine ⟨balanceInv_powerOn hc hg, fun g b h => absurd h noGroup, fun _ _ _ _ _ h => absurd h noSlot,
    fun _ _ _ _ _ h => absurd h noSlot, fun y hy => ?_, fun g b h => absurd h noGroup⟩
  obtain ⟨g, hs⟩ := Option.ne_none_iff_exists'.mp hy
  obtain ⟨b, hb, -⟩ := exists_of_serviceGroup hs
  exact absurd hb noGroup

/-- A map that SET_CAROUSEL keeps or reopens holds the records that it held (R5). -/
theorem reconfigured_slot? {m : SlotMap} {old : Option CarouselConfig} {new : CarouselConfig} {c l : Nat} {sl : Slot}
    (h : (m.reconfigured old new).slot? c l = some sl) :
    m.slot? c l = some sl ∧ ((m.reconfigured old new).state = .committed → m.state = .committed) := by
  unfold SlotMap.reconfigured at h ⊢
  cases old with
  | none => simp [SlotMap.slot?] at h
  | some o =>
    dsimp only at h ⊢
    split at h
    · simp [SlotMap.slot?] at h
    · rename_i hshape
      rw [if_neg hshape]
      split at h
      · rename_i hsame
        rw [if_pos hsame]
        exact ⟨h, id⟩
      · rename_i hdiff
        rw [if_neg hdiff]
        refine ⟨h, fun hc => ?_⟩
        cases hm : m.state <;> simp [hm] at hc ⊢

namespace Booked

/-- A slot of a carousel out of service. -/
theorem quietSlot (hs : Booked s) (hx : s.serviceGroup x = none) {c l : Nat} {sl : Slot} (hsl : s.slot? x c l = some sl) :
    (sl.reservation = .none ∧ sl.counted = sl.recorded) ∧ ((s.carousels.get x).map.state = .committed → SlotCounted sl) :=
  ⟨hs.quiet x hx c l sl hsl, fun hc => hs.slots x hc c l sl hsl⟩

/-! ## SET_CAROUSEL (R5) -/

theorem configured (hs : Booked s) {r : CarouselRequest} (hf : firstFailure (carouselFieldChecks r) = none)
    (hc : firstFailure (carouselGroupChecks s x r) = none) : Booked (configureCarousel x r.config s) := by
  have hbal := configureCarousel_balance hs.balance hf hc
  obtain ⟨hx, -⟩ := carouselGroupChecks_spec hc
  have hcar := configureCarousel_carousels_eq x r.config s
  have others : ∀ y, y ≠ x → (configureCarousel x r.config s).carousels.get y = s.carousels.get y := fun y hy => by
    rw [hcar, Quad.get_set_ne _ _ hy]
  have standing : ∀ h, ((configureCarousel x r.config s).groups.get h).map Group.standing = (s.groups.get h).map Group.standing := by
    intro h
    unfold configureCarousel
    dsimp only
    split
    · split
      · rw [modGroup_groups, setCarousel_groups, Quad.get_set]
        split
        · rename_i he
          rw [he, Option.map_map]
          rfl
        · rfl
      · rfl
    · rfl
  have hsvc : ∀ y, (configureCarousel x r.config s).serviceGroup y = s.serviceGroup y := serviceGroup_congr standing
  refine hs.rebuild hbal (fun h b hb => ?_) (fun h b hb ho => ?_) fun y hy c l sl hsl => ?_
  · obtain ⟨a, ha, ⟨rfl, -⟩ | ⟨rfl, -⟩⟩ := configureCarousel_get hb
    · exact hs.members h b ha
    · exact hs.members h a ha
  · obtain ⟨a, ha, ⟨rfl, -⟩ | ⟨rfl, hof⟩⟩ := configureCarousel_get hb
    · refine ⟨⟨b, ha, rfl⟩, fun y hy => others y fun e => ?_⟩
      subst e
      rw [serviceGroup_of_member hs.balance.disjoint ha hy ho] at hx
      cases hx
    · rw [serviceGroup_eq_some.mpr ⟨hof, a, ha, ho⟩] at hx
      cases hx
  · rw [hsvc] at hy
    by_cases hyx : y = x
    · subst hyx
      rw [slot?_eq, hcar, Quad.get_set_same] at hsl
      rw [hcar, Quad.get_set_same]
      obtain ⟨hold, hcom⟩ := reconfigured_slot? hsl
      exact ⟨(hs.quietSlot hy hold).1, fun h => (hs.quietSlot hy hold).2 (hcom h)⟩
    · rw [slot?_eq, others y hyx] at hsl
      rw [others y hyx]
      exact hs.quietSlot hy hsl

/-! ## SET_GROUP (R8) -/

theorem grouped (hs : Booked s) {r : GroupRequest} (hf : firstFailure (groupFieldChecks r) = none)
    (hc : firstFailure (groupStateChecks s g r.memberList) = none) : Booked (defineGroup g r.memberList r.params s) := by
  have hne : r.memberList ≠ [] := by
    have := firstFailure_none_iff.mp hf (!r.memberList.isEmpty, .range, 1) (by simp [groupFieldChecks])
    simpa using this
  have hbal := defineGroup_balance hs.balance r.params hne hc
  obtain ⟨hoff, -, htaken, -⟩ := groupStateChecks_spec hc
  have others : ∀ h b, h ≠ g → (defineGroup g r.memberList r.params s).groups.get h = some b →
      ∃ a, s.groups.get h = some a ∧ a.without r.memberList = some b := by
    intro h b hne hb
    rw [defineGroup_get, if_neg hne] at hb
    exact Option.bind_eq_some_iff.mp hb
  have whole : ∀ h a, h ≠ g → s.groups.get h = some a → a.state ≠ .offline → a.without r.memberList = some a := by
    intro h a hne ha ho
    refine if_pos (List.filter_eq_self.mpr fun y hy => ?_)
    simp only [Bool.not_eq_true', List.contains_eq_mem, decide_eq_false_iff_not]
    exact fun hm => ho (offline_of_taken hs.balance.disjoint htaken ha hne hy hm)
  have kept : ∀ {h a}, h ≠ g → s.groups.get h = some a → a.state ≠ .offline →
      (defineGroup g r.memberList r.params s).groups.get h = some a := fun {h a} hne ha ho => by
    rw [defineGroup_get, if_neg hne, ha]
    exact whole h a hne ha ho
  have hcar : (defineGroup g r.memberList r.params s).carousels = s.carousels := defineGroup_carousels ..
  have own : ∀ b, (defineGroup g r.memberList r.params s).groups.get g = some b → b.members = r.memberList ∧ b.state = .offline := by
    intro b hb
    rw [defineGroup_get, if_pos rfl] at hb
    cases hb
    exact ⟨rfl, rfl⟩
  refine hs.rebuild hbal (fun h b hb => ?_) (fun h b hb ho => ⟨?_, fun y _ => by rw [hcar]⟩) fun y hy c l sl hsl => ?_
  · by_cases hg : h = g
    · subst hg
      rw [(own b hb).1]
      exact (show allIndices.Nodup by decide).filter _
    · obtain ⟨a, ha, hw⟩ := others h b hg hb
      rw [without_members hw]
      exact (hs.members h a ha).filter _
  · by_cases hg : h = g
    · subst hg
      exact absurd (own b hb).2 ho
    · obtain ⟨a, ha, hw⟩ := others h b hg hb
      have hst : b.state = a.state := show b.noteless.state = a.noteless.state by rw [without_eq_some hw]
      rw [kept hg ha (hst ▸ ho)] at hb
      cases hb
      exact ⟨b, ha, rfl⟩
  · rw [slot?_of_carousels hcar] at hsl
    rw [hcar]
    refine hs.quietSlot (Option.eq_none_iff_forall_ne_some.mpr fun h hh => ?_) hsl
    obtain ⟨a, ha, ho, hm⟩ := exists_of_serviceGroup hh
    have hg : h ≠ g := fun e => ho (hoff a (e ▸ ha))
    rw [serviceGroup_of_member hbal.disjoint (kept hg ha ho) hm ho] at hy
    cases hy

/-! ## COMMISSION (R11, R45) -/

/-- A group's record replaced by one that is as far in service. -/
theorem setGroup_serviceGroup {grp' : Group} (hg : s.groups.get g = some grp) (hm : grp'.members = grp.members)
    (ho : grp'.state = .offline ↔ grp.state = .offline) (y : Index) : (s.setGroup g (some grp')).serviceGroup y = s.serviceGroup y :=
  serviceGroup_congr (fun k => by
    rw [setGroup_groups, Quad.get_set]
    split
    · rename_i hk
      rw [hk, hg]
      exact congrArg some (Prod.ext hm (decide_eq_decide.mpr ho))
    · rfl) y

theorem unloaded (hs : Booked s) (hg : s.groups.get g = some grp) (ho : grp.state = .offline) :
    Booked (s.setGroup g (some (grp.unloaded (s.geometry g).carriers))) := by
  have hsvc := setGroup_serviceGroup (grp' := grp.unloaded (s.geometry g).carriers) hg rfl Iff.rfl
  have other : ∀ {h b}, (s.setGroup g (some (grp.unloaded (s.geometry g).carriers))).groups.get h = some b →
      (h = g ∧ b = grp.unloaded (s.geometry g).carriers) ∨ s.groups.get h = some b := fun {h b} hb => by
    rw [setGroup_groups, Quad.get_set] at hb
    split at hb
    · exact .inl ⟨‹_›, (Option.some.inj hb).symm⟩
    · exact .inr hb
  refine hs.rebuild (balanceWork.unloaded s g grp hg ho hs.balance) (fun h b hb => ?_) (fun h b hb hno => ⟨?_, fun _ _ => rfl⟩)
    fun y hy c l sl hsl => ?_
  · rcases other hb with ⟨rfl, rfl⟩ | hb
    · exact hs.members h grp hg
    · exact hs.members h b hb
  · rcases other hb with ⟨rfl, rfl⟩ | hb
    · exact absurd ho hno
    · exact ⟨b, hb, rfl⟩
  · rw [hsvc] at hy
    exact hs.quietSlot hy hsl

/-- The members of an OFFLINE group are out of service. -/
theorem outOfService_of_offline (hs : Booked s) (hg : s.groups.get g = some grp) (ho : grp.state = .offline) :
    ∀ y ∈ grp.members, s.serviceGroup y = none := fun y hy => Option.eq_none_iff_forall_ne_some.mpr fun h hh => by
  obtain ⟨a, ha, hao, hm⟩ := exists_of_serviceGroup hh
  obtain rfl := hs.balance.disjoint h g a grp y ha hg hm hy
  rw [hg] at ha
  cases ha
  exact hao ho

/-- A quiet slot of a COMMITTED map counts the mass that it holds. -/
theorem heldMass_of_quiet (hs : Booked s) (hx : s.serviceGroup x = none) (hc : (s.carousels.get x).map.state = .committed)
    {c l : Nat} {sl : Slot} (hsl : s.slot? x c l = some sl) : sl.heldMass = sl.counted ∧ sl.heldMass = sl.plannedMass := by
  obtain ⟨⟨hr, hq⟩, hsound⟩ := hs.quietSlot hx hsl
  rw [plannedMass_none hr, and_self]
  unfold Slot.heldMass
  split
  · rw [hq]
  · rename_i hcon
    have hempty : sl.content = .empty := by cases he : sl.content <;> simp [he] at hcon ⊢
    rw [(hsound hc).free hr hempty]
    rfl

/-- The profile that COMMISSION computes is both sums of R42: no slot of the members has a reservation, and each counts what it
holds. -/
theorem freshProfile_defined (hs : Booked s) (hg : s.groups.get g = some grp) (ho : grp.state = .offline)
    (hcom : ∀ y ∈ grp.members, (s.carousels.get y).map.state = .committed) {k : Nat} (hk : k < (s.geometry g).carriers) :
    (s.freshProfile g).getD k 0 = slotMoment s g (fun sl => (sl.counted : Int)) k
      ∧ (s.freshProfile g).getD k 0 = slotMoment s g Slot.plannedMass k := by
  have held : ∀ y ∈ s.membersOf g, ∀ c l sl, s.slot? y c l = some sl → sl.heldMass = sl.counted ∧ sl.heldMass = sl.plannedMass := by
    intro y hy c l sl hsl
    rw [membersOf_some hg] at hy
    exact hs.heldMass_of_quiet (hs.outOfService_of_offline hg ho y hy) (hcom y hy) hsl
  rw [(freshProfile_spec s g).2 k hk]
  exact ⟨slotMoment_congr_mass (fun y hy c l sl hsl => (held y hy c l sl hsl).1) k,
    slotMoment_congr_mass (fun y hy c l sl hsl => (held y hy c l sl hsl).2) k⟩

/-- An OFFLINE group of COMMITTED maps enters service with the profiles that COMMISSION computes. -/
theorem commissioned (hs : Booked s) (hg : s.groups.get g = some grp) (hc : firstFailure (commissionChecks s grp) = none) :
    Booked (s.setGroup g (some (grp.commissioned (s.freshProfile g)))) := by
  have hchecks := firstFailure_none_iff.mp hc
  have ho : grp.state = .offline := by
    simpa using hchecks (grp.state == .offline, .state, 0xFF) (by simp [commissionChecks])
  have hcom : ∀ y ∈ grp.members, (s.carousels.get y).map.state = .committed := fun y hy => by
    simpa using hchecks ((s.carousels.get y).map.state == .committed, .state, y.val) (by
      simp only [commissionChecks, memberChecks, List.mem_append, List.mem_map]
      exact .inl (.inl (.inr ⟨y, hy, rfl⟩)))
  have hbal := balanceWork.commissioned s g grp hg hc hs.balance
  generalize ht : s.setGroup g (some (grp.commissioned (s.freshProfile g))) = t at hbal ⊢
  have hcar : ∀ y, t.carousels.get y = s.carousels.get y := fun y => ht ▸ rfl
  have hgroups : ∀ h, t.groups.get h = if h = g then some (grp.commissioned (s.freshProfile g)) else s.groups.get h := fun h => by
    rw [← ht, setGroup_groups, Quad.get_set]
  have other : ∀ {h b}, t.groups.get h = some b →
      (h = g ∧ b = grp.commissioned (s.freshProfile g)) ∨ (h ≠ g ∧ s.groups.get h = some b) := fun {h b} hb => by
    rw [hgroups] at hb
    split at hb
    · exact .inl ⟨‹_›, (Option.some.inj hb).symm⟩
    · exact .inr ⟨‹_›, hb⟩
  have served : ∀ {y}, s.serviceGroup y ≠ none → t.serviceGroup y ≠ none := fun {y} hy => by
    obtain ⟨h, hh⟩ := Option.ne_none_iff_exists'.mp hy
    obtain ⟨a, ha, hao, hm⟩ := exists_of_serviceGroup hh
    have hne : h ≠ g := fun e => hao (by rw [e, hg] at ha; cases ha; exact ho)
    rw [serviceGroup_of_member hbal.disjoint (g := h) (by rw [hgroups, if_neg hne]; exact ha) hm hao]
    simp
  refine ⟨hbal, fun h b hb => ?_, ht ▸ hs.slots, fun y hy c l sl hsl => ?_, fun y hy => ?_, fun h b hb hno k hk => ?_⟩
  · rcases other hb with ⟨-, rfl⟩ | ⟨-, hb⟩
    · exact hs.members g grp hg
    · exact hs.members h b hb
  · rw [← ht] at hsl
    exact hs.quiet y (by_contra fun hn => served hn hy) c l sl hsl
  · obtain ⟨h, hh⟩ := Option.ne_none_iff_exists'.mp hy
    obtain ⟨b, hb, hbo, hm⟩ := exists_of_serviceGroup hh
    rw [hcar]
    rcases other hb with ⟨-, rfl⟩ | ⟨-, hb⟩
    · exact hcom y hm
    · exact hs.serving y (by rw [serviceGroup_of_member hs.balance.disjoint hb hm hbo]; simp)
  · rcases other hb with ⟨rfl, rfl⟩ | ⟨-, hb'⟩
    · obtain ⟨hgeo, hmom⟩ := moment_of_members hg hb rfl fun y _ => hcar y
      rw [hgeo] at hk
      rw [hmom, hmom]
      exact hs.freshProfile_defined hg ho hcom hk
    · obtain ⟨hgeo, hmom⟩ := moment_of_members hb' hb rfl fun y _ => hcar y
      rw [hgeo] at hk
      rw [hmom, hmom]
      exact hs.defined h b hb' hno k hk

end Booked

end Sys2Proof.Machine

/-! SUPPORT. RESET GROUP, the slot map's requests, SLOT_RESOLVE, and the requests that reserve and release slots keep the books
sound (R22, R24 to R27, R39, R105, R111, R121). -/

namespace Sys2Proof.Machine

open Sys2Proof

variable {s t : State} {x : Index} {g : Index} {grp : Group}

/-! ## What a committed map holds (R26) -/

theorem walkLevels_coherent {cfg : CarouselConfig} {c l : Nat} {ls : List Slot} {seen seen' : List Id32}
    (h : walkLevels s cfg c l ls seen = .inr seen') : ∀ sl ∈ ls, sl.coherent = true := by
  induction ls generalizing l seen with
  | nil => simp
  | cons a ls ih =>
    unfold walkLevels at h
    split at h
    · cases h
    · rename_i hf
      refine List.forall_mem_cons.mpr ⟨?_, ih h⟩
      by_contra hn
      unfold slotFailure at hf
      have hn : a.coherent = false := by simpa using hn
      simp [hn] at hf

theorem walkCarriers_coherent {cfg : CarouselConfig} {n : Nat} {carriers : List (List Slot)} {seen : List Id32}
    (h : walkCarriers s cfg n carriers seen = none) : ∀ ls ∈ carriers, ∀ sl ∈ ls, sl.coherent = true := by
  induction carriers generalizing n seen with
  | nil => simp
  | cons ls rest ih =>
    unfold walkCarriers at h
    split at h
    · cases h
    · rename_i hl
      split at h
      · cases h
      · exact List.forall_mem_cons.mpr ⟨walkLevels_coherent hl, ih h⟩

theorem recorded_of_coherent {sl : Slot} (h : sl.coherent = true) (he : sl.content = .empty) : sl.recorded = 0 := by
  unfold Slot.coherent at h
  rw [he] at h
  simp only [Bool.and_eq_true, beq_iff_eq] at h
  exact h.2

namespace Booked

/-! ## RESET GROUP (R22) -/

theorem groupReset (hs : Booked s) (hg : s.groups.get g = some grp) : Booked (resetGroup g grp s) := by
  have hbal := resetGroup_balance hs.balance hg
  have hgroups := resetGroup_groups g grp s
  obtain ⟨cs, ports, tasks, he, hcs⟩ := resetGroup_spec g grp s
  have hcar : (resetGroup g grp s).carousels = cs := by rw [he]
  have other : ∀ {h b}, (resetGroup g grp s).groups.get h = some b →
      (h = g ∧ b = Group.fresh grp.members grp.params (s.geometry g).carriers 0) ∨ (h ≠ g ∧ s.groups.get h = some b) := by
    intro h b hb
    rw [hgroups, Quad.get_set] at hb
    split at hb
    · exact .inl ⟨‹_›, (Option.some.inj hb).symm⟩
    · exact .inr ⟨‹_›, hb⟩
  have apart : ∀ {h b}, h ≠ g → s.groups.get h = some b → ∀ y ∈ b.members, y ∉ grp.members := fun hne hb y hy hm =>
    hne (hs.balance.disjoint _ g _ grp y hb hg hy hm)
  refine hs.rebuild hbal (fun h b hb => ?_) (fun h b hb ho => ?_) fun y hy c l sl hsl => ?_
  · rcases other hb with ⟨-, rfl⟩ | ⟨-, hb⟩
    · exact hs.members g grp hg
    · exact hs.members h b hb
  · rcases other hb with ⟨-, rfl⟩ | ⟨hne, hb⟩
    · exact absurd rfl ho
    · refine ⟨⟨b, hb, rfl⟩, fun y hy => ?_⟩
      rw [hcar]
      exact ((hcs y).1 (apart hne hb y hy)).1
  · rw [slot?_eq, hcar] at hsl
    rw [hcar]
    by_cases hm : y ∈ grp.members
    · rw [((hcs y).2 hm).1] at hsl
      simp [SlotMap.slot?] at hsl
    · rw [((hcs y).1 hm).1] at hsl ⊢
      refine hs.quietSlot (Option.eq_none_iff_forall_ne_some.mpr fun h hh => ?_) hsl
      obtain ⟨a, ha, hao, hya⟩ := exists_of_serviceGroup hh
      have hne : h ≠ g := fun e => hm (by rw [e, hg] at ha; cases ha; exact hya)
      rw [serviceGroup_of_member hbal.disjoint (g := h) (by rw [hgroups, Quad.get_set_ne _ _ hne]; exact ha) hya hao] at hy
      cases hy

/-! ## The slot map (R24 to R27) -/

/-- The map of a carousel out of service is replaced by a quiet one. -/
theorem setMap (hs : Booked s) (hx : s.serviceGroup x = none) {m : SlotMap} (hm : ∀ c l sl, m.slot? c l = some sl →
    (sl.reservation = .none ∧ sl.counted = sl.recorded) ∧ (m.state = .committed → SlotCounted sl)) : Booked (s.setMap x m) := by
  have hcar : (s.setMap x m).carousels = s.carousels.set x { s.carousels.get x with map := m } := rfl
  refine hs.rebuild (balanceWork.mapSet s x m hs.balance) hs.members (fun h b hb ho => ⟨⟨b, hb, rfl⟩, fun y hy => ?_⟩)
    fun y hy c l sl hsl => ?_
  · have hne : y ≠ x := fun e => by
      rw [← e, serviceGroup_of_member hs.balance.disjoint hb hy ho] at hx
      cases hx
    rw [hcar, Quad.get_set_ne _ _ hne]
  · rw [slot?_eq, hcar] at hsl
    rw [hcar]
    by_cases hyx : y = x
    · subst hyx
      rw [Quad.get_set_same] at hsl ⊢
      exact hm c l sl hsl
    · rw [Quad.get_set_ne _ _ hyx] at hsl ⊢
      exact hs.quietSlot hy hsl

theorem outOfService (hs : Booked s) (h : (s.carousels.get x).map.state ≠ .committed) : s.serviceGroup x = none :=
  by_contra fun hn => h (hs.serving x hn)

theorem runMapBegin (hs : Booked s) (p : List Byte) : Booked (runMapBegin p s).1 := by
  refine keeps_withCarousel _ _ hs fun x => ?_
  split
  · exact hs
  · refine keeps_checked _ _ hs fun hc => hs.setMap ?_ fun c l sl hsl => ?_
    · simpa using firstFailure_none_iff.mp hc _ List.mem_cons_self
    · have hempty : sl = emptySlot := by
        unfold SlotMap.opening SlotMap.slot? at hsl
        rw [List.getD_eq_getElem?_getD, List.getElem?_replicate] at hsl
        split at hsl
        · rw [Option.getD_some, List.getElem?_replicate] at hsl
          split at hsl
          · exact (Option.some.inj hsl).symm
          · cases hsl
        · simp at hsl
      subst hempty
      exact ⟨⟨rfl, rfl⟩, fun h => by cases h⟩

theorem runMapPut (hs : Booked s) (p : List Byte) : Booked (runMapPut p s).1 := by
  refine keeps_withCarousel _ _ hs fun x => ?_
  refine keeps_checked _ _ hs fun hc => ?_
  have ho : (s.carousels.get x).map.state = .opened := by
    simpa using firstFailure_none_iff.mp hc _ List.mem_cons_self
  have hx : s.serviceGroup x = none := hs.outOfService (by simp [ho])
  refine hs.setMap hx fun c l sl hsl => ⟨?_, fun h => ?_⟩
  · rw [foldl_put_slot?] at hsl
    obtain ⟨old, hold, rfl⟩ := Option.map_eq_some_iff.mp hsl
    cases lastImageOf (readImages p) c l with
    | none => exact hs.quiet x hx c l old hold
    | some im => exact ⟨rfl, rfl⟩
  · rw [foldl_put_eq] at h
    change (s.carousels.get x).map.state = .committed at h
    rw [ho] at h
    cases h

theorem runMapCommit (hs : Booked s) (p : List Byte) : Booked (runMapCommit p s).1 := by
  refine keeps_withCarousel _ _ hs fun x => ?_
  dsimp only
  split
  · rename_i cfg ho _
    have hx : s.serviceGroup x = none := hs.outOfService (by simp [ho])
    split
    · refine hs.setMap hx fun c l sl hsl => ⟨hs.quiet x hx c l sl hsl, fun h => ?_⟩
      rw [ho] at h
      cases h
    · rename_i hw
      refine hs.setMap hx fun c l sl hsl => ⟨hs.quiet x hx c l sl hsl, fun _ => ?_⟩
      obtain ⟨hr, hq⟩ := hs.quiet x hx c l sl hsl
      obtain ⟨ls, hc, hl⟩ := slot?_iff_carriers.mp (show s.slot? x c l = some sl from hsl)
      exact .of_quiet hr hq (recorded_of_coherent
        (walkCarriers_coherent hw ls (List.mem_of_getElem? hc) sl (List.mem_of_getElem? hl)))
  · exact hs

/-! ## SLOT_RESOLVE (R39) -/

theorem runSlotResolve (hs : Booked s) (p : List Byte) : Booked (runSlotResolve p s).1 := by
  refine keeps_withCarousel _ _ hs fun x => ?_
  split
  · refine keeps_checked _ _ hs fun hc => ?_
    split
    · rename_i old hold
      refine keeps_checked _ _ hs fun hst => giveTurns ?_ _ _
      have hr : old.reservation = .none := by
        simpa using firstFailure_none_iff.mp hst _ List.mem_cons_self
      have hmass : (readImage p 1).content ≠ 1 → (readImage p 1).mass = 0 := fun hcon => by
        have := firstFailure_none_iff.mp hc ((readImage p 1).mass == 0, .range, 6) (by simp [coherenceChecks, hcon])
        simpa using this
      have hsound : SlotCounted (readImage p 1).record := .of_quiet rfl rfl fun he => hmass fun h1 => by
        simp [SlotImage.record, h1] at he
      refine hs.exchange hold (fun _ => hsound) (fun _ => ⟨rfl, rfl⟩) (fun _ => rfl) fun _ => ?_
      rw [plannedMass_none hr, plannedMass_none rfl]
      rfl
    · exact hs
  · exact hs

/-! ## Reservations released (R105, R121) -/

theorem releaseInbound (hs : Booked s) (p : Index) (c l : Nat) : Booked (releaseInbound p c l s) := by
  unfold Machine.releaseInbound
  split
  · exact hs
  · rename_i sl hsl
    split
    · rename_i q tag m hr
      obtain ⟨hempty, hzero⟩ := (hs.reserved hsl (by simp [hr])).2.incoming q tag m hr
      have hsound : SlotCounted { sl with reservation := .none } :=
        ⟨fun _ _ => hzero, fun _ hheld => by simp [hempty] at hheld, by simp, by simp, by simp, by simp⟩
      refine hs.exchange (sl' := { sl with reservation := .none }) hsl (fun _ => hsound)
        (fun h => absurd h (hs.reserved hsl (by simp [hr])).1) (fun _ => by simp [Named.onE]) fun _ => ?_
      rw [plannedMass_in hr, plannedMass_none rfl]
      simp [Named.onP]
    · exact hs

theorem withdrawStore (hs : Booked s) (p : Index) (r : StoreRecord) : Booked (withdrawStore p r s) := by
  unfold Machine.withdrawStore
  split
  · exact hs.of_books (by simp)
  · dsimp only
    split
    · rename_i c l _
      exact (hs.releaseInbound p c l).of_books (by simp)
    · exact hs.of_books (by simp)
  · exact hs.of_books (by simp)
  · exact hs

theorem releaseOut (hs : Booked s) (id : Id32) (l : Line) : Booked (releaseOut id s l) := by
  unfold Machine.releaseOut
  split
  · split
    · rename_i sl hsl
      split
      · rename_i hr
        obtain ⟨hx, hc⟩ := hs.reserved hsl (by simp [hr])
        obtain ⟨hheld, hcount⟩ := hc.outgoing id l.seq hr
        have hsound : SlotCounted { sl with reservation := .none } := .of_quiet rfl hcount (by simp [hheld])
        refine hs.exchange (sl' := { sl with reservation := .none }) hsl (fun _ => hsound) (fun h => absurd h hx)
          (fun _ => by simp [Named.onE]) fun _ => ?_
        rw [plannedMass_out hr, plannedMass_none rfl]
        simp [Named.onP]
      · exact hs
    · exact hs
  · exact hs

theorem cancelLines (hs : Booked s) (o : Order) : Booked (cancelLines o s) := by
  have h1 : Booked (o.lines.foldl (Machine.releaseOut o.id) s) :=
    List.foldlRecOn _ _ hs fun _ hb l _ => Booked.releaseOut hb o.id l
  have h2 : (o.lines.foldl (loseCheck o.id) (o.lines.foldl (Machine.releaseOut o.id) s)).books =
      (o.lines.foldl (Machine.releaseOut o.id) s).books := foldl_field State.books _ (fun s l => books_loseCheck s o.id l) _ _
  refine h1.of_books ?_
  unfold Machine.cancelLines
  simp only [books_judgeGate, books_judgeOrder, books_redirect, books_modOrder, h2]

end Booked

/-! ## Reservations made (R111) -/

/-- A line whose slot, in service, is stocked with the tag and the mass of the line. -/
def ReadyLine (s : State) (l : Line) : Prop :=
  ∃ sl, s.slot? l.carousel l.carrier l.level = some sl ∧ sl.isStocked = true ∧ sl.tag = l.tag ∧ l.mass = sl.recorded
    ∧ s.serviceGroup l.carousel ≠ none

theorem isStocked_iff {sl : Slot} : sl.isStocked = true ↔ sl.content = .held ∧ sl.condition = .clear ∧ sl.reservation = .none := by
  simp [Slot.isStocked, and_assoc]

/-- A line's slot reserved leaves the lines of other tags ready. -/
theorem ReadyLine.reserveOut {l l' : Line} (h' : ReadyLine s l') (h : ReadyLine s l) (hne : l'.tag ≠ l.tag) (id : Id32) :
    ReadyLine (reserveOut id s l) l' := by
  obtain ⟨sl', hsl', hst, htag, hm, hx⟩ := h'
  obtain ⟨sl, hsl, -, htag', -⟩ := h
  have hmod : s.modSlot l.carousel l.carrier l.level (fun sl => { sl with reservation := .outbound id l.seq .planned }) =
      s.setSlot l.carousel l.carrier l.level { sl with reservation := .outbound id l.seq .planned } := modSlot_of_get hsl _
  refine ⟨sl', ?_, hst, htag, hm, ?_⟩
  · unfold Machine.reserveOut
    dsimp only
    rw [handMass_slot?, hmod, slot?_setSlot, if_neg, hsl']
    rintro ⟨hc, hk, hl⟩
    rw [hc, hk, hl, hsl] at hsl'
    cases hsl'
    exact hne (htag.symm.trans htag')
  · unfold Machine.reserveOut
    dsimp only
    rw [hmod, serviceGroup_congr (handMass_standing _ _ _ _ _)]
    exact hx

/-- The slot that holds a tag holds that tag. -/
theorem slotOf_slot? {tag : Id32} {c l : Nat} (h : slotOf s tag = some (x, c, l)) :
    ∃ sl, s.slot? x c l = some sl ∧ sl.tag = tag := by
  have hplace : Place.slot x c l ∈ places s tag := by
    unfold slotOf tagPlace at h
    split at h
    · rename_i hp
      cases h
      exact List.mem_of_head? hp
    · cases h
  simp only [places, List.mem_append, slot_notMem_storePlaces, slot_notMem_shuttlePlaces, slot_notMem_stationPlaces,
    or_false, List.mem_flatMap] at hplace
  obtain ⟨y, -, hy⟩ := hplace
  obtain rfl := (committed_of_slot_mem_heldPlaces hy).1
  unfold heldPlaces at hy
  split at hy
  · simp only [List.mem_flatMap, List.mem_filterMap] at hy
    obtain ⟨⟨c', ls⟩, hc, ⟨l', sl⟩, hl, hif⟩ := hy
    split at hif
    · rename_i hcond
      cases hif
      obtain ⟨-, hc⟩ := mem_numbered.mp hc
      obtain ⟨-, hl⟩ := mem_numbered.mp hl
      exact ⟨sl, slot?_iff_carriers.mpr ⟨ls, hc, hl⟩, hcond.2⟩
    · cases hif
  · cases hy

theorem readyLine_of_available {tag : Id32} {seq : Nat} {l : Line} (h : available s tag = true) (ho : openLine s seq tag = some l) :
    l.tag = tag ∧ ReadyLine s l := by
  obtain ⟨y, c, k, sl, hslot, hx, hsl, hst⟩ := available_iff.mp h
  obtain ⟨sl', hsl', htag⟩ := slotOf_slot? hslot
  rw [hsl] at hsl'
  cases hsl'
  simp only [openLine, hslot, hsl, Option.some.injEq] at ho
  subst ho
  exact ⟨rfl, sl, hsl, hst, htag, rfl, Option.isSome_iff_ne_none.mp hx⟩

/-- The lines of an order have the tags of its request, in order. -/
theorem openLines_ready {tags : List Id32} (h : ∀ t ∈ tags, available s t = true) (n : Nat) :
    ((numbered n tags).filterMap fun q => openLine s q.1 q.2).map Line.tag = tags
      ∧ ∀ l ∈ (numbered n tags).filterMap fun q => openLine s q.1 q.2, ReadyLine s l := by
  induction tags generalizing n with
  | nil => simp [numbered]
  | cons t ts ih =>
    obtain ⟨ht, hts⟩ := List.forall_mem_cons.mp h
    obtain ⟨hmap, hready⟩ := ih hts (n + 1)
    obtain ⟨l, hl, -⟩ := openLine_of_available ht n
    obtain ⟨htag, hrl⟩ := readyLine_of_available ht hl
    simp only [numbered, List.filterMap_cons, hl, List.map_cons, htag, hmap, true_and]
    exact List.forall_mem_cons.mpr ⟨hrl, hready⟩

namespace Booked

theorem reserveOut (hs : Booked s) {l : Line} (h : ReadyLine s l) (id : Id32) : Booked (reserveOut id s l) := by
  obtain ⟨sl, hsl, hst, -, hm, hx⟩ := h
  obtain ⟨hheld, hclear, hr⟩ := isStocked_iff.mp hst
  have hcount : sl.counted = sl.recorded := (hs.slots _ (hs.serving _ hx) _ _ sl hsl).stocked hr hheld (by simp [hclear])
  have hsound : SlotCounted { sl with reservation := .outbound id l.seq .planned } :=
    ⟨by simp, by simp, by simp, by simp, fun _ _ _ => ⟨hheld, hcount⟩, by simp⟩
  unfold Machine.reserveOut
  dsimp only
  rw [modSlot_of_get hsl, hm]
  refine hs.exchange hsl (fun _ => hsound) (fun h => absurd h hx) (fun _ => by simp [Named.onE]) fun _ => ?_
  rw [plannedMass_out rfl, plannedMass_none hr]
  simp [Named.onP]

theorem reserveLines (id : Id32) (ls : List Line) (s : State) (hs : Booked s) (hn : (ls.map Line.tag).Nodup)
    (hready : ∀ l ∈ ls, ReadyLine s l) : Booked (ls.foldl (Machine.reserveOut id) s) := by
  induction ls generalizing s with
  | nil => exact hs
  | cons l ls ih =>
    obtain ⟨hl, hls⟩ := List.forall_mem_cons.mp hready
    obtain ⟨hnot, hn⟩ := List.nodup_cons.mp hn
    refine ih _ (hs.reserveOut hl id) hn fun l' hl' => (hls l' hl').reserveOut hl (fun e => hnot ?_) id
    rw [← e]
    exact List.mem_map_of_mem hl'

theorem openOrder (hs : Booked s) {r : OrderRequest} (h : firstFailure (orderChecks s r) = none) : Booked (openOrder r s) := by
  have hall := firstFailure_none_iff.mp h
  have hav : ∀ t ∈ r.tags, available s t = true := fun t ht => by
    obtain ⟨i, hi⟩ := List.getElem?_of_mem ht
    exact hall (available s t, .unavailable, i + 1 + 0) (List.mem_append_right _
      (List.mem_map.mpr ⟨(i, t), mem_numbered.mpr ⟨Nat.zero_le i, hi⟩, rfl⟩))
  have hnodup : r.tags.Nodup := by
    refine List.pairwise_iff_getElem.mpr fun i j hi hj hij he => ?_
    have := hall (!(r.tags.take j).contains r.tags[j], .conflict, j + 1 + 0) (by
      unfold orderChecks
      refine List.mem_append_left _ (List.mem_append_left _ (List.mem_append_right _ ?_))
      exact List.mem_map.mpr ⟨(j, r.tags[j]), mem_numbered.mpr ⟨Nat.zero_le j, by simp⟩, rfl⟩)
    simp only [Bool.not_eq_true', List.contains_eq_mem, decide_eq_false_iff_not] at this
    exact this (he ▸ List.mem_take_iff_getElem.mpr ⟨i, by omega, rfl⟩)
  obtain ⟨hmap, hready⟩ := openLines_ready hav 1
  unfold Machine.openOrder
  dsimp only
  refine of_books ?_ (books_judgeActivation _)
  refine reserveLines r.id (openLines s r.tags) _ (hs.of_books (by simp)) ?_ fun l hl => hready l hl
  unfold openLines
  rw [show ((numbered 1 r.tags).filterMap fun (seq, t) => openLine s seq t).map Line.tag = r.tags from hmap]
  exact hnodup

end Booked

end Sys2Proof.Machine

/-! SUPPORT. Every request keeps the books sound: those that move mass or take a group into service or out of it by the lemmas about
them, the others because they leave the books as they are. -/

namespace Sys2Proof.Machine

open Sys2Proof

namespace Booked

variable {s : State} {g : Index} {grp : Group}

/-- What leaves the books as they are, with the scheduler's turns after it. -/
theorem turnsAfter (hs : Booked s) {t : State} (h : t.books = s.books) (events : List Index) (before : State) :
    Booked (Machine.giveTurns events before t) := (hs.of_books h).giveTurns events before

theorem resumeDevice (hs : Booked s) : Booked (resumeDevice s) := by
  unfold Machine.resumeDevice
  split
  · exact hs
  · exact hs.turnsAfter (books_setLink s _) _ _

theorem continued_books (grp : Group) : grp.continued.books = grp.books := by
  unfold Group.continued
  split
  · split
    · exact Group.books_eq rfl (by simp [*]) rfl rfl
    · exact Group.books_eq rfl (by simp [*]) rfl rfl
  · rfl
  · rfl

theorem continueGroups (hs : Booked s) (gs : List Index) : Booked (continueGroups gs s) :=
  hs.turnsAfter (foldl_field State.books _ (fun _ _ => books_modGroup continued_books) gs s) _ _

/-! ### Carousels and groups -/

theorem runSetCarousel (hs : Booked s) (p : List Byte) : Booked (runSetCarousel p s).1 := by
  refine keeps_checked _ _ hs fun hc => ?_
  split
  · exact keeps_checked _ _ hs fun hc' => hs.configured hc hc'
  · exact hs

theorem runSetGroup (hs : Booked s) (p : List Byte) : Booked (runSetGroup p s).1 := by
  refine keeps_checked _ _ hs fun hc => ?_
  split
  · exact keeps_checked _ _ hs fun hc' => hs.grouped hc hc'
  · exact hs

theorem runCommission (hs : Booked s) (p : List Byte) : Booked (runCommission p s).1 := by
  refine keeps_withGroup _ _ hs fun g grp hg => keeps_checked _ _ hs fun hc => ?_
  dsimp only
  split
  · exact (hs.commissioned hg hc).of_books (books_enterReferencing _ g)
  · refine hs.unloaded hg ?_
    simpa using firstFailure_none_iff.mp hc (grp.state == .offline, .state, 0xFF) (by simp [commissionChecks])

theorem runPause (hs : Booked s) (p : List Byte) : Booked (runPause p s).1 := by
  unfold Machine.runPause
  split
  · exact hs.of_books (books_pauseAll s)
  · refine keeps_withGroup _ _ hs fun g grp hg => ?_
    split
    · exact hs
    · exact hs.of_books (books_pauseOne s hg)

theorem runContinue (hs : Booked s) (p : List Byte) : Booked (runContinue p s).1 := by
  unfold Machine.runContinue
  split
  · exact hs.continueGroups _
  · refine keeps_withGroup _ _ hs fun g grp _ => ?_
    split
    · exact hs.continueGroups _
    · exact hs

/-! ### CLEAR_FAULT -/

theorem clearGroup (hs : Booked s) (hg : s.groups.get g = some grp) : Booked (clearGroup g grp s).1 := by
  refine keeps_checked _ _ hs fun hc => hs.of_books ?_
  have hf : grp.state = .faulted := by simpa using firstFailure_none_iff.mp hc _ List.mem_cons_self
  refine (books_enterReferencing _ g).trans ?_
  exact books_set hg (Group.books_eq rfl (by simp [Group.cleared, hf]) rfl rfl)

theorem clearBalance (hs : Booked s) (hg : s.groups.get g = some grp) : Booked (clearBalance g grp s).1 :=
  keeps_checked _ _ hs fun _ => hs.of_books (books_set hg rfl)

theorem clearPort (hs : Booked s) (p : Index) : Booked (clearPort p s).1 :=
  keeps_checked _ _ hs fun _ => hs.turnsAfter (by simp) _ _

theorem clearStation (hs : Booked s) (n : Nat) : Booked (clearStation n s).1 := by
  unfold Machine.clearStation
  split
  · exact hs
  · exact keeps_checked _ _ hs fun _ => hs.turnsAfter (books_clearStationFault s _ _) _ _

theorem runClearFault (hs : Booked s) (p : List Byte) : Booked (runClearFault p s).1 := by
  unfold Machine.runClearFault
  dsimp only
  split
  · split
    · exact hs
    · split
      · exact keeps_withGroup _ _ hs fun _ _ hg => hs.clearGroup hg
      · split
        · exact keeps_withGroup _ _ hs fun _ _ hg => hs.clearBalance hg
        · exact hs
  · split
    · exact hs
    · split
      · exact hs.clearPort _
      · exact hs
  · split
    · exact hs.clearStation _
    · exact hs
  · exact hs

/-! ### Stores and orders -/

theorem runStore (hs : Booked s) (p : List Byte) : Booked (runStore p s).1 := by
  refine keeps_checked _ _ hs fun _ => ?_
  split
  · exact keeps_checked _ _ hs fun _ => hs.of_books (books_openStore s _ _)
  · exact hs

theorem runStoreWithdraw (hs : Booked s) (p : List Byte) : Booked (runStoreWithdraw p s).1 := by
  unfold Machine.runStoreWithdraw
  split
  · exact hs
  · split
    · exact hs
    · split
      · exact hs
      · exact (hs.withdrawStore _ _).giveTurns _ _

theorem runStoreQuery (hs : Booked s) (p : List Byte) : Booked (runStoreQuery p s).1 := by
  unfold Machine.runStoreQuery
  split
  · exact hs
  · exact hs.of_books (books_queryStore s _)

theorem runOrderOpen (hs : Booked s) (p : List Byte) : Booked (runOrderOpen p s).1 := by
  refine keeps_checked _ _ hs fun hc => ?_
  dsimp only
  exact (hs.openOrder hc).giveTurns _ _

theorem runOrderCancel (hs : Booked s) (p : List Byte) : Booked (runOrderCancel p s).1 := by
  unfold Machine.runOrderCancel
  split
  · exact hs
  · split
    · exact (hs.cancelLines _).giveTurns _ _
    · exact hs

/-! ### Station and audit -/

theorem runLaneRelease (hs : Booked s) (p : List Byte) : Booked (runLaneRelease p s).1 := by
  unfold Machine.runLaneRelease
  split
  · exact hs
  · split
    · exact hs
    · exact hs.turnsAfter (books_releaseLane s _) _ _

theorem runSetStation (hs : Booked s) (p : List Byte) : Booked (runSetStation p s).1 :=
  keeps_checked _ _ hs fun _ => hs.turnsAfter (books_replaceSettings s _) _ _

theorem runAuditStart (hs : Booked s) (p : List Byte) : Booked (runAuditStart p s).1 :=
  keeps_withCarousel _ _ hs fun _ => keeps_checked _ _ hs fun _ => hs.turnsAfter (books_startTask s _ _ _ _ _) _ _

theorem runAuditStop (hs : Booked s) (p : List Byte) : Booked (runAuditStop p s).1 := by
  refine keeps_withCarousel _ _ hs fun x => ?_
  split
  · exact hs
  · split
    · exact hs.turnsAfter (books_stopTask s _ _) _ _
    · exact hs

theorem runLogRead (hs : Booked s) (p : List Byte) : Booked (runLogRead p s).1 :=
  keeps_checked _ _ hs fun _ => hs.turnsAfter (books_consumeLog s _) _ _

theorem run (hs : Booked s) {r : Request} (hr : r ∈ requestKinds) (p : List Byte) : Booked (r.run p s).1 := by
  simp only [requestKinds, List.mem_cons, List.not_mem_nil, or_false] at hr
  rcases hr with rfl | rfl | rfl | rfl | rfl | rfl | rfl | rfl | rfl | rfl | rfl | rfl | rfl | rfl | rfl | rfl | rfl | rfl |
    rfl | rfl | rfl | rfl | rfl | rfl | rfl | rfl | rfl | rfl | rfl | rfl | rfl | rfl | rfl
  · exact hs
  · exact hs
  · exact keeps_checked _ _ hs fun _ => hs.of_books rfl
  · exact keeps_checked _ _ hs fun _ => hs.of_books rfl
  · exact hs.resumeDevice
  · exact hs
  · exact hs.runSetCarousel p
  · exact hs.runSetGroup p
  · exact hs.runCommission p
  · exact hs.runPause p
  · exact hs.runContinue p
  · exact hs.runClearFault p
  · exact keeps_withGroup _ _ hs fun _ _ hg => keeps_checked _ _ hs fun _ => hs.groupReset hg
  · exact WorkClosed.runBalanceRead p hs
  · exact hs.runMapBegin p
  · exact hs.runMapPut p
  · exact hs.runMapCommit p
  · exact WorkClosed.runMapRead p hs
  · exact WorkClosed.runSlotQuery p hs
  · exact hs.runSlotResolve p
  · exact hs.runStore p
  · exact hs.runStoreWithdraw p
  · exact hs.runStoreQuery p
  · exact hs.runOrderOpen p
  · exact hs.runOrderCancel p
  · exact WorkClosed.runOrderQuery p hs
  · exact hs.runLaneRelease p
  · exact hs.runSetStation p
  · exact WorkClosed.runStationQuery p hs
  · exact hs.runAuditStart p
  · exact hs.runAuditStop p
  · exact keeps_withCarousel _ _ hs fun _ => hs
  · exact hs.runLogRead p

end Booked

theorem bookedRequests : RequestClosed Booked where
  run hr p _ hs := hs.run hr p
  broadcast hr _ hb hs := by
    rcases broadcast_cases hr hb with rfl | rfl | rfl
    · exact hs.resumeDevice
    · exact hs.of_books (books_pauseAll _)
    · exact hs.continueGroups _

end Sys2Proof.Machine

/-! SUPPORT. The events that move mass keep the books sound: transfers that complete or jam, and the weighing that ends in placement
(R84, R86, R88, R89, R99 to R102). What their ports and stores name comes from `StockSound`. -/

namespace Sys2Proof.Machine

open Sys2Proof

variable {s t : State} {p : Index} {c l : Nat} {sl : Slot}

/-! ## Slots as transfers leave them -/

theorem filled_slotCounted (h : SlotCounted sl) {q : Index} {tag : Id32} {m : Nat} (hr : sl.reservation = .inbound q tag m .started)
    (r : StoreRecord) : SlotCounted (sl.filled r) :=
  .of_quiet rfl (by simp [Slot.filled, hr, h.inserting q tag m hr]) (by simp [Slot.filled])

namespace Booked

/-- A transfer ends at its slot: the record is free of its reservation and counts what it did. -/
theorem transferEnds (hs : Booked s) (hsl : s.slot? p c l = some sl)
    (hr : (∃ q tag m, sl.reservation = .inbound q tag m .started) ∨ ∃ id seq, sl.reservation = .outbound id seq .started)
    {sl' : Slot} (hc : SlotCounted sl → SlotCounted sl') (hm : sl'.counted = sl.counted) (hr' : sl'.reservation = .none) :
    Booked (s.setSlot p c l sl') := by
  obtain ⟨hx, hcounted⟩ := hs.reserved hsl (by rcases hr with ⟨_, _, _, e⟩ | ⟨_, _, e⟩ <;> simp [e])
  refine hs.setSlot hsl (fun _ => hc hcounted) (fun h => absurd h hx) (fun _ => hm) fun _ => ?_
  rw [plannedMass_none hr', hm, plannedMass_started rfl hr]

theorem completeInsertion (hs : Booked s)
    (hjob : ∀ j, (s.ports.get p).job = some j →
      ∃ sl q tag m, s.slot? p j.carrier j.level = some sl ∧ sl.reservation = .inbound q tag m .started) :
    Booked (completeInsertion p s) := by
  unfold Machine.completeInsertion
  split
  · rename_i j r hj _
    obtain ⟨sl, q, tag, m, hsl, hr⟩ := hjob j hj
    dsimp only
    rw [modSlot_of_get hsl]
    exact (hs.transferEnds (sl' := sl.filled r) hsl (.inl ⟨q, tag, m, hr⟩) (filled_slotCounted · hr r) rfl rfl).of_books (by simp)
  · exact hs

theorem completeExtraction (hs : Booked s)
    (hjob : ∀ j, (s.ports.get p).job = some j →
      ∃ sl id seq, s.slot? p j.carrier j.level = some sl ∧ sl.reservation = .outbound id seq .started) :
    Booked (completeExtraction p s) := by
  unfold Machine.completeExtraction
  split
  · exact hs
  · rename_i j hj
    obtain ⟨sl, id, seq, hsl, hr⟩ := hjob j hj
    simp only [hsl, Slot.outFor, hr]
    refine (hs.transferEnds (sl' := sl.emptied) hsl (.inr ⟨id, seq, hr⟩) (fun h => ?_) rfl rfl).of_books (by simp)
    exact .of_quiet rfl (h.extracting id seq hr) fun _ => rfl

/-! ## Jams (R88 to R90) -/

theorem jamInsertion (hs : Booked s)
    (hjob : ∀ j, (s.ports.get p).job = some j →
      ∃ sl q tag m, s.slot? p j.carrier j.level = some sl ∧ sl.reservation = .inbound q tag m .started) :
    Booked (jamInsertion p s) := by
  unfold Machine.jamInsertion
  split
  · rename_i j r hj _
    obtain ⟨sl, q, tag, m, hsl, hr⟩ := hjob j hj
    dsimp only
    rw [modSlot_of_get hsl]
    refine (hs.transferEnds (sl' := { sl.filled r with condition := .blocked, finding := some .insertJam }) hsl
      (.inl ⟨q, tag, m, hr⟩) (fun h => ?_) rfl rfl).of_books (by simp)
    exact (filled_slotCounted h hr r).of_same rfl rfl rfl rfl (by simp)
  · exact hs

theorem jamExtraction (hs : Booked s)
    (hjob : ∀ j, (s.ports.get p).job = some j →
      ∃ sl id seq, s.slot? p j.carrier j.level = some sl ∧ sl.reservation = .outbound id seq .started) :
    Booked (jamExtraction p s) := by
  unfold Machine.jamExtraction
  split
  · exact hs
  · rename_i j hj
    obtain ⟨sl, id, seq, hsl, hr⟩ := hjob j hj
    simp only [hsl, Slot.outFor, hr]
    refine (hs.transferEnds (sl' := { sl with condition := .blocked, reservation := .none, finding := some .extractJam }) hsl
      (.inr ⟨id, seq, hr⟩) (fun h => ?_) rfl rfl).of_books (by simp)
    exact ⟨fun _ _ => h.extracting id seq hr, by simp, by simp, by simp, by simp, by simp⟩

theorem jam (hs : Booked s) (hk : StockSound s) (p : Index) : Booked (jam p s) := by
  unfold Machine.jam
  split <;> rename_i hp
  · exact hs.jamInsertion (hk.inserting p · hp)
  · exact hs.jamExtraction (hk.extracting p · hp)
  · exact hs.of_books (books_jamRelease s p)
  · exact hs

end Booked

/-! ## Port inputs (R75, R84, R86) -/

/-- Taking an input leaves the slot of the job as it is. -/
theorem take_job_place (port : Port) (i : PortInput) (v : Bool) :
    (port.take i v).job.map (fun j => (j.carrier, j.level)) = port.job.map fun j => (j.carrier, j.level) := by
  unfold Port.take
  split
  · rw [Option.map_map]
    cases i <;> rfl
  · cases i <;> rfl

/-- Judging INTERLOCK leaves the shuttle and the job of every port as they are. -/
theorem judgeInterlock_port (q : Index) (i : PortInput) (v : Bool) (s : State) (p : Index) :
    ((judgeInterlock q i v s).ports.get p).shuttle = (s.ports.get p).shuttle
      ∧ ((judgeInterlock q i v s).ports.get p).job = (s.ports.get p).job := by
  unfold judgeInterlock
  split
  · split
    · rcases groupFault_port _ .interlock s p with h | h <;> rw [h] <;> exact ⟨rfl, rfl⟩
    · exact ⟨rfl, rfl⟩
  · exact ⟨rfl, rfl⟩

namespace Booked

theorem takeInput (hs : Booked s) (hk : StockSound s) (p : Index) (i : PortInput) (v : Bool) : Booked (takeInput p i v s).1 := by
  unfold Machine.takeInput
  have hbooks : (judgeInterlock p i v (s.modPort p fun port => port.take i v)).books = s.books := by
    rw [books_judgeInterlock, books_modPort]
  obtain ⟨hshuttle, hjob⟩ := judgeInterlock_port p i v (s.modPort p fun port => port.take i v) p
  generalize judgeInterlock p i v (s.modPort p fun port => port.take i v) = u at hbooks hshuttle hjob
  rw [modPort_ports, Quad.get_set_same] at hshuttle hjob
  rw [take_shuttle] at hshuttle
  have hu : Booked u := hs.of_books hbooks
  have place : ∀ j, (u.ports.get p).job = some j →
      ∃ j', (s.ports.get p).job = some j' ∧ j'.carrier = j.carrier ∧ j'.level = j.level := by
    intro j hj
    have h := take_job_place (s.ports.get p) i v
    rw [← hjob, hj] at h
    obtain ⟨j', hj', he⟩ := Option.map_eq_some_iff.mp h.symm
    exact ⟨j', hj', congrArg Prod.fst he, congrArg Prod.snd he⟩
  dsimp only
  split
  · rename_i hd
    refine hu.completeInsertion fun j hj => ?_
    obtain ⟨j', hj', hc, hl⟩ := place j hj
    rw [← hc, ← hl, slot?_of_books hbooks]
    exact hk.inserting p j' (hshuttle ▸ (insertionDone_iff.mp hd).1) hj'
  · split
    · rename_i hd
      refine hu.completeExtraction fun j hj => ?_
      obtain ⟨j', hj', hc, hl⟩ := place j hj
      rw [← hc, ← hl, slot?_of_books hbooks]
      exact hk.extracting p j' (hshuttle ▸ (extractionDone_iff.mp hd).1) hj'
    · exact hu

/-! ## Weighing and placement (R79, R80, R99 to R102) -/

theorem rejectStore (hs : Booked s) (p : Index) (why : StoreReason) : Booked (rejectStore p why s) :=
  hs.of_books (books_rejectStore s p why)

/-- A free slot is reserved in for the store at its port. -/
theorem place (hs : Booked s) (hx : s.serviceGroup p ≠ none) {cand : Candidate} (hsl : s.slot? p cand.carrier cand.level = some sl)
    (hfree : sl.isFree = true) (trial m : Nat) (r : StoreRecord) : Booked (place p cand trial m r s) := by
  obtain ⟨hempty, -, hr⟩ := isFree_iff.mp hfree
  have hzero : sl.counted = 0 := (hs.slots p (hs.serving p hx) _ _ sl hsl).free hr hempty
  have hsound : SlotCounted { sl with reservation := .inbound p r.tag m .planned } :=
    ⟨by simp, by simp, fun _ _ _ _ => ⟨hempty, hzero⟩, by simp, by simp, by simp⟩
  rw [place_eq hsl trial m r rfl]
  refine (hs.exchange (sl' := { sl with reservation := .inbound p r.tag m .planned }) (dm := m) (w := .planned) hsl (fun _ => hsound)
    (fun h => absurd h hx) (fun _ => by simp [Named.onE]) fun _ => ?_).of_books (by simp)
  rw [plannedMass_in rfl, plannedMass_none hr]
  simp [Named.onP]

theorem runPlacement (hs : Booked s) (hx : s.serviceGroup p ≠ none) (r : StoreRecord) (m : Nat) : Booked (runPlacement p r m s) := by
  unfold Machine.runPlacement
  split
  · split
    · exact hs.rejectStore _ _
    · dsimp only
      split
      · rename_i cand hbest
        obtain ⟨c, l, sl, hsl, hfree, -, rfl⟩ := mem_candidates.mp (List.mem_of_mem_filter (bestBy_spec hbest).1)
        exact hs.place hx hsl hfree _ _ _
      · exact hs.rejectStore _ _
  · exact hs.rejectStore _ _

theorem judgeWeighing (hs : Booked s) (hx : s.serviceGroup p ≠ none) (made sum hi lo : Nat) :
    Booked (judgeWeighing p made sum hi lo s) := by
  unfold Machine.judgeWeighing
  split
  · split
    · exact hs.rejectStore _ _
    · exact hs.of_books (books_modPort s p _)
  · dsimp only
    split
    · exact hs.rejectStore _ _
    · unfold endWithMass
      split
      · exact hs
      · exact (hs.of_books (books_setStore s p _)).runPlacement hx _ _

theorem takeSample (hs : Booked s) (hk : StockSound s) (p : Index) (reading : Int) : Booked (takeSample p reading s) := by
  unfold Machine.takeSample
  split
  · rename_i hinf _
    obtain ⟨hx, -⟩ := hk.infeed p (by simp [hinf])
    have hmod : Booked (s.modStore p fun r => { r with weighings := r.weighings + 1 }) := hs.of_books (books_modStore s p _)
    dsimp only
    split
    · exact hmod.rejectStore _ _
    · split
      · refine hmod.judgeWeighing ?_ _ _ _ _
        rw [serviceGroup_of_books (books_modStore s p _)]
        exact hx
      · exact hs.of_books (books_modPort s p _)
  · exact hs

theorem takeInfeedTag (hs : Booked s) (p : Index) (answer : Option Id32) : Booked (takeInfeedTag p answer s) := by
  unfold Machine.takeInfeedTag
  split
  · split
    · exact hs.of_books (books_modPort s p _)
    · exact hs.rejectStore _ _
  · exact hs

end Booked

end Sys2Proof.Machine

/-! SUPPORT. Every step keeps the profiles the sums that they are defined as (R42): no event, request, frame or start of a run leaves
unsound books where the stock was sound. -/

namespace Sys2Proof.Machine

open Sys2Proof

/-- Sound books over a sound stock. -/
structure Stocked (s : State) : Prop where
  booked : Booked s
  stock : StockSound s

theorem Stocked.queued {s : State} (hs : Stocked s) (cs : List Instr) : Stocked { s with pending := cs } where
  booked := hs.booked.of_books rfl
  stock := ⟨hs.stock.members, hs.stock.slots, hs.stock.quiet, hs.stock.serving, hs.stock.infeed, hs.stock.store,
    hs.stock.inserting, hs.stock.extracting⟩

theorem bookedEvents : EventClosed Stocked Booked where
  weak _ hs := hs.booked
  turns events before _ hs := hs.giveTurns events before
  groupFault s g _ hc hs := hs.of_books (books_groupFault s hc g)
  aged s p _ hs := hs.of_books (books_modStore s p _)
  restJudged s p _ _ _ _ hs := hs.booked.of_books (books_modPort s p _)
  watchdogExpiry s _ hs := hs.booked.of_books (by
    rw [books_followRun, foldl_field State.books _ books_holdGroup, books_raiseEvent, books_setLink])
  takeMark s g home hs := hs.booked.of_books (books_takeMark s g home)
  pulse _ _ _ hs := hs.booked.of_books (books_modGroup fun grp => by
    unfold Group.pulse
    split <;> rfl)
  settled s g grp hg hm _ hs := hs.booked.of_books (books_set hg (by
    unfold Group.settled
    split
    · exact paused_books (by simp [hm])
    · exact Group.books_eq rfl (by simp [hm]) rfl rfl))
  referenced s g grp hg hr _ hs := hs.booked.of_books (books_set hg (Group.books_eq rfl (by simp [hr]) rfl rfl))
  dflt s g _ hs := hs.booked.of_books (books_modChannel s g _)
  endVisit s g t hs := hs.booked.of_books (books_endVisit s g t)
  takeInput _ p i v hs := hs.booked.takeInput hs.stock p i v
  takeInfeedTag _ p answer hs := hs.booked.takeInfeedTag p answer
  takeSample _ p reading hs := hs.booked.takeSample hs.stock p reading
  answerFaceTag _ p level answer hs := hs.booked.answerFaceTag p level answer
  endScan _ p hs := hs.booked.endScan p
  jam _ p hs := hs.booked.jam hs.stock p
  completeRelease s p _ hs := hs.booked.of_books (books_completeRelease s p)
  strayEntry s hs := hs.booked.of_books (books_strayEntry s)
  takeLaneEntry s lane hs := hs.booked.of_books (books_takeLaneEntry s lane)
  stationFault s kind hs := hs.booked.of_books (books_stationFault s kind)
  releaseLane s lane hs := hs.booked.of_books (books_releaseLane s lane)

theorem bookedLine : LineClosed Booked Booked :=
  .of_linkFree (fun s l hs => hs.of_books (books_setLink s l)) (fun _ _ => .of_empty rfl rfl) (fun _ _ => .of_empty rfl rfl)
    fun _ _ hs => hs.of_books rfl

/-- Raising RUN leaves the books as they are. -/
theorem books_raiseRun (g : Index) (dir : Direction) (speed : SpeedClass) (s : State) : (raiseRun g dir speed s).books = s.books := by
  unfold raiseRun
  rw [books_followRun]
  refine (books_modGroup ?_).trans (books_modChannel s g _)
  exact fun _ => rfl

/-- A move that starts takes no group into service or out of it. -/
theorem books_startMove {s : State} {g : Index} {grp : Group} (hg : s.groups.get g = some grp) (hi : grp.state = .idle)
    (a : MoveAnswer) : (startMove g a s).books = s.books := by
  have hu : (raiseRun g a.dir a.cls s).groups.get g =
      some { grp with stallTimer := some grp.params.stallTime, lastSample := none, invalidCount := 0 } := by
    rw [raiseRun_groups, Quad.get_set_same, hg]
    rfl
  unfold startMove
  dsimp only
  rw [modGroup_some _ hu]
  refine (books_set hu ?_).trans (books_raiseRun g a.dir a.cls s)
  exact Group.books_eq rfl (by simp [hi]) rfl rfl

theorem bookedStart : StartClosed Booked where
  referencing s g grp hg _ hs := hs.of_books ((books_raiseRun g .forward .creep _).trans (books_set hg rfl))
  move s g grp m k a hg hc _ _ hm _ hs := hs.of_books (books_startMove hg ((moveStarts_iff hg).mp hm).1 a)

theorem Booked.slotBegun {s : State} (hs : Booked s) (g : Index) : Booked { s with startSlot := g } := hs.of_books rfl

/-- Every step leaves sound books where the stock was sound. -/
theorem Stocked.step {s t : State} (hs : Stocked s) (he : step s = .next t) : Booked t := by
  unfold Machine.step at he
  split at he
  · cases he
    exact hs.booked
  · rename_i c cs _
    have hq := hs.queued cs
    by_cases hc : ∃ g, c = .startSlot g
    · obtain ⟨g, rfl⟩ := hc
      cases he
      exact bookedStart.beginSlot g (hq.booked.slotBegun g)
    · exact keeps_exec_of_not_startSlot bookedLine bookedEvents bookedRequests (fun g e => hc ⟨g, e⟩) hq he

end Sys2Proof.Machine

namespace Sys2Proof.Certificates

open Sys2Proof Sys2Proof.Machine

/-- Settles O58: the profiles are part of sound books (`Booked`), which every request keeps by itself and every event where the
stock is sound as well. -/
theorem stepKeepsProfilesDefined : Obligations.StepKeepsProfilesDefined :=
  fun _ _ hb hk hd he => (Stocked.step ⟨booked_of_stock hb hk hd, hk⟩ he).defined

end Sys2Proof.Certificates
